-- ==== Sys2Proof/Word.lean ====
section
/-! DEFINITION. The word types: a byte of the line and panel links, and the 32-bit reference tick count. -/

namespace Sys2Proof

/-- A byte on a line port or on the panel link (11, opening paragraph). -/
abbrev Byte := BitVec 8

/-- A value of the free-running 32-bit count of 1 µs reference ticks (01, section 1.2). -/
abbrev Tick := BitVec 32

end Sys2Proof
end

