-- ==== Sys2Proof/Syntax.lean ====
section
/-! DEFINITION. The commands: one constructor of `Instr` per row of spec/opcode_table.json.
The table gives the rows no operands; the operands here are the values the rules of the row read
from outside (a level, a port, a reading, the bytes decoded). -/

namespace Sys2Proof

/-- A telephone line interface; the word port always means one of these (00, Names). -/
inductive PortId where
  | a
  | b
deriving DecidableEq, Repr

/-- The alternate port is the other port (00, Names). -/
def PortId.other : PortId → PortId
  | .a => .b
  | .b => .a

/-- The direction of a quadrature edge (R1). -/
inductive Dir where
  | forward
  | reverse
deriving DecidableEq, Repr

/-- The errors that end a reception as a block error, but for the gap error, which has a row of its own (R101). -/
inductive BlockErr where
  | framing
  | length
  | crc
deriving DecidableEq, Repr

/-- What a port's own receive path decodes of a byte it sends (R80): a byte, a byte with a framing error, or nothing within
2 bit times after the byte's stop bit. -/
inductive Echo where
  | byte (b : Byte)
  | framing
  | absent
deriving DecidableEq, Repr

/-- What a port's receive path has decoded of the bytes the port sent of its report, from the first sync byte on (R80). -/
structure Heard where
  port : PortId
  echoes : List Echo
deriving DecidableEq, Repr

/-- The commands, in the order of the table's rows. -/
inductive Instr where
  /-- POWER_ON (R177): the debounced cover and paper levels and the seven straps read at power-on
  (bits 5..0 the code straps, bit 6 the parity strap, R176). -/
  | powerOn (coverClosed paperPresent : Bool) (straps : BitVec 7)
  /-- ENCODER_COUNT (R1): one quadrature edge. -/
  | encoderCount (dir : Dir)
  /-- INDEX_PULSE (R2). -/
  | indexPulse
  /-- RAMP_TICK (R9). -/
  | rampTick
  /-- SPINUP_TIMER_EXPIRY (R10). -/
  | spinupTimerExpiry
  /-- STALL_DEADLINE (R21). -/
  | stallDeadline
  /-- BRAKING_TIMER_EXPIRY (R14). -/
  | brakingTimerExpiry
  /-- WINDOW_SILENCE_TIMER_EXPIRY (R14). -/
  | windowSilenceTimerExpiry
  /-- CYCLE_END (R20). -/
  | cycleEnd
  /-- COVER_CHANGE (R16): the level that has held for 20 ms. -/
  | coverChange (closed : Bool)
  /-- CONVERSION_COMPLETE (R49): the 12-bit result. -/
  | conversionComplete (reading : BitVec 12)
  /-- LAMP_WARM_TIMER_EXPIRY (R46). -/
  | lampWarmTimerExpiry
  /-- STEP_TIMER_EXPIRY (R52). -/
  | stepTimerExpiry
  /-- HOME_SENSOR_ASSERT (R56): the home sensor's level, true when it asserts. -/
  | homeSensorAssert (level : Bool)
  /-- CADENCE_EVENT (R89). -/
  | cadenceEvent
  /-- ATTEMPT_START (R144). -/
  | attemptStart
  /-- START_TONE_TIMER_EXPIRY (R87). -/
  | startToneTimerExpiry
  /-- STOP_TONE_TIMER_EXPIRY (R96). -/
  | stopToneTimerExpiry
  /-- LINEUP_START (R98). -/
  | lineupStart
  /-- LINEUP_WHITE_TIMER_EXPIRY (R98). -/
  | lineupWhiteTimerExpiry
  /-- LINEUP_BLACK_TIMER_EXPIRY (R98). -/
  | lineupBlackTimerExpiry
  /-- LOOP_CURRENT_LOST (R82). -/
  | loopCurrentLost (p : PortId)
  /-- LOOP_CURRENT_RETURN (R82). -/
  | loopCurrentReturn (p : PortId)
  /-- LOOP_LOSS_TIMER_EXPIRY (R82). -/
  | loopLossTimerExpiry (p : PortId)
  /-- BREAK_TONE_PRESENT (R83). -/
  | breakTonePresent (p : PortId)
  /-- BREAK_TONE_ABSENT (R83). -/
  | breakToneAbsent (p : PortId)
  /-- BREAK_TIMER_EXPIRY (R83). -/
  | breakTimerExpiry (p : PortId)
  /-- RECEPTION_START (R100): a start bit, after `marks` whole bit times of unbroken mark. -/
  | receptionStart (p : PortId) (marks : Nat)
  /-- SYNC_FAILED (R100). -/
  | syncFailed (p : PortId)
  /-- BLOCK_ERROR (R101). -/
  | blockError (p : PortId) (err : BlockErr)
  /-- GAP_TIMER_EXPIRY (R101). -/
  | gapTimerExpiry (p : PortId)
  /-- BLOCK_TAKE (R103): the bytes decoded, from the first sync byte to the last CRC byte
  (or a part of them, the rest to come with a later command; log 19). -/
  | blockTake (p : PortId) (bytes : List Byte)
  /-- TURNAROUND_TIMER_EXPIRY (R79). -/
  | turnaroundTimerExpiry (p : PortId)
  /-- ECHO_FAILURE (R80): what was decoded of the report's bytes sent so far. -/
  | echoFailure (heard : Heard)
  /-- REPORT_END (R79, R80): the end of the report's last byte, with what was decoded of all its bytes. -/
  | reportEnd (heard : Heard)
  /-- POLL (R117): execution of the order at the head of the order queue, as for the ten rows below (log 6). -/
  | poll
  /-- GRANT (R140). -/
  | grant
  /-- CANCEL (R153). -/
  | cancel
  /-- RECEIPT (R150). -/
  | receipt
  /-- LOAD (R121). -/
  | load
  /-- CLOCK (R175). -/
  | clock
  /-- LINEUP (R97). -/
  | lineup
  /-- LINE_CLEAR (R84). -/
  | lineClear
  /-- MECH_CLEAR (R17). -/
  | mechClear
  /-- RESTART (R178). -/
  | restart
  /-- SLIP (R158). -/
  | slip
  /-- RECEIPT_TIMER_EXPIRY (R148). -/
  | receiptTimerExpiry
  /-- STROBE_END (R165). -/
  | strobeEnd
  /-- FEED_INTERVAL_EXPIRY (R165). -/
  | feedIntervalExpiry
  /-- COOL_TIMER_EXPIRY (R166). -/
  | coolTimerExpiry
  /-- PAPER_SENSOR_CHANGE (R167): the level that has held for 20 ms. -/
  | paperSensorChange (present : Bool)
  /-- PAPER_TIMER_EXPIRY (R167). -/
  | paperTimerExpiry
  /-- PANEL_LOAD (R138): the line count and the bytes of the slug. -/
  | panelLoad (lines : BitVec 16) (slug : List Byte)
  /-- SPIN (R18). -/
  | spin
  /-- STOP (R171). -/
  | stop
  /-- ABORT (R154). -/
  | abort
  /-- REPRINT (R158). -/
  | reprint
  /-- RESET_MECH (R17). -/
  | resetMech
  /-- PANEL_RECORD_MALFORMED (R170): the bytes decoded, `none` for a byte with a framing error. -/
  | panelRecordMalformed (bytes : List (Option Byte))
  /-- PANEL_GAP_TIMER_EXPIRY (R170). -/
  | panelGapTimerExpiry
  /-- PANEL_RECORD_SENT (R172). -/
  | panelRecordSent
  /-- CLOCK_SECOND (R174). -/
  | clockSecond
deriving DecidableEq, Repr

end Sys2Proof
end

