-- ==== Sys2Proof/Decode.lean ====
section
/-! DEFINITION. The commands that a word of spec/opcode_table.json spells: none, for no row of the table gives bits.
A block has no encoder and no instruction words. -/

namespace Sys2Proof

/-- The command that `nbits` bits of word `w` spell: none, whatever the word, since no row of the table has an encoding. -/
def decodeTableWord (_nbits _w : Nat) : Option Instr := none

end Sys2Proof
end

