-- ==== Sys2Proof/Machine/State.lean ====
section
/-! DEFINITION. The state of the part, block by block, as plain data, and its values after power-on.
A timer is `none` when stopped and `some n` when running with `n` reference ticks left. Counts are
natural numbers; the operations keep them in the ranges the rules give. -/

namespace Sys2Proof.Machine

/-- A countdown timer: stopped, or running with so many reference ticks left. -/
abbrev Timer := Option Nat

/-! ### Names of states (11, section 11.4) -/

/-- The drum states (01, section 1.3). -/
inductive DrumState where
  | stopped | spinup | tracking | locked | braking | cutoff
deriving DecidableEq, Repr

/-- The last drum fault (R15). -/
inductive DrumFault where
  | none | stall | reverse | encoder | overspeed | cover
deriving DecidableEq, Repr

/-- The bridge modes (R19). -/
inductive BridgeMode where
  | off | drive | brake
deriving DecidableEq, Repr

/-- The regulator's saturation memory (R30). -/
inductive SatMemory where
  | low | high | neither
deriving DecidableEq, Repr

/-- The scanner states (03, section 3.2). -/
inductive ScannerState where
  | idle | armed | running | finished
deriving DecidableEq, Repr

/-- The lamp states (03, section 3.3). -/
inductive LampState where
  | off | warming | warm | fault
deriving DecidableEq, Repr

/-- The head states (03, section 3.5). -/
inductive HeadState where
  | parked | positioning | ready | scanning | rewinding | fault
deriving DecidableEq, Repr

/-- What a photocell conversion is for: a white-patch reading or a PICTURE entry (R41). -/
inductive PhotoUse where
  | white | picture
deriving DecidableEq, Repr

/-- The source being converted; a photocell result may be marked for discarding (R45, R50). -/
inductive ConvSource where
  | photocell (use : PhotoUse) (discard : Bool)
  | thermistor
deriving DecidableEq, Repr

/-- The kinds of line store entry (04, section 4.2). -/
inductive EntryKind where
  | phasing | picture | gap
deriving DecidableEq, Repr

/-- The activity of a port (R77). -/
inductive Activity where
  | idle | answerDue | reporting | carrying
deriving DecidableEq, Repr

/-- The fault cause of a port (05, section 5.2). -/
inductive FaultCause where
  | none | echo | loop
deriving DecidableEq, Repr

/-- The receiver states of a line port (R100). -/
inductive RxState where
  | hunting | syncing | receiving
deriving DecidableEq, Repr

/-- The turnaround timer (R79): stopped, running, or held: stopped by a reception that began while it ran,
to start again at that reception's end (log 10). -/
inductive Turnaround where
  | stopped | running (left : Nat) | held
deriving DecidableEq, Repr

/-- The sender states (05, section 5.3). -/
inductive SenderState where
  | free | startTone | prefill | phasing | picture | drain | stopTone | doneOut | lineupWhite | lineupBlack
deriving DecidableEq, Repr

/-- The outcomes of an attempt (R146). -/
inductive AttemptOutcome where
  | complete | broken | line | drum | head | lamp | cancelled | aborted | restarted
deriving DecidableEq, Repr

/-- The states of a picture record (08, opening table). -/
inductive RecState where
  | empty | loaded | granted | sending | awaiting | finished
deriving DecidableEq, Repr

/-- The resend policies of a grant (08, section 8.1). -/
inductive Policy where
  | same | alternate
deriving DecidableEq, Repr

/-- The outcomes of a receipt item (08, section 8.1). -/
inductive ReceiptOutcome where
  | good | poor | resend | silent
deriving DecidableEq, Repr

/-- The final outcomes of a record (08, section 8.1). -/
inductive FinalOutcome where
  | delivered | partly | noReceipt | failed | cancelled | aborted
deriving DecidableEq, Repr

/-- The failure causes of a record (R155). -/
inductive FailCause where
  | none | line | lines | drum | head | lamp
deriving DecidableEq, Repr

/-- The slip status of a record (R156). -/
inductive SlipStatus where
  | none | owed | queued | printed
deriving DecidableEq, Repr

/-- The kinds of slip request (R156). -/
inductive SlipKind where
  | final | late | reprint
deriving DecidableEq, Repr

/-- The printer states (09, section 9.1). -/
inductive PrinterState where
  | idle | printing | paperOut | headHot
deriving DecidableEq, Repr

/-- Where the slip printing stands: dot line `dot` of image line `line`, or a dot line of the final feed (R164). -/
inductive PrintPos where
  | row (line dot : Nat)
  | feed (dot : Nat)
deriving DecidableEq, Repr

/-- The stage of the present dot line (R165): none, waiting for the thermistor reading, strobing, in the first or
in the second feed interval. -/
inductive DotPhase where
  | idle | reading | strobing | feedFirst | feedSecond
deriving DecidableEq, Repr

/-- The entries of the acceptance table (R105). -/
inductive Accept where
  | take | busy | refuse
deriving DecidableEq, Repr

/-- The polarity of a line profile (03, section 3.1). -/
inductive Polarity where
  | blackOnWhite | whiteOnBlack
deriving DecidableEq, Repr

/-- The order kinds, in code order 0x01 to 0x0B (11, section 11.1). -/
inductive OrderKind where
  | poll | grant | cancel | receipt | load | clock | lineup | lineClear | mechClear | restart | slip
deriving DecidableEq, Repr

/-- The report kinds (11, section 11.1). -/
inductive ReportKind where
  | status | ack | refuse | busy | done
deriving DecidableEq, Repr

/-- The reasons of REFUSE and BUSY (R116). -/
inductive Reason where
  | notAccepted | stationBusy | queueFull | unknownKind | noPicture | wrongState | unknownPicture | numberInUse
  | pictureTooLong | badTableData | badIndex | portFault | drumCutoff | coverOpen | noAttemptsLeft
deriving DecidableEq, Repr

/-- The notices of the panel link (11, section 11.5). -/
inductive Notice where
  | badValue | drumTurning | pictureActive | tooLong | tableFull | drumCutoff | sending | noPicture | wrongState
  | queueFull | coverOpen
deriving DecidableEq, Repr

/-- The inbound record kinds of the panel link (11, section 11.5). -/
inductive PanelKind where
  | load | spin | stop | abort | reprint | resetMech
deriving DecidableEq, Repr

/-- The station condition (R104). -/
inductive Condition where
  | quiet | sending | faulted
deriving DecidableEq, Repr

/-- The loaded table kinds, in the order of their numbers 1 to 9 (11, section 11.3). -/
inductive TableKind where
  | tone | standard | drum | scan | line | accept | roster | template | strobe
deriving DecidableEq, Repr

/-! ### The blocks -/

/-- The encoder counter (01, section 1.2). -/
structure Encoder where
  /-- The drum position P, 0..8,191 (R1). -/
  pos : Nat
  /-- The index-found flag (R2). -/
  indexFound : Bool
  /-- The reverse run, 0..255 (R1). -/
  reverseRun : Nat
  /-- The index-slip run (R2). -/
  slipRun : Nat
  /-- The current capture (R4). -/
  curCap : Option Tick
  /-- The previous capture (R4). -/
  prevCap : Option Tick
  /-- The last captured boundary (R4). -/
  lastBoundary : Option Nat
deriving DecidableEq, Repr

/-- The drum drive (01, section 1.3). -/
structure Drum where
  state : DrumState
  /-- The pending duty (R20). -/
  pendingDuty : Nat
  /-- The active duty (R20). -/
  activeDuty : Nat
  /-- The bridge mode in effect (R19). -/
  mode : BridgeMode
  /-- The DRIVE or BRAKE mode that takes effect at the next cycle end (R9, R14, R19). -/
  modeReq : Option BridgeMode
  /-- The cycle length in PWM clocks (R19). -/
  cycleLen : Nat
  /-- The cycle counter in PWM clocks (01, section 1.4). -/
  cycleCount : Nat
  spinupTimer : Timer
  rampTimer : Timer
  /-- The braking W latched at entry to BRAKING (R14). -/
  brakingW : Nat
  brakingTimer : Timer
  /-- The window silence timer (R14). -/
  silenceTimer : Timer
  /-- The stall deadline, or disarmed (R21). -/
  stallDeadline : Option Tick
  spinLatch : Bool
  lastFault : DrumFault
  /-- The unlocked-window count (R12). -/
  unlocked : Nat
deriving DecidableEq, Repr

/-- The speed regulator (02, section 2.1). -/
structure Regulator where
  /-- The integrator I, −524,287..+524,287. -/
  integ : Int
  memory : SatMemory
  lockCount : Nat
  unlockCount : Nat
deriving DecidableEq, Repr

/-- An entry of the line store (04, section 4.2). -/
structure Entry where
  kind : EntryKind
  level : Nat
  first : Bool
deriving DecidableEq, Repr

/-- An entry the scanner has taken and not yet offered (R42): a PICTURE entry's level is absent until its conversion
completes; the entry of a white-patch position waits for the white-patch conversion, though it has its level. -/
structure WaitEntry where
  kind : EntryKind
  level : Option Nat
  first : Bool
  /-- Its position lies in the white patch, and that conversion has not completed (R41, R42). -/
  white : Bool
deriving DecidableEq, Repr

/-- The scanner (03, section 3.2). -/
structure Scanner where
  state : ScannerState
  /-- The scan revolution counter. -/
  rev : Nat
  /-- The next sample position the scanner expects. -/
  k : Nat
  whiteSum : Nat
  whiteCount : Nat
  whiteSet : Bool
  wRef : Nat
  /-- Entries taken and not yet offered, oldest first (R42). -/
  waiting : List WaitEntry
  /-- Finished, with last entry written still to be signalled, the lamp's demand to end and the head to rewind (R44). -/
  signalDue : Bool
deriving DecidableEq, Repr

/-- The exposure lamp (R46). -/
structure Lamp where
  state : LampState
  warmTimer : Timer
deriving DecidableEq, Repr

/-- The converter and its arbiter (03, section 3.4): FREE when `current` is absent. -/
structure Converter where
  current : Option ConvSource
  photoWaiting : List PhotoUse
  thermWaiting : Bool
deriving DecidableEq, Repr

/-- The head unit (03, section 3.5). -/
structure Head where
  state : HeadState
  /-- The position H in steps from home. -/
  pos : Nat
  owed : Nat
  stepTimer : Timer
  rewindCount : Nat
  rewindLimit : Nat
deriving DecidableEq, Repr

/-- The line store (04, section 4.2); the fill F is the number of entries. -/
structure LineStore where
  entries : List Entry
  carry : Bool
  lastWritten : Bool
  accepted : Nat
  sent : Nat
  flushed : Nat
  overruns : Nat
  underruns : Nat
  skewReported : Bool
deriving DecidableEq, Repr

/-- The receiver of a line port (06, section 6.1). -/
structure Receiver where
  state : RxState
  markRun : Nat
  /-- The bytes of the block under assembly. -/
  bytes : List Byte
  crc : BitVec 16
  gapRunning : Bool
deriving DecidableEq, Repr

/-- A formed report: its kind, tag and payload (R114). -/
structure Report where
  kind : ReportKind
  tag : Byte
  payload : List Byte
deriving DecidableEq, Repr

/-- An item of a report list (R78). -/
inductive RepItem where
  | reservation
  | report (r : Report)
deriving DecidableEq, Repr

/-- A line port (05, section 5.2; 06, section 6.1). -/
structure Port where
  activity : Activity
  cause : FaultCause
  /-- The report list, head first (R78). -/
  list : List RepItem
  blockErrors : Nat
  echoFailures : Nat
  consecEcho : Nat
  loopTimer : Timer
  breakTimer : Timer
  turn : Turnaround
  rx : Receiver
  /-- The loop-current sense input (R82). -/
  loopCurrent : Bool
deriving DecidableEq, Repr

/-- A station clock reading (10, section 10.2); an unset reading is an absent one. -/
structure Reading where
  day : Nat
  month : Nat
  year : Nat
  hour : Nat
  minute : Nat
  second : Nat
deriving DecidableEq, Repr

/-- An attempt record (08, section 8.1). -/
structure Attempt where
  number : Nat
  port : PortId
  substituted : Bool
  startTime : Option Reading
  endTime : Option Reading
  duration : Nat
  outcome : Option AttemptOutcome
  linesSent : Nat
  underruns : Nat
  overruns : Nat
  flushed : Nat
  indexSlips : Nat
  headLate : Nat
  lockLost : Nat
deriving DecidableEq, Repr

/-- The picture sender (05, section 5.3). -/
structure Sender where
  state : SenderState
  port : Option PortId
  /-- The cadence accumulator (R89). -/
  acc : Nat
  cadenceOn : Bool
  lastLevel : Nat
  linesSent : Nat
  stageTimer : Timer
  lineupReq : Option PortId
  /-- The outcome held (R93). -/
  held : Option AttemptOutcome
  /-- The attempt being closed on the line, with its picture number: what the DONE is formed from (R96; log 33). -/
  closing : Option (Nat × Attempt)
deriving DecidableEq, Repr

/-- A queued order (06, section 6.3). `reserved` says that its reservation was placed on the arrival port's
list (R78; the model's link from an order to its reservation, log 24). -/
structure Order where
  port : PortId
  broadcast : Bool
  kind : OrderKind
  tag : Byte
  payload : List Byte
  reserved : Bool
deriving DecidableEq, Repr

/-! ### The loaded tables (07) -/

/-- One entry of the STANDARD table (R127). -/
structure Standard where
  w : Nat
  pitch : Nat
  dff : Nat
deriving DecidableEq, Repr

/-- The drum profile (R128). -/
structure DrumProfile where
  indexTol : Nat
  cycleExp : Nat
  deadTime : Nat
  dutyMin : Nat
  dutyMax : Nat
  rampStep : Nat
  spinupLimit : Nat
  brakeTime : Nat
  lockCount : Nat
  lockBand : Nat
  unlockBand : Nat
  kp : Nat
  ki : Nat
  g : Nat
  tl : Nat
deriving DecidableEq, Repr

/-- The scan profile (R129). -/
structure ScanProfile where
  windowStart : Nat
  windowEnd : Nat
  whiteStart : Nat
  whiteEnd : Nat
  darkLevel : Nat
  warmUp : Nat
  stepsPerLine : Nat
  stepInterval : Nat
  fastStepInterval : Nat
  startOffset : Nat
  rewindMargin : Nat
  travelLimit : Nat
deriving DecidableEq, Repr

/-- One line profile (R130). -/
structure LineProfile where
  nPhase : Nat
  phasingWidth : Nat
  polarity : Polarity
  gapLevel : Nat
  underrunLimit : Nat
  carrierFreq : Nat
  aWhite : Nat
  aBlack : Nat
  startFreq : Nat
  startAmp : Nat
  startTime : Nat
  stopFreq : Nat
  stopAmp : Nat
  stopTime : Nat
  lossTime : Nat
  lineupTime : Nat
deriving DecidableEq, Repr

/-- One roster entry; code 0 marks it empty (R132). -/
structure RosterEntry where
  code : Nat
  name : List Byte
  required : Bool
deriving DecidableEq, Repr

/-- One band of the strobe table (R134). -/
structure Band where
  threshold : Nat
  base : Nat
deriving DecidableEq, Repr

/-- The strobe table (R134). -/
structure Strobe where
  bands : List Band
  loadStep : Nat
  feedInterval : Nat
deriving DecidableEq, Repr

/-- The table store (R120): nine live copies, nine pending copies, nine load counts. The pending copy of STANDARD and of LINE
holds one entry with its index, those of the other kinds a whole table. ACCEPT, ROSTER, TEMPLATE and STROBE are never in
use (R131 to R134), so their pending copies stay absent. -/
structure Tables where
  tone : List Nat
  standards : List Standard
  drum : DrumProfile
  scan : ScanProfile
  lineA : LineProfile
  lineB : LineProfile
  /-- 33 entries, for each order kind in code order those for QUIET, SENDING and FAULTED (R131). -/
  accept : List Accept
  roster : List RosterEntry
  template : List (List Byte)
  strobe : Strobe
  tonePending : Option (List Nat)
  standardPending : Option (Nat × Standard)
  drumPending : Option DrumProfile
  scanPending : Option ScanProfile
  linePending : Option (PortId × LineProfile)
  acceptPending : Option (List Accept)
  rosterPending : Option (List RosterEntry)
  templatePending : Option (List (List Byte))
  strobePending : Option Strobe
  /-- The load counts, by table kind 1..9. -/
  counts : List Nat
deriving DecidableEq, Repr

/-! ### The picture table (08) -/

/-- What the panel LOAD gives a record (08, section 8.1). -/
structure Mount where
  serial : Nat
  slug : List Byte
  lines : Nat
deriving DecidableEq, Repr

/-- The grant part of a record (08, section 8.1). -/
structure Grant where
  port : PortId
  standard : Nat
  allowed : Nat
  policy : Policy
  wait : Nat
deriving DecidableEq, Repr

/-- A receipt item (08, section 8.1). -/
structure ReceiptItem where
  code : Nat
  outcome : ReceiptOutcome
deriving DecidableEq, Repr

/-- The final outcome, failure cause and finish time of a record (R155). -/
structure Final where
  outcome : FinalOutcome
  cause : FailCause
  time : Option Reading
deriving DecidableEq, Repr

/-- A picture record (08, section 8.1). The attempt and receipt lists, the dropped count and the skewed flag are
empty, 0 and no while the grant part is absent. -/
structure PicRecord where
  state : RecState
  mount : Option Mount
  number : Option Nat
  grant : Option Grant
  attempts : List Attempt
  receipts : List ReceiptItem
  dropped : Nat
  skewed : Bool
  final : Option Final
  slip : SlipStatus
  prints : Nat
deriving DecidableEq, Repr

/-- The picture table (08, section 8.1). -/
structure PicTable where
  /-- The 8 slots. -/
  records : List PicRecord
  /-- The slot whose record is on drum: at most one (R136, log 25). -/
  onDrum : Option Nat
  nextSerial : Nat
  finishOrder : List Nat
  receiptTimer : Timer
  /-- The elapsed reference ticks of the attempt (R144); 0 at power-on (DESIGN CHOICE, log 9). -/
  elapsed : Nat
deriving DecidableEq, Repr

/-! ### The slip unit (09), the panel interface, the station clock (10) -/

/-- A slip request (09, section 9.1). -/
structure SlipReq where
  slot : Nat
  kind : SlipKind
deriving DecidableEq, Repr

/-- The kinds owed for one slot (R158). -/
structure OwedSet where
  final : Bool
  late : Bool
deriving DecidableEq, Repr

/-- A line of the slip image with its cut mark (R163). -/
structure ImageLine where
  text : List Byte
  cut : Bool
deriving DecidableEq, Repr

/-- The slip unit (09, section 9.1). -/
structure SlipUnit where
  queue : List SlipReq
  /-- The head request is started (09, section 9.1). -/
  started : Bool
  owed : List OwedSet
  image : List ImageLine
  printer : PrinterState
  pos : PrintPos
  phase : DotPhase
  /-- The strobe times of the blocks still to strobe, the present one first (R165). -/
  strobes : List Nat
  /-- The feed interval in force: that of the strobe table at the last band choice (R165, R168; log 36). -/
  feed : Nat
  /-- The present strobe or feed interval (R165). -/
  dotTimer : Timer
  paperTimer : Timer
  coolTimer : Timer
  /-- A thermistor request has been made and its result has not returned (R165). -/
  thermOut : Bool
  /-- That result is to be discarded (R166, R167). -/
  thermDiscard : Bool
deriving DecidableEq, Repr

/-- A record on its way to the panel (R172, R180). -/
inductive PanelOut where
  | state (lamps : BitVec 16) (display : List Byte) (linesSent lines : Nat)
  | notice (kind : PanelKind) (notice : Notice)
deriving DecidableEq, Repr

/-- The panel interface (10, section 10.1). -/
structure Panel where
  inRecord : Bool
  /-- The record under assembly: kind, length and content bytes. -/
  bytes : List Byte
  gapRunning : Bool
  notice : Option (PanelKind × Notice)
  changed : Bool
  /-- The record being sent; FREE when absent. -/
  tx : Option PanelOut
deriving DecidableEq, Repr

/-- The station clock (10, section 10.2). -/
structure Clock where
  day : Nat
  month : Nat
  year : Nat
  hour : Nat
  minute : Nat
  second : Nat
  /-- The sub-second count of reference ticks. -/
  sub : Nat
  isSet : Bool
deriving DecidableEq, Repr

/-- The station code and the MUTE flag (R176). -/
structure Station where
  code : BitVec 6
  mute : Bool
deriving DecidableEq, Repr

/-- The sensor inputs read as levels (R16, R56, R167). -/
structure Pins where
  coverClosed : Bool
  paperPresent : Bool
  homeAsserted : Bool
deriving DecidableEq, Repr

/-- The part. -/
structure State where
  /-- The free-running reference tick count (01, section 1.2). -/
  now : Tick
  enc : Encoder
  drum : Drum
  reg : Regulator
  scan : Scanner
  lamp : Lamp
  conv : Converter
  head : Head
  store : LineStore
  portA : Port
  portB : Port
  sender : Sender
  /-- The order queue, head first (R107). -/
  orders : List Order
  tables : Tables
  pics : PicTable
  slips : SlipUnit
  panel : Panel
  clock : Clock
  station : Station
  pins : Pins
  /-- The MODEL's queue of waiting commands (log 1). -/
  pending : List Instr
deriving DecidableEq, Repr

/-- The faults a step can end in. The spec describes no event that stops the part (log 30): there is none, and nothing
raises one, which is safe. -/
inductive Fault where
deriving DecidableEq, Repr

/-- The refusals a step can end in. -/
inductive Refusal where
  /-- Raised by an arm of exec whose command has no meaning yet; safe. No arm raises it. -/
  | notModelled (mnemonic : String)
deriving DecidableEq, Repr

/-! ### Power-on defaults -/

/-- The default TONE table (R126). -/
def toneDefault : List Nat :=
  [0, 16, 32, 48, 64, 80, 96, 112, 128, 144, 160, 176, 192, 208, 224, 240, 255]

/-- The default STANDARD table (R127). -/
def standardsDefault : List Standard :=
  [⟨62500, 4, 400⟩, ⟨41667, 4, 560⟩, ⟨31250, 4, 720⟩, ⟨31250, 8, 720⟩]

/-- The default drum profile (01, section 1.1; 02, section 2.1). -/
def drumDefault : DrumProfile :=
  { indexTol := 2, cycleExp := 10, deadTime := 16, dutyMin := 40, dutyMax := 960, rampStep := 8, spinupLimit := 150,
    brakeTime := 50, lockCount := 16, lockBand := 125, unlockBand := 500, kp := 40, ki := 6, g := 32, tl := 400 }

/-- The default scan profile (03, section 3.1). -/
def scanDefault : ScanProfile :=
  { windowStart := 256, windowEnd := 7936, whiteStart := 7952, whiteEnd := 8176, darkLevel := 180, warmUp := 30,
    stepsPerLine := 4, stepInterval := 400, fastStepInterval := 150, startOffset := 240, rewindMargin := 200,
    travelLimit := 40000 }

/-- The default line profile, the same for both ports (R130; 03, section 3.1; 04, section 4.2; 05, section 5.1). -/
def lineDefault : LineProfile :=
  { nPhase := 15, phasingWidth := 512, polarity := .blackOnWhite, gapLevel := 255, underrunLimit := 64,
    carrierFreq := 2200, aWhite := 900, aBlack := 90, startFreq := 1300, startAmp := 700, startTime := 30,
    stopFreq := 450, stopAmp := 700, stopTime := 20, lossTime := 500, lineupTime := 50 }

/-- A row of the acceptance table that takes an order in every condition. -/
def acceptTake : List Accept := [.take, .take, .take]

/-- A row that takes an order in QUIET, answers BUSY in SENDING and REFUSE in FAULTED. -/
def acceptGuarded : List Accept := [.take, .busy, .refuse]

/-- The power-on acceptance table, by order kind in code order (R105). -/
def acceptDefault : List Accept :=
  acceptTake ++ acceptGuarded ++ acceptTake ++ acceptTake ++ acceptTake ++ acceptTake ++ acceptGuarded ++
    acceptTake ++ acceptTake ++ acceptTake ++ acceptTake

/-- An empty roster entry (R132). -/
def rosterEmpty : RosterEntry := { code := 0, name := List.replicate 8 32, required := false }

/-- The default template, its field codes as R133 numbers them. -/
def templateDefault : List (List Byte) :=
  [ [83, 84, 78, 32, 138, 32, 80, 73, 67, 32, 128],
    [129, 32, 35, 130],
    [131, 32, 132],
    [80, 79, 82, 84, 32, 134, 32, 84, 82, 89, 32, 135, 32, 84, 32, 133],
    [136, 32, 85, 78, 68, 82, 32, 137],
    [139],
    [], [], [], [], [], [] ]

/-- The default strobe table (R134). -/
def strobeDefault : Strobe :=
  { bands := [⟨1000, 1600⟩, ⟨1400, 1500⟩, ⟨1800, 1400⟩, ⟨2200, 1300⟩, ⟨2600, 1200⟩, ⟨3000, 1100⟩, ⟨3300, 1000⟩,
        ⟨3600, 900⟩],
    loadStep := 3, feedInterval := 2000 }

/-- The table store at power-on (R120). -/
def tablesDefault : Tables :=
  { tone := toneDefault, standards := standardsDefault, drum := drumDefault, scan := scanDefault, lineA := lineDefault,
    lineB := lineDefault, accept := acceptDefault, roster := List.replicate 32 rosterEmpty,
    template := templateDefault, strobe := strobeDefault, tonePending := none, standardPending := none,
    drumPending := none, scanPending := none, linePending := none, acceptPending := none, rosterPending := none,
    templatePending := none, strobePending := none, counts := List.replicate 9 0 }

/-- A receiver HUNTING with the mark run at 0 and nothing under assembly (R100, R113). -/
def rxIdle : Receiver := { state := .hunting, markRun := 0, bytes := [], crc := 0xFFFF#16, gapRunning := false }

/-- A port at power-on (R77); the loop-current level is log 8's. -/
def portReset : Port :=
  { activity := .idle, cause := .none, list := [], blockErrors := 0, echoFailures := 0, consecEcho := 0,
    loopTimer := none, breakTimer := none, turn := .stopped, rx := rxIdle, loopCurrent := true }

/-- An EMPTY record (R136). -/
def recEmpty : PicRecord :=
  { state := .empty, mount := none, number := none, grant := none, attempts := [], receipts := [], dropped := 0,
    skewed := false, final := none, slip := .none, prints := 0 }

/-- The part right after power-on: the values of 10, section 10.4, the reset levels of log 8 and the values of log 9
where the spec gives none. -/
def State.reset : State :=
  { now := 0
    enc :=
      { pos := 0, indexFound := false, reverseRun := 0, slipRun := 0, curCap := none, prevCap := none,
        lastBoundary := none }
    drum :=
      { state := .stopped, pendingDuty := 0, activeDuty := 0, mode := .off, modeReq := none, cycleLen := 1024,
        cycleCount := 0, spinupTimer := none, rampTimer := none, brakingW := 0, brakingTimer := none,
        silenceTimer := none, stallDeadline := none, spinLatch := false, lastFault := .none, unlocked := 0 }
    reg := { integ := 0, memory := .neither, lockCount := 0, unlockCount := 0 }
    scan :=
      { state := .idle, rev := 0, k := 0, whiteSum := 0, whiteCount := 0, whiteSet := false, wRef := 0,
        waiting := [], signalDue := false }
    lamp := { state := .off, warmTimer := none }
    conv := { current := none, photoWaiting := [], thermWaiting := false }
    head := { state := .fault, pos := 0, owed := 0, stepTimer := none, rewindCount := 0, rewindLimit := 0 }
    store :=
      { entries := [], carry := false, lastWritten := false, accepted := 0, sent := 0, flushed := 0,
        overruns := 0, underruns := 0, skewReported := false }
    portA := portReset
    portB := portReset
    sender :=
      { state := .free, port := none, acc := 0, cadenceOn := false, lastLevel := 0, linesSent := 0,
        stageTimer := none, lineupReq := none, held := none, closing := none }
    orders := []
    tables := tablesDefault
    pics :=
      { records := List.replicate 8 recEmpty, onDrum := none, nextSerial := 1, finishOrder := [],
        receiptTimer := none, elapsed := 0 }
    slips :=
      { queue := [], started := false, owed := List.replicate 8 ⟨false, false⟩, image := [], printer := .idle,
        pos := .row 0 0, phase := .idle, strobes := [], feed := strobeDefault.feedInterval, dotTimer := none,
        paperTimer := none, coolTimer := none,
        thermOut := false, thermDiscard := false }
    panel := { inRecord := false, bytes := [], gapRunning := false, notice := none, changed := true, tx := none }
    clock := { day := 1, month := 1, year := 0, hour := 0, minute := 0, second := 0, sub := 0, isSet := false }
    station := { code := 1, mute := false }
    pins := { coverClosed := true, paperPresent := true, homeAsserted := false }
    pending := [] }

end Sys2Proof.Machine
end

