-- ==== Sys2Proof/Machine/Bytes.lean ====
section
/-! DEFINITION. Bytes, numbers and texts: little-endian fields, saturating counters, decimal fields, the CRC, the
bits of a block on the line and the code numbers of 11, section 11.4. -/

namespace Sys2Proof.Machine

/-- `n` as two bytes, low byte first (11, opening paragraph). -/
def le2 (n : Nat) : List Byte := [BitVec.ofNat 8 n, BitVec.ofNat 8 (n / 256)]

/-- `n` as one byte. -/
def le1 (n : Nat) : List Byte := [BitVec.ofNat 8 n]

/-- The byte at offset `i` of a payload, as the whole number it encodes (R179). -/
def byteAt (l : List Byte) (i : Nat) : Nat := (l.getD i 0).toNat

/-- The two-byte number at offset `i` of a payload, low byte first (R179). -/
def wordAt (l : List Byte) (i : Nat) : Nat := byteAt l i + 256 * byteAt l (i + 1)

/-- A counter stops at its largest value (00, Counters). -/
def satInc (max n : Nat) : Nat := if n < max then n + 1 else n

/-- clamp(x, lo, hi) (00, Rounding). -/
def clamp (x lo hi : Nat) : Nat := if x < lo then lo else if hi < x then hi else x

/-- clamp on integers (00, Rounding). -/
def clampInt (x lo hi : Int) : Int := if x < lo then lo else if hi < x then hi else x

/-- The bytes of a text of 7-bit characters. -/
def ascii (cs : List Char) : List Byte := cs.map fun c => BitVec.ofNat 8 c.toNat

/-- `n` in decimal, `w` digits with leading zeros (R162). -/
def dec : (w n : Nat) → List Byte
  | 0, _ => []
  | w + 1, n => dec w (n / 10) ++ [BitVec.ofNat 8 (48 + n % 10)]

/-- `n` below 1,000 in decimal without leading zeros (R161). -/
def decShort (n : Nat) : List Byte := if n < 10 then dec 1 n else if n < 100 then dec 2 n else dec 3 n

/-- A text padded with spaces to width `w` (R162). -/
def padTo (w : Nat) (l : List Byte) : List Byte := l ++ List.replicate (w - l.length) 32

/-- A character of codes 32 to 126 (00, Bytes and text). -/
def isText (b : Byte) : Bool := decide (32 ≤ b.toNat) && decide (b.toNat ≤ 126)

/-- One bit through the CRC register (R102): the generator terms x^12, x^5 and 1 are 0x1021. -/
def crcBit (c : BitVec 16) (b : Bool) : BitVec 16 :=
  let shifted := c <<< 1
  if xor b c.msb then shifted ^^^ 0x1021#16 else shifted

/-- One byte through the CRC register, least significant bit first (R102). -/
def crcByte (c : BitVec 16) (b : Byte) : BitVec 16 :=
  (List.range 8).foldl (fun r i => crcBit r (b.getLsbD i)) c

/-- The CRC register after the given bytes, from its starting value (R102). -/
def crcOf (bytes : List Byte) : BitVec 16 := bytes.foldl crcByte 0xFFFF#16

/-- The bytes of a block on the line after its preamble: sync, header, payload and CRC (11, section 11.1). -/
def blockBytes (dest src kind tag : Byte) (payload : List Byte) : List Byte :=
  let body := [dest, src, kind, tag, BitVec.ofNat 8 payload.length] ++ payload
  [0xA7, 0x3C] ++ body ++ le2 (crcOf body).toNat

/-! ### Bits on the line (R79; 06, section 6.1) -/

/-- What the FSK signalling puts on a line for one bit time (R79). -/
inductive LineBit where
  | mark
  | space
deriving DecidableEq, Repr

/-- The frequency of mark and of space, in Hz (R79). -/
def LineBit.hz : LineBit → Nat
  | .mark => 1400
  | .space => 2000

/-- A data bit on the line: a 1 is mark (R101, a loss of tone is decoded as mark and gives data bits of 1). -/
def dataBit (b : Bool) : LineBit := if b then .mark else .space

/-- A byte in its frame: a start bit (space), 8 data bits least significant first, a stop bit (mark) (R79; 06, section
6.1). -/
def byteFrame (b : Byte) : List LineBit := [.space] ++ (List.range 8).map (fun i => dataBit (b.getLsbD i)) ++ [.mark]

/-- The preamble of a block from the station: exactly 16 mark bits (R114). -/
def preamble : List LineBit := List.replicate 16 .mark

/-- A block from the station, bit by bit: the preamble, then the framed bytes without gaps (R79, R114). -/
def blockBits (bytes : List Byte) : List LineBit := preamble ++ bytes.flatMap byteFrame

/-! ### Code numbers (11, sections 11.1, 11.3, 11.4 and 11.5) -/

/-- Order kind codes (11, section 11.1). -/
def OrderKind.code : OrderKind → Byte
  | .poll => 0x01 | .grant => 0x02 | .cancel => 0x03 | .receipt => 0x04 | .load => 0x05 | .clock => 0x06
  | .lineup => 0x07 | .lineClear => 0x08 | .mechClear => 0x09 | .restart => 0x0A | .slip => 0x0B

/-- The order kind of a kind byte; none is an unknown kind (R106). -/
def OrderKind.ofCode (b : Byte) : Option OrderKind :=
  [OrderKind.poll, .grant, .cancel, .receipt, .load, .clock, .lineup, .lineClear, .mechClear, .restart, .slip].find?
    fun k => decide (k.code = b)

/-- Report kind codes (11, section 11.1). -/
def ReportKind.code : ReportKind → Byte
  | .status => 0x81 | .ack => 0x82 | .refuse => 0x83 | .busy => 0x84 | .done => 0x85

/-- Station condition codes. -/
def Condition.code : Condition → Nat
  | .quiet => 0 | .sending => 1 | .faulted => 2

/-- Drum state codes. -/
def DrumState.code : DrumState → Nat
  | .stopped => 0 | .spinup => 1 | .tracking => 2 | .locked => 3 | .braking => 4 | .cutoff => 5

/-- Drum fault codes. -/
def DrumFault.code : DrumFault → Nat
  | .none => 0 | .stall => 1 | .reverse => 2 | .encoder => 3 | .overspeed => 4 | .cover => 5

/-- Head state codes. -/
def HeadState.code : HeadState → Nat
  | .parked => 0 | .positioning => 1 | .ready => 2 | .scanning => 3 | .rewinding => 4 | .fault => 5

/-- Lamp state codes. -/
def LampState.code : LampState → Nat
  | .off => 0 | .warming => 1 | .warm => 2 | .fault => 3

/-- Sender state codes. -/
def SenderState.code : SenderState → Nat
  | .free => 0 | .startTone => 1 | .prefill => 2 | .phasing => 3 | .picture => 4 | .drain => 5 | .stopTone => 6
  | .doneOut => 7 | .lineupWhite => 8 | .lineupBlack => 9

/-- Port codes as sent: A, B, none (R180). -/
def portCode : Option PortId → Nat
  | some .a => 0 | some .b => 1 | none => 2

/-- Activity codes within the port state. -/
def Activity.code : Activity → Nat
  | .idle => 0 | .answerDue => 1 | .reporting => 2 | .carrying => 3

/-- Fault cause codes. -/
def FaultCause.code : FaultCause → Nat
  | .none => 0 | .echo => 1 | .loop => 2

/-- Record state codes. -/
def RecState.code : RecState → Nat
  | .empty => 0 | .loaded => 1 | .granted => 2 | .sending => 3 | .awaiting => 4 | .finished => 5

/-- Slip status codes. -/
def SlipStatus.code : SlipStatus → Nat
  | .none => 0 | .owed => 1 | .queued => 2 | .printed => 3

/-- Printer state codes. -/
def PrinterState.code : PrinterState → Nat
  | .idle => 0 | .printing => 1 | .paperOut => 2 | .headHot => 3

/-- Attempt outcome codes. -/
def AttemptOutcome.code : AttemptOutcome → Nat
  | .complete => 0 | .broken => 1 | .line => 2 | .drum => 3 | .head => 4 | .lamp => 5 | .cancelled => 6
  | .aborted => 7 | .restarted => 8

/-- Reason codes. -/
def Reason.code : Reason → Nat
  | .notAccepted => 1 | .stationBusy => 2 | .queueFull => 3 | .unknownKind => 4 | .noPicture => 5 | .wrongState => 6
  | .unknownPicture => 7 | .numberInUse => 8 | .pictureTooLong => 9 | .badTableData => 10 | .badIndex => 11
  | .portFault => 12 | .drumCutoff => 13 | .coverOpen => 14 | .noAttemptsLeft => 15

/-- Notice codes (11, section 11.5). -/
def Notice.code : Notice → Nat
  | .badValue => 1 | .drumTurning => 2 | .pictureActive => 3 | .tooLong => 4 | .tableFull => 5 | .drumCutoff => 6
  | .sending => 7 | .noPicture => 8 | .wrongState => 9 | .queueFull => 10 | .coverOpen => 11

/-- Panel record kind codes (11, section 11.5). -/
def PanelKind.code : PanelKind → Byte
  | .load => 0x11 | .spin => 0x12 | .stop => 0x13 | .abort => 0x14 | .reprint => 0x15 | .resetMech => 0x16

/-- The inbound panel record kind of a kind byte (R170). -/
def PanelKind.ofCode (b : Byte) : Option PanelKind :=
  [PanelKind.load, .spin, .stop, .abort, .reprint, .resetMech].find? fun k => decide (k.code = b)

/-- Receipt outcome of a code (R149). -/
def ReceiptOutcome.ofCode (n : Nat) : Option ReceiptOutcome :=
  [ReceiptOutcome.good, .poor, .resend, .silent][n]?

/-- Acceptance entry of a code (R131). -/
def Accept.ofCode (n : Nat) : Option Accept := [Accept.take, .busy, .refuse][n]?

/-- Polarity of a code (R130). -/
def Polarity.ofCode (n : Nat) : Option Polarity := [Polarity.blackOnWhite, .whiteOnBlack][n]?

/-- The table kind of a number 1 to 9 (11, section 11.3). -/
def TableKind.ofCode (n : Nat) : Option TableKind :=
  if n = 0 then none
  else [TableKind.tone, .standard, .drum, .scan, .line, .accept, .roster, .template, .strobe][n - 1]?

/-- The place of a table kind in the load counts (R120). -/
def TableKind.index : TableKind → Nat
  | .tone => 0 | .standard => 1 | .drum => 2 | .scan => 3 | .line => 4 | .accept => 5 | .roster => 6
  | .template => 7 | .strobe => 8

/-- Flag byte. -/
def flag (b : Bool) : Nat := if b then 1 else 0

end Sys2Proof.Machine
end

