-- ==== Sys2Proof/Machine/Operands.lean ====
section
/-! DEFINITION. The operands of orders: the payloads decoded field by field (R179; 11, sections 11.1 and 11.2), and the
payloads of the answers. -/

namespace Sys2Proof.Machine

/-- A port byte names port A when its bit 0 is 0 and port B when it is 1 (R179). -/
def portOfByte (b : Byte) : PortId := if b.getLsbD 0 then .b else .a

/-- A GRANT's fields as the numbers they encode (11, section 11.2). -/
structure GrantFields where
  number : Nat
  port : PortId
  standard : Nat
  allowed : Nat
  policy : Nat
  wait : Nat
deriving DecidableEq, Repr

/-- The fields of a GRANT payload. -/
def grantFields (p : List Byte) : GrantFields :=
  { number := wordAt p 0, port := portOfByte (p.getD 2 0), standard := byteAt p 3, allowed := byteAt p 4,
    policy := byteAt p 5, wait := byteAt p 6 }

/-- The grant part of a record, when every field lies in its range (R111). -/
def GrantFields.grant (f : GrantFields) : Option Grant :=
  if 1 ≤ f.number ∧ f.number ≤ 9999 ∧ f.standard ≤ 3 ∧ 1 ≤ f.allowed ∧ f.allowed ≤ 3 ∧ f.policy ≤ 1 ∧ 1 ≤ f.wait ∧
      f.wait ≤ 255 then
    some
      { port := f.port, standard := f.standard, allowed := f.allowed,
        policy := if f.policy = 0 then .same else .alternate, wait := f.wait }
  else none

/-- The items of a RECEIPT as code and outcome numbers (11, section 11.2). -/
def receiptPairs (p : List Byte) : List (Nat × Nat) :=
  (List.range (byteAt p 3)).map fun j => (byteAt p (4 + 2 * j), byteAt p (5 + 2 * j))

/-- The more-follows flag of a RECEIPT (11, section 11.2). -/
def moreFollows (p : List Byte) : Bool := (p.getD 2 0).getLsbD 0

/-- A RECEIPT's length is 4 + 2n for its own n, and n is at most 12 (R179). -/
def receiptLengthOk (p : List Byte) : Bool :=
  decide (4 ≤ p.length) && decide (byteAt p 3 ≤ 12) && decide (p.length = 4 + 2 * byteAt p 3)

/-- A CLOCK's date and time (11, section 11.2). -/
def clockFields (p : List Byte) : Reading :=
  { day := byteAt p 0, month := byteAt p 1, year := byteAt p 2, hour := byteAt p 3, minute := byteAt p 4,
    second := byteAt p 5 }

/-- LINE CLEAR names a port (11, section 11.2). -/
def clearNames (p : List Byte) : PortId → Bool
  | .a => (p.getD 0 0).getLsbD 0
  | .b => (p.getD 0 0).getLsbD 1

/-! ### Answers (R114 to R116; 11, section 11.2) -/

/-- An ACK with its flags. -/
def ackReport (tag kind : Byte) (clamped truncated : Bool) : Report :=
  { kind := .ack, tag := tag, payload := [tag, kind] ++ le1 (flag clamped + 2 * flag truncated) }

/-- A REFUSE with its reason. -/
def refuseReport (tag kind : Byte) (r : Reason) : Report :=
  { kind := .refuse, tag := tag, payload := [tag, kind] ++ le1 r.code }

/-- A BUSY with its reason. -/
def busyReport (tag kind : Byte) (r : Reason) : Report :=
  { kind := .busy, tag := tag, payload := [tag, kind] ++ le1 r.code }

/-- A STATUS. -/
def statusReport (tag : Byte) (payload : List Byte) : Report := { kind := .status, tag := tag, payload := payload }

end Sys2Proof.Machine
end

