-- ==== Sys2Proof/Config.lean ====
section
/-! DEFINITION. What the spec leaves open and the model keeps free. -/

namespace Sys2Proof

/-- FREE VALUE (log 16). Whether dot `col` (0..11) of row `row` (0..23) of glyph `glyph` (1..95) is on.
R164 says the part holds 96 glyphs of 12 × 24 dots and gives the shape of none but the space's, which has no dot on
(the machine never asks for glyph 0). -/
opaque Config.glyphDot (glyph row col : Nat) : Bool

end Sys2Proof
end

