-- ==== Sys2Proof/Machine/Update.lean ====
section
/-! DEFINITION. The named updates of the state, one per block, and the two ports by name. -/

namespace Sys2Proof.Machine

/-- Replaces the reference tick count. -/
def State.setNow (s : State) (x : Tick) : State := { s with now := x }

/-- Replaces the encoder counter. -/
def State.setEnc (s : State) (x : Encoder) : State := { s with enc := x }

/-- Replaces the drum drive. -/
def State.setDrum (s : State) (x : Drum) : State := { s with drum := x }

/-- Replaces the speed regulator. -/
def State.setReg (s : State) (x : Regulator) : State := { s with reg := x }

/-- Replaces the scanner. -/
def State.setScan (s : State) (x : Scanner) : State := { s with scan := x }

/-- Replaces the lamp. -/
def State.setLamp (s : State) (x : Lamp) : State := { s with lamp := x }

/-- Replaces the converter. -/
def State.setConv (s : State) (x : Converter) : State := { s with conv := x }

/-- Replaces the head unit. -/
def State.setHead (s : State) (x : Head) : State := { s with head := x }

/-- Replaces the line store. -/
def State.setStore (s : State) (x : LineStore) : State := { s with store := x }

/-- Replaces the picture sender. -/
def State.setSender (s : State) (x : Sender) : State := { s with sender := x }

/-- Replaces the order queue. -/
def State.setOrders (s : State) (x : List Order) : State := { s with orders := x }

/-- Replaces the table store. -/
def State.setTables (s : State) (x : Tables) : State := { s with tables := x }

/-- Replaces the picture table. -/
def State.setPics (s : State) (x : PicTable) : State := { s with pics := x }

/-- Replaces the slip unit. -/
def State.setSlips (s : State) (x : SlipUnit) : State := { s with slips := x }

/-- Replaces the panel interface. -/
def State.setPanel (s : State) (x : Panel) : State := { s with panel := x }

/-- Replaces the station clock. -/
def State.setClock (s : State) (x : Clock) : State := { s with clock := x }

/-- Replaces the station code and MUTE flag. -/
def State.setStation (s : State) (x : Station) : State := { s with station := x }

/-- Replaces the sensor levels. -/
def State.setPins (s : State) (x : Pins) : State := { s with pins := x }

/-- The port of a name. -/
def State.port (s : State) : PortId → Port
  | .a => s.portA
  | .b => s.portB

/-- Replaces the port of a name. -/
def State.setPort (s : State) (p : PortId) (x : Port) : State :=
  match p with
  | .a => { s with portA := x }
  | .b => { s with portB := x }

end Sys2Proof.Machine
end

