-- ==== Sys2Proof/Machine/Flags.lean ====
section
/-! DEFINITION. What the blocks read of one another: every condition and flag the rules compute from the state
(demand, lamp demand, station condition, port state, ready flag, table use, bridge gates, tone on the line). -/

namespace Sys2Proof.Machine

/-! ### The on-drum record -/

/-- The record of a slot. -/
def State.rec? (s : State) (i : Nat) : Option PicRecord := s.pics.records[i]?

/-- The on-drum record (R136). -/
def onDrumRec (s : State) : Option PicRecord := s.pics.onDrum.bind s.rec?

/-- The state of the on-drum record, EMPTY when no record is on drum. -/
def onDrumState (s : State) : RecState := ((onDrumRec s).map (·.state)).getD .empty

/-- An attempt is in progress from attempt start until its outcome is decided (R12): the on-drum record is SENDING (R136). -/
def attemptInProgress (s : State) : Bool := decide (onDrumState s = .sending)

/-- The line count of a record, 0 when it has none. -/
def PicRecord.lines (r : PicRecord) : Nat := (r.mount.map (·.lines)).getD 0

/-- The line count L of the on-drum record. -/
def onDrumLines (s : State) : Nat := ((onDrumRec s).map (·.lines)).getD 0

/-- The grant part of the on-drum record. -/
def onDrumGrant (s : State) : Option Grant := (onDrumRec s).bind (·.grant)

/-- The slot of the record, other than an EMPTY one, that carries a picture number (R150, R153). -/
def slotOfNumber (s : State) (n : Nat) : Option Nat :=
  s.pics.records.findIdx? fun r => decide (r.state ≠ .empty) && decide (r.number = some n)

/-! ### Standard in force, demand, lamp demand -/

/-- The number of the standard in force (R7). -/
def standardNumber (s : State) : Nat := ((onDrumGrant s).map (·.standard)).getD 0

/-- The STANDARD entry of a number. -/
def standardAt (s : State) (k : Nat) : Standard := s.tables.standards.getD k ⟨62500, 4, 400⟩

/-- The standard in force (R7). -/
def standardInForce (s : State) : Standard := standardAt s (standardNumber s)

/-- What makes two standards in force the same for the drive: number, W and D_FF (R7). -/
def standardKey (s : State) : Nat × Nat × Nat :=
  (standardNumber s, (standardInForce s).w, (standardInForce s).dff)

/-- The samples per revolution S = 8,192 / pitch of the standard in force (R38). -/
def samplesPerRev (s : State) : Nat := 8192 / (standardInForce s).pitch

/-- rev_ticks = 16 × W of the standard in force (R89). -/
def revTicks (s : State) : Nat := 16 * (standardInForce s).w

/-- The drum drive has demand (R7). -/
def demand (s : State) : Bool :=
  s.drum.spinLatch || decide (onDrumState s = .granted ∨ onDrumState s = .sending ∨ onDrumState s = .awaiting)

/-- Lamp demand (R46). A scanner that is FINISHED ends it only with its signal last entry written (R44, log 38). -/
def lampDemand (s : State) : Bool :=
  decide (onDrumState s = .granted ∨ onDrumState s = .sending) &&
    (decide (s.scan.state ≠ .finished) || s.scan.signalDue) &&
    decide (s.drum.state ≠ .cutoff) && decide (s.head.state ≠ .fault)

/-- The length check of R138 and R140: start_offset + L × steps_per_line exceeds travel_limit of the live scan profile. -/
def tooLong (s : State) (lines : Nat) : Bool :=
  decide (s.tables.scan.travelLimit < s.tables.scan.startOffset + lines * s.tables.scan.stepsPerLine)

/-! ### Ports, receivers and the sender -/

/-- A port is in FAULT while its fault cause is not NONE (R77). -/
def Port.inFault (x : Port) : Bool := decide (x.cause ≠ .none)

/-- A port whose state is IDLE (R77). -/
def Port.isIdle (x : Port) : Bool := decide (x.cause = .none) && decide (x.activity = .idle)

/-- The code of a port's state (R77; 11, section 11.4). -/
def Port.stateCode (x : Port) : Nat := if x.inFault then 4 else x.activity.code

/-- A receiver in a reception (06, section 6.1). -/
def Port.inReception (x : Port) : Bool := decide (x.rx.state ≠ .hunting)

/-- A receiver decodes blocks while its port's activity is IDLE or ANSWER_DUE (R100). -/
def Port.decodes (x : Port) : Bool := decide (x.activity = .idle ∨ x.activity = .answerDue)

/-- Both ports in FAULT (R143). -/
def bothFault (s : State) : Bool := s.portA.inFault && s.portB.inFault

/-- The line profile of a port (R130). -/
def lineOf (s : State) : PortId → LineProfile
  | .a => s.tables.lineA
  | .b => s.tables.lineB

/-- The line profile of the port that carries the attempt: the sender's attached port. -/
def carryingLine (s : State) : LineProfile := lineOf s (s.sender.port.getD .a)

/-- The sender states of an attempt in which the break detector acts and an attempt end is closed (R83, R93). -/
def SenderState.sendingAttempt : SenderState → Bool
  | .startTone | .prefill | .phasing | .picture | .drain => true
  | .free | .stopTone | .doneOut | .lineupWhite | .lineupBlack => false

/-- The line-up states (R98). -/
def SenderState.inLineup : SenderState → Bool
  | .lineupWhite | .lineupBlack => true
  | .free | .startTone | .prefill | .phasing | .picture | .drain | .stopTone | .doneOut => false

/-- The cadence is running while the sender is in PHASING, PICTURE or DRAIN (R25). -/
def cadenceRunning (s : State) : Bool :=
  decide (s.sender.state = .phasing ∨ s.sender.state = .picture ∨ s.sender.state = .drain)

/-- The carrier amplitude of a picture level (R91). -/
def amplitude (lp : LineProfile) (level : Nat) : Nat :=
  ((lp.aBlack : Int) + ((((lp.aWhite : Int) - lp.aBlack) * level + 127).fdiv 255)).toNat

/-- What the tone generator sends, frequency and amplitude, or nothing (05, section 5.3; R90). -/
def toneOut (s : State) : Option (Nat × Nat) :=
  let lp := carryingLine s
  match s.sender.state with
  | .free | .doneOut => none
  | .startTone | .prefill => some (lp.startFreq, lp.startAmp)
  | .phasing | .picture | .drain => some (lp.carrierFreq, amplitude lp s.sender.lastLevel)
  | .stopTone => some (lp.stopFreq, lp.stopAmp)
  | .lineupWhite => some (lp.carrierFreq, lp.aWhite)
  | .lineupBlack => some (lp.carrierFreq, lp.aBlack)

/-- The port chosen for the next attempt, and whether it is substituted (R143). -/
def chosenPort (s : State) : Option (PortId × Bool) :=
  match onDrumRec s, onDrumGrant s with
  | some r, some g =>
    let preferred := match r.attempts.getLast? with
      | none => g.port
      | some a => if g.policy = .same then a.port else a.port.other
    if (s.port preferred).inFault = false then some (preferred, false)
    else if (s.port preferred.other).inFault = false then some (preferred.other, true)
    else none
  | _, _ => none

/-- The attempt-start condition (R142). The drum is LOCKED at the record's standard when it is LOCKED, for the standard
in force is the granted one while the record holds a grant (R7). -/
def attemptReady (s : State) : Bool :=
  decide (onDrumState s = .granted) && decide (s.drum.state = .locked) && decide (s.head.state = .ready) &&
    decide (s.lamp.state = .warm) && decide (s.sender.state = .free) &&
    match chosenPort s with
    | some (p, _) => (s.port p).isIdle
    | none => false

/-- The line-up start condition (R97). -/
def lineupReady (s : State) : Bool :=
  decide (s.sender.state = .free) &&
    match s.sender.lineupReq with
    | some p => (s.port p).isIdle
    | none => false

/-- The head order is eligible while neither port is REPORTING and neither receiver is in a reception (R108). -/
def eligible (s : State) : Bool :=
  decide (s.portA.activity ≠ .reporting) && decide (s.portB.activity ≠ .reporting) &&
    !s.portA.inReception && !s.portB.inReception

/-! ### Station condition, ready flag, table use -/

/-- The station condition (R104). -/
def condition (s : State) : Condition :=
  if s.drum.state = .cutoff ∨ s.head.state = .fault then .faulted
  else if s.sender.state ≠ .free then .sending
  else .quiet

/-- The ready flag and the READY lamp (R117, R173). -/
def readyFlag (s : State) : Bool :=
  decide (s.drum.state = .locked) && decide (s.head.state = .ready) && decide (s.lamp.state = .warm)

/-- The TONE table is in use (R124). -/
def toneInUse (s : State) : Bool := attemptInProgress s

/-- Entry k of the STANDARD table is in use (R124). -/
def standardInUse (s : State) (k : Nat) : Bool := attemptInProgress s && decide (standardNumber s = k)

/-- The DRUM table is in use (R124). -/
def drumInUse (s : State) : Bool := decide (s.drum.state ≠ .stopped)

/-- The SCAN table is in use (R124). -/
def scanInUse (s : State) : Bool := decide (s.head.state ≠ .parked) || attemptInProgress s

/-- The LINE entry of a port is in use (R124). -/
def lineInUse (s : State) (p : PortId) : Bool := decide ((s.port p).activity = .carrying)

/-- The stepper is on (03, section 3.5). -/
def stepperOn (s : State) : Bool := decide (s.head.state ≠ .parked ∧ s.head.state ≠ .fault)

/-! ### The bridge gates (R19) -/

/-- The high gate is on at PWM clock `c` of the cycle. -/
def highGate (s : State) (c : Nat) : Bool := decide (s.drum.mode = .drive) && decide (c < s.drum.activeDuty)

/-- The low gate is on at PWM clock `c` of the cycle. -/
def lowGate (s : State) (c : Nat) : Bool :=
  match s.drum.mode with
  | .off => false
  | .drive => decide (s.drum.activeDuty + s.tables.drum.deadTime ≤ c) &&
      decide (c < s.drum.cycleLen - s.tables.drum.deadTime)
  | .brake => decide (s.tables.drum.deadTime ≤ c) && decide (c < s.drum.cycleLen - s.tables.drum.deadTime)

/-! ### The station clock -/

/-- A clock reading, unset when the clock-set flag is clear (10, section 10.2). -/
def clockReading (s : State) : Option Reading :=
  if s.clock.isSet then some ⟨s.clock.day, s.clock.month, s.clock.year, s.clock.hour, s.clock.minute, s.clock.second⟩
  else none

/-- The days of a month in a year 2000 + `year` (R174). -/
def daysInMonth (month year : Nat) : Nat :=
  if month = 2 then (if year % 4 = 0 then 29 else 28)
  else if month = 4 ∨ month = 6 ∨ month = 9 ∨ month = 11 then 30 else 31

end Sys2Proof.Machine
end

