-- ==== Sys2Proof/Machine/Ops.lean ====
section
/-! DEFINITION. The shared operations the families build on: records by slot, the converter's arbiter, the pending
copies of the table store, the report list of a port. -/

namespace Sys2Proof.Machine

/-! ### Records by slot -/

/-- Changes the record of a slot. -/
def modRec (i : Nat) (f : PicRecord → PicRecord) (s : State) : State :=
  s.setPics { s.pics with records := s.pics.records.modify i f }

/-- Changes the on-drum record. -/
def modOnDrum (f : PicRecord → PicRecord) (s : State) : State :=
  match s.pics.onDrum with
  | some i => modRec i f s
  | none => s

/-- Changes the attempt record of the attempt in progress, the last of the on-drum record's list (R145). -/
def modAttempt (f : Attempt → Attempt) (s : State) : State :=
  modOnDrum (fun r => { r with attempts := r.attempts.modify (r.attempts.length - 1) f }) s

/-- One index slip of the attempt in progress (R2, R145). -/
def countIndexSlip (s : State) : State :=
  if attemptInProgress s then modAttempt (fun a => { a with indexSlips := satInc 65535 a.indexSlips }) s else s

/-- One head-late line of the attempt in progress (R53, R145). -/
def countHeadLate (s : State) : State :=
  if attemptInProgress s then modAttempt (fun a => { a with headLate := satInc 65535 a.headLate }) s else s

/-- One lock-lost window of the attempt in progress (R12, R145). -/
def countLockLost (s : State) : State :=
  if attemptInProgress s then modAttempt (fun a => { a with lockLost := satInc 65535 a.lockLost }) s else s

/-! ### The converter's arbiter (R49, R50) -/

/-- A photocell request (R49). -/
def requestPhoto (use : PhotoUse) (s : State) : State :=
  match s.conv.current with
  | none => s.setConv { s.conv with current := some (.photocell use false) }
  | some _ => s.setConv { s.conv with photoWaiting := s.conv.photoWaiting ++ [use] }

/-- A thermistor request (R49). -/
def requestTherm (s : State) : State :=
  match s.conv.current with
  | none => s.setConv { s.conv with current := some .thermistor }
  | some _ => s.setConv { s.conv with thermWaiting := true }

/-- Starts the next conversion when one completes (R49): the oldest photocell request, else the thermistor's. -/
def startNextConversion (s : State) : State :=
  match s.conv.photoWaiting with
  | use :: rest => s.setConv { s.conv with current := some (.photocell use false), photoWaiting := rest }
  | [] =>
    if s.conv.thermWaiting then s.setConv { s.conv with current := some .thermistor, thermWaiting := false }
    else s.setConv { s.conv with current := none }

/-- The scanner's withdrawal (R50): its waiting requests are removed, a photocell conversion in progress runs on with
its result discarded. -/
def withdrawPhoto (s : State) : State :=
  let current := match s.conv.current with
    | some (.photocell use _) => some (.photocell use true)
    | other => other
  s.setConv { s.conv with current := current, photoWaiting := [] }

/-! ### Pending copies (R124, R125) -/

/-- Applies a pending TONE copy. -/
def applyTone (s : State) : State :=
  match s.tables.tonePending with
  | some t => s.setTables { s.tables with tone := t, tonePending := none }
  | none => s

/-- Applies a pending STANDARD entry. -/
def applyStandard (s : State) : State :=
  match s.tables.standardPending with
  | some (k, e) => s.setTables { s.tables with standards := s.tables.standards.set k e, standardPending := none }
  | none => s

/-- Applies a pending scan profile. -/
def applyScan (s : State) : State :=
  match s.tables.scanPending with
  | some p => s.setTables { s.tables with scan := p, scanPending := none }
  | none => s

/-- The DRUM table takes a new profile, and the drive its cycle length (R8, R19). The cycle counter keeps its count: a cycle
whose count is already past the new, shorter length ends at the next tick. DESIGN CHOICE (log 37). -/
def takeDrumProfile (p : DrumProfile) (s : State) : State :=
  (s.setTables { s.tables with drum := p }).setDrum { s.drum with cycleLen := 2 ^ p.cycleExp }

/-- Applies a pending drum profile (R8, R125). -/
def applyDrum (s : State) : State :=
  match s.tables.drumPending with
  | some p =>
    let s := takeDrumProfile p s
    s.setTables { s.tables with drumPending := none }
  | none => s

/-- The LINE table takes a new profile for a port (R130). -/
def takeLineProfile (p : PortId) (lp : LineProfile) (s : State) : State :=
  match p with
  | .a => s.setTables { s.tables with lineA := lp }
  | .b => s.setTables { s.tables with lineB := lp }

/-- Applies a pending LINE entry of the port that leaves CARRYING (R125). -/
def applyLine (p : PortId) (s : State) : State :=
  match s.tables.linePending with
  | some (q, lp) =>
    if q = p then
      let s := takeLineProfile p lp s
      s.setTables { s.tables with linePending := none }
    else s
  | none => s

/-! ### The report list of a port (R78, R79) -/

/-- The turnaround timer's length, 20 ms (R79). -/
def turnaroundTicks : Nat := 20000

/-- The report at the head of a list, when the head is formed. -/
def headReport : List RepItem → Option Report
  | .report r :: _ => some r
  | _ => none

/-- The report at the head of the list starts when it is formed, the activity is ANSWER_DUE and the turnaround timer is
not running (R79). A reception in progress is abandoned (R101). -/
def reportStart (p : PortId) (s : State) : State :=
  let x := s.port p
  if x.activity = .answerDue ∧ (headReport x.list).isSome ∧ x.turn = .stopped then
    s.setPort p { x with activity := .reporting, rx := rxIdle }
  else s

/-- The reports that are due start, on either port (R79), unless an eligible order waits: its execution comes first, at the
same moment (R108; 06, the worked sequence of a full queue). DEDUCED (log 35). -/
def startReports (s : State) : State :=
  if s.orders ≠ [] ∧ eligible s = true then s else reportStart .b (reportStart .a s)

/-- Adds an item to a report list; an item that finds the list holding 8 is dropped (R78). -/
def addItem (p : PortId) (item : RepItem) (s : State) : State :=
  let x := s.port p
  if x.list.length < 8 then
    s.setPort p
      { x with list := x.list ++ [item], activity := if x.activity = .idle then .answerDue else x.activity }
  else s

/-- Puts a formed report in place of the first reservation of a list (R78, R109). -/
def replaceReservation (r : Report) : List RepItem → List RepItem
  | [] => []
  | .reservation :: rest => .report r :: rest
  | .report q :: rest => .report q :: replaceReservation r rest

/-- A port leaves CARRYING: its timers of R82 and R83 stop, its receiver is HUNTING (R100) and a pending LINE copy of
the port is applied (R124). -/
def leaveCarrying (p : PortId) (activity : Activity) (s : State) : State :=
  let x := s.port p
  applyLine p (s.setPort p { x with activity := activity, loopTimer := none, breakTimer := none, rx := rxIdle })

/-- A port enters CARRYING (R82, R86, R98): a reception in progress is abandoned (R101), the break timer is stopped and
the loop-loss timer runs only if the loop current is absent. R79 restarts a turnaround timer that a reception stopped at
that reception's end; where this entry abandons the reception the timer stays stopped. DESIGN CHOICE (log 10). -/
def enterCarrying (p : PortId) (s : State) : State :=
  let x := s.port p
  s.setPort p
    { x with
      activity := .carrying
      rx := rxIdle
      turn := if x.turn = .held then .stopped else x.turn
      breakTimer := none
      loopTimer := if x.loopCurrent then none else some ((lineOf s p).lossTime * 1000) }

end Sys2Proof.Machine
end

