-- ==== Sys2Proof/Machine/Slips.lean ====
section
/-! DEFINITION. The slip unit (09): requests, the queue and owed slips, the snapshot, the dot-line cycle, and the
meanings of its commands. -/

namespace Sys2Proof.Machine

/-! ### The snapshot (R161 to R163) -/

/-- The roster entry that holds a code (R163). -/
def rosterEntry (s : State) (code : Nat) : Option RosterEntry :=
  s.tables.roster.find? fun e => decide (e.code ≠ 0) && decide (e.code = code)

/-- The code is a required receiver in the live roster (R151, R163). -/
def isRequired (s : State) (code : Nat) : Bool :=
  s.tables.roster.any fun e => decide (e.code ≠ 0) && decide (e.code = code) && e.required

/-- The word of a receipt outcome (R163). -/
def receiptWord : ReceiptOutcome → List Byte
  | .good => ascii ['G', 'O', 'O', 'D']
  | .poor => ascii ['P', 'O', 'O', 'R']
  | .resend => ascii ['R', 'E', 'S', 'E', 'N', 'D']
  | .silent => ascii ['S', 'I', 'L', 'E', 'N', 'T']

/-- The 16 characters of a receipt item (R163). -/
def receiptText (s : State) (i : ReceiptItem) : List Byte :=
  let name := match rosterEntry s i.code with
    | some e => e.name
    | none => ascii ['S', 'T', 'N', ' '] ++ dec 2 i.code ++ ascii [' ', ' ']
  name ++ ascii [' '] ++ padTo 6 (receiptWord i.outcome) ++ (if isRequired s i.code then ascii ['*'] else ascii [' '])

/-- The outcome word of a final outcome and cause (R162). -/
def outcomeWord (f : Final) : List Byte :=
  match f.outcome with
  | .delivered => ascii ['D', 'E', 'L', 'I', 'V', 'E', 'R', 'E', 'D']
  | .partly => ascii ['P', 'A', 'R', 'T', 'I', 'A', 'L']
  | .noReceipt => ascii ['N', 'O', ' ', 'R', 'E', 'C', 'E', 'I', 'P', 'T']
  | .cancelled => ascii ['C', 'A', 'N', 'C', 'E', 'L', 'L', 'E', 'D']
  | .aborted => ascii ['A', 'B', 'O', 'R', 'T', 'E', 'D']
  | .failed =>
    ascii ['F', 'A', 'I', 'L', ' '] ++
      match f.cause with
      | .line => ascii ['L', 'I', 'N', 'E']
      | .lines => ascii ['L', 'I', 'N', 'E', 'S']
      | .drum => ascii ['D', 'R', 'U', 'M']
      | .head => ascii ['H', 'E', 'A', 'D']
      | .lamp => ascii ['L', 'A', 'M', 'P']
      | .none => []

/-- A time as HH:MM:SS, or "--:--:--" when unset (R162). -/
def timeText : Option Reading → List Byte
  | some t => dec 2 t.hour ++ ascii [':'] ++ dec 2 t.minute ++ ascii [':'] ++ dec 2 t.second
  | none => ascii ['-', '-', ':', '-', '-', ':', '-', '-']

/-- A date as DD.MM.YY, or "--.--.--" when unset (R162). -/
def dateText : Option Reading → List Byte
  | some t => dec 2 t.day ++ ascii ['.'] ++ dec 2 t.month ++ ascii ['.'] ++ dec 2 t.year
  | none => ascii ['-', '-', '.', '-', '-', '.', '-', '-']

/-- A duration in seconds as MMM:SS, at most 999:59 (R162). -/
def durationText (d : Nat) : List Byte :=
  let d := if 59999 < d then 59999 else d
  dec 3 (d / 60) ++ ascii [':'] ++ dec 2 (d % 60)

/-- The letter of the port of the last attempt (R162). -/
def portText : Option PortId → List Byte
  | some .a => ascii ['A']
  | some .b => ascii ['B']
  | none => ascii ['-']

/-- The value of a field code (R162); `item` is the value of the receipt line field. -/
def fieldText (s : State) (r : PicRecord) (item : List Byte) (code : Nat) : List Byte :=
  let last := r.attempts.getLast?
  match code with
  | 128 => dec 4 (r.number.getD 0)
  | 129 => padTo 16 ((r.mount.map (·.slug)).getD [])
  | 130 => dec 5 ((r.mount.map (·.serial)).getD 0)
  | 131 => dateText (clockReading s)
  | 132 => timeText (last.bind (·.startTime))
  | 133 => durationText ((last.map (·.duration)).getD 0)
  | 134 => portText (last.map (·.port))
  | 135 => dec 1 r.attempts.length ++ ascii ['/'] ++ dec 1 ((r.grant.map (·.allowed)).getD 0)
  | 136 => padTo 10 ((r.final.map outcomeWord).getD [])
  | 137 => dec 5 ((last.map (·.underruns)).getD 0)
  | 138 => if s.station.mute then ascii ['-', '-'] else dec 2 s.station.code.toNat
  | 139 => item
  | 140 => timeText (last.bind (·.endTime))
  | 141 => timeText (r.final.bind (·.time))
  | _ => []

/-- A template line expanded byte by byte (R162). -/
def expandLine (s : State) (r : PicRecord) (item line : List Byte) : List Byte :=
  line.flatMap fun b => if 128 ≤ b.toNat then fieldText s r item b.toNat else [b]

/-- An expanded line cut at 32 characters (R163). -/
def cutLine (t : List Byte) : ImageLine := { text := t.take 32, cut := decide (32 < t.length) }

/-- The image lines of one template line (R161, R163). -/
def templateImage (s : State) (r : PicRecord) (line : List Byte) : List ImageLine :=
  if line = [] then []
  else if line.contains 139 then
    match r.receipts with
    | [] => [cutLine (expandLine s r (padTo 16 (ascii ['N', 'O', 'N', 'E'])) line)]
    | items => items.map fun i => cutLine (expandLine s r (receiptText s i) line)
  else [cutLine (expandLine s r [] line)]

/-- The header of a slip (R161). -/
def slipHeader (r : PicRecord) : SlipKind → List ImageLine
  | .final => []
  | .late => [cutLine (ascii ['L', 'A', 'T', 'E', ' ', 'R', 'E', 'C', 'E', 'I', 'P', 'T', 'S'])]
  | .reprint => [cutLine (ascii ['R', 'E', 'P', 'R', 'I', 'N', 'T', ' '] ++ decShort (r.prints + 1))]

/-- The trailer of a slip (R161). -/
def slipTrailer (r : PicRecord) : List ImageLine :=
  (if r.skewed then [cutLine (ascii ['S', 'K', 'E', 'W', 'E', 'D'])] else []) ++
    if 0 < r.dropped then
      [cutLine (ascii ['R', 'E', 'C', 'E', 'I', 'P', 'T', 'S', ' ', 'D', 'R', 'O', 'P', 'P', 'E', 'D', ' '] ++
        dec 5 r.dropped)]
    else []

/-- The slip image of a record (R161): header, template lines while the whole stays within 40 lines, trailer. -/
def snapshot (s : State) (r : PicRecord) (kind : SlipKind) : List ImageLine :=
  let header := slipHeader r kind
  let trailer := slipTrailer r
  header ++ (s.tables.template.flatMap (templateImage s r)).take (40 - header.length - trailer.length) ++ trailer

/-! ### Dots and strobes (R164, R165) -/

/-- Dot `d` (0..383) of printed dot line `r` (0..23) of an image line (R164). -/
def dotOn (l : ImageLine) (r d : Nat) : Bool :=
  let c := d / 12
  let glyph := if l.cut ∧ c = 31 then 95 else byteAt l.text c - 32
  if glyph = 0 then false else Config.glyphDot glyph r (d % 12)

/-- The dots on in block `b` (0..3) of printed dot line `r` (R165). -/
def blockDots (l : ImageLine) (r b : Nat) : Nat := (List.range 96).countP fun j => dotOn l r (96 * b + j)

/-- The strobe times of the blocks with a dot on, in order (R165). -/
def strobePlan (t : Strobe) (base : Nat) (l : ImageLine) (r : Nat) : List Nat :=
  (List.range 4).filterMap fun b =>
    let k := blockDots l r b
    if k = 0 then none else some (clamp (base + k * t.loadStep) 100 4000)

/-- Band 7's threshold, the highest (R134). -/
def topThreshold (t : Strobe) : Nat := (t.bands.getD 7 ⟨0, 0⟩).threshold

/-- The base time of the lowest-numbered band whose threshold is at least the reading (R165). -/
def bandBase (t : Strobe) (reading : Nat) : Nat :=
  ((t.bands.find? fun b => decide (reading ≤ b.threshold)).getD ⟨0, 0⟩).base

/-- The resume level of HEAD_HOT (R166). -/
def resumeLevel (t : Strobe) : Nat := topThreshold t - 64

/-! ### The dot-line cycle (R165) -/

/-- The image line the print position is in. -/
def imageLineAt (s : State) : PrintPos → ImageLine
  | .row i _ => s.slips.image.getD i ⟨[], false⟩
  | .feed _ => ⟨[], false⟩

/-- The first position of a slip (R161); an image without lines goes to the final feed (log 17). -/
def firstPos (image : List ImageLine) : PrintPos := if image = [] then .feed 0 else .row 0 0

/-- The position after a dot line (R164, R165): none after the last line of the final feed. -/
def nextPos (image : List ImageLine) : PrintPos → Option PrintPos
  | .row i d =>
    if d + 1 < 32 then some (.row i (d + 1))
    else if i + 1 < image.length then some (.row (i + 1) 0)
    else some (.feed 0)
  | .feed d => if d + 1 < 80 then some (.feed (d + 1)) else none

/-- A printed dot line carries the glyphs; the others are blank (R164). -/
def PrintPos.printed : PrintPos → Bool
  | .row _ d => decide (d < 24)
  | .feed _ => false

/-- Makes the thermistor request of a dot line, unless the last one's result is still to come back (R165, log 18). -/
def askTherm (s : State) : State :=
  if s.slips.thermOut then s else requestTherm (s.setSlips { s.slips with thermOut := true })

/-- The first feed step of a dot line: the second follows feed_interval later (R165). The interval is the one read at the
last band choice, for a blank dot line too, for which none is chosen: a STROBE load takes effect at the next band choice
(R168). DESIGN CHOICE (log 36). -/
def firstFeed (s : State) : State :=
  s.setSlips
    { s.slips with phase := .feedFirst, strobes := [], dotTimer := some s.slips.feed }

/-- Begins the dot line at the print position (R165). -/
def beginDotLine (s : State) : State :=
  if s.slips.pos.printed then
    askTherm (s.setSlips { s.slips with phase := .reading, strobes := [], dotTimer := none })
  else firstFeed s

/-- Chooses the band from a reading and strobes the waiting line (R165). The line's base, load_step and feed_interval are
read here (R165, R168; log 36). -/
def chooseBand (reading : Nat) (s : State) : State :=
  let t := s.tables.strobe
  let s := s.setSlips { s.slips with printer := .printing, feed := t.feedInterval }
  let plan := match s.slips.pos with
    | .row i d => strobePlan t (bandBase t reading) (imageLineAt s (.row i d)) d
    | .feed _ => []
  match plan with
  | [] => firstFeed s
  | first :: _ => s.setSlips { s.slips with phase := .strobing, strobes := plan, dotTimer := some first }

/-- A thermistor reading returns to the slip unit (R165, R166). -/
def takeTherm (reading : Nat) (s : State) : State :=
  let s := s.setSlips { s.slips with thermOut := false }
  if s.slips.thermDiscard then
    let s := s.setSlips { s.slips with thermDiscard := false }
    if s.slips.phase = .reading ∧ s.slips.printer = .printing then askTherm s else s
  else if s.slips.phase = .reading then
    match s.slips.printer with
    | .printing =>
      if topThreshold s.tables.strobe < reading then
        s.setSlips { s.slips with printer := .headHot, coolTimer := some 10000 }
      else chooseBand reading s
    | .headHot =>
      if resumeLevel s.tables.strobe < reading then s.setSlips { s.slips with coolTimer := some 10000 }
      else chooseBand reading s
    | .idle => s
    | .paperOut => s
  else s

/-! ### Slip start, requests, owed slips (R158 to R161) -/

/-- Starts the slip at the head of the queue: the snapshot, PRINTING, the first dot line (R161). -/
def startSlip (req : SlipReq) (s : State) : State :=
  let image := snapshot s ((s.rec? req.slot).getD recEmpty) req.kind
  beginDotLine
    (s.setSlips
      { s.slips with image := image, started := true, pos := firstPos image, printer := .printing })

/-- A slip starts when the queue is not empty, its head is not started and the printer is IDLE (R161). -/
def slipEval (s : State) : State :=
  match s.slips.queue with
  | req :: _ => if s.slips.started = false ∧ s.slips.printer = .idle then startSlip req s else s
  | [] => s

/-- The owed set of a slot. -/
def owedOf (s : State) (slot : Nat) : OwedSet := s.slips.owed.getD slot ⟨false, false⟩

/-- An owed set with nothing in it. -/
def OwedSet.isEmpty (o : OwedSet) : Bool := !o.final && !o.late

/-- The slip status of a slot, read from the queue, the owed sets and the print count (R160). -/
def slipStatusOf (s : State) (slot : Nat) : SlipStatus :=
  if (owedOf s slot).isEmpty = false then .owed
  else if s.slips.queue.any fun q => decide (q.slot = slot) then .queued
  else if 0 < ((s.rec? slot).map (·.prints)).getD 0 then .printed
  else .none

/-- The picture table sets a record's slip status after a report of the slip unit (R160). -/
def updateSlipStatus (slot : Nat) (s : State) : State :=
  let status := slipStatusOf s slot
  modRec slot (fun r => { r with slip := status }) s

/-- The slip unit's answer to a request (R158). -/
inductive SlipAnswer where
  | merged | queued | owed | refused
deriving DecidableEq, Repr

/-- The waiting requests: all but a started head (09, section 9.1). -/
def waitingRequests (u : SlipUnit) : List SlipReq := if u.started then u.queue.tail else u.queue

/-- Adds a kind to a slot's owed set (R158). -/
def oweSlip (slot : Nat) (kind : SlipKind) (s : State) : State :=
  let add := fun (o : OwedSet) =>
    match kind with
    | .final => { o with final := true }
    | .late => { o with late := true }
    | .reprint => o
  s.setSlips { s.slips with owed := s.slips.owed.modify slot add }

/-- A request reaches the slip unit (R158); the record's status follows (R160) and a slip may start (R161). -/
def requestSlip (slot : Nat) (kind : SlipKind) (s : State) : State × SlipAnswer :=
  if (waitingRequests s.slips).contains ⟨slot, kind⟩ then (updateSlipStatus slot s, .merged)
  else if s.slips.queue.length < 8 then
    (slipEval (updateSlipStatus slot (s.setSlips { s.slips with queue := s.slips.queue ++ [⟨slot, kind⟩] })), .queued)
  else if kind = .reprint then (s, .refused)
  else (updateSlipStatus slot (oweSlip slot kind s), .owed)

/-- Moves one owed request into the queue: the slot earliest in the finish order that owes one, FINAL before LATE (R159). -/
def fillOne (s : State) : State :=
  match s.pics.finishOrder.find? fun i => !(owedOf s i).isEmpty with
  | none => s
  | some slot =>
    if 8 ≤ s.slips.queue.length then s
    else
      let o := owedOf s slot
      let kind := if o.final then SlipKind.final else .late
      let left := if o.final then { o with final := false } else { o with late := false }
      updateSlipStatus slot
        (s.setSlips { s.slips with queue := s.slips.queue ++ [⟨slot, kind⟩], owed := s.slips.owed.set slot left })

/-- Fills the free places of the queue from the owed sets (R159). -/
def fillOwed : Nat → State → State
  | 0, s => s
  | n + 1, s => fillOwed n (fillOne s)

/-- The slip at the head completes (R167). -/
def completeSlip (s : State) : State :=
  match s.slips.queue with
  | [] => s
  | req :: rest =>
    let s := s.setSlips
      { s.slips with queue := rest, started := false, printer := .idle, phase := .idle, dotTimer := none }
    let s := modRec req.slot (fun r => { r with prints := satInc 255 r.prints }) s
    slipEval (fillOwed 8 (updateSlipStatus req.slot s))

/-- The print position moves on after a dot line (R165). -/
def nextDotLine (s : State) : State :=
  match nextPos s.slips.image s.slips.pos with
  | some pos => beginDotLine (s.setSlips { s.slips with pos := pos })
  | none => completeSlip s

/-! ### The commands of the slip unit -/

/-- STROBE_END (R165): the next block's strobe, or the first feed step. -/
def strobeEnd (s : State) : State :=
  if s.slips.phase = .strobing then
    match s.slips.strobes.tail with
    | [] => firstFeed s
    | next :: rest => s.setSlips { s.slips with strobes := next :: rest, dotTimer := some next }
  else s

/-- FEED_INTERVAL_EXPIRY (R165): the second feed step, or the next dot line. The interval is that of the last band choice
(log 36). -/
def feedIntervalExpiry (s : State) : State :=
  match s.slips.phase with
  | .feedFirst => s.setSlips { s.slips with phase := .feedSecond, dotTimer := some s.slips.feed }
  | .feedSecond => nextDotLine s
  | .idle => s
  | .reading => s
  | .strobing => s

/-- COOL_TIMER_EXPIRY (R166): a new thermistor request. -/
def coolTimerExpiry (s : State) : State :=
  if s.slips.printer = .headHot ∧ s.slips.coolTimer.isSome then
    askTherm (s.setSlips { s.slips with coolTimer := none })
  else s

/-- The printer enters PAPER_OUT (R167). -/
def paperOut (s : State) : State :=
  s.setSlips
    { s.slips with
      printer := .paperOut, phase := .idle, strobes := [], dotTimer := none, coolTimer := none, paperTimer := none,
      thermDiscard := s.slips.thermOut }

/-- PAPER_SENSOR_CHANGE (R167). -/
def paperSensorChange (present : Bool) (s : State) : State :=
  let s := s.setPins { s.pins with paperPresent := present }
  if present then
    if s.slips.printer = .paperOut then
      s.setSlips { s.slips with paperTimer := some (s.slips.paperTimer.getD 1000000) }
    else s
  else if s.slips.printer = .paperOut then s.setSlips { s.slips with paperTimer := none }
  else paperOut s

/-- PAPER_TIMER_EXPIRY (R167): the started slip restarts from its first line, or the printer is IDLE. -/
def paperTimerExpiry (s : State) : State :=
  if s.slips.printer = .paperOut ∧ s.slips.paperTimer.isSome then
    if s.slips.started then
      beginDotLine
        (s.setSlips { s.slips with paperTimer := none, printer := .printing, pos := firstPos s.slips.image })
    else slipEval (s.setSlips { s.slips with paperTimer := none, printer := .idle })
  else s

end Sys2Proof.Machine
end

