-- ==== Sys2Proof/Machine/Attempt.lean ====
section
/-! DEFINITION. What several blocks share: the head's rewind and fault, the end of an attempt, the finishing of a
record. They stand together because an attempt end reaches the scanner, the store, the sender, the head, the table
store, the picture table and the slip unit in one event (R146). -/

namespace Sys2Proof.Machine

/-! ### The head: parking, fault, rewind (R55 to R57) -/

/-- Entry to PARKED: H is 0, the timer stops; a pending scan profile is applied when no attempt is in progress (R56). -/
def parkHead (s : State) : State :=
  let s := s.setHead { s.head with state := .parked, pos := 0, stepTimer := none }
  if attemptInProgress s then s else applyScan s

/-- The head goes to FAULT: the timer stops, the steps owed are cleared, H keeps its value (R57). What a HEAD fault does
to an attempt in progress is `raiseHeadFault`'s. -/
def stopHead (s : State) : State :=
  s.setHead { s.head with state := .fault, owed := 0, stepTimer := none }

/-- One step in while rewinding; the step that reaches the rewind limit faults the head (R56). -/
def rewindStep (s : State) : State :=
  let count := s.head.rewindCount + 1
  let s := s.setHead { s.head with pos := s.head.pos - 1, rewindCount := count }
  if s.head.rewindLimit ≤ count then stopHead s
  else s.setHead { s.head with stepTimer := some s.tables.scan.fastStepInterval }

/-- Entry to REWINDING under a limit (R55, R56). -/
def enterRewind (limit : Nat) (s : State) : State :=
  let s := s.setHead
    { s.head with state := .rewinding, owed := 0, stepTimer := none, rewindCount := 0, rewindLimit := limit }
  if s.pins.homeAsserted then parkHead s
  else if limit = 0 then stopHead s
  else rewindStep s

/-- A rewind event: the head rewinds from POSITIONING, READY or SCANNING (R55). -/
def rewindHead (s : State) : State :=
  match s.head.state with
  | .positioning => enterRewind (s.head.pos + s.tables.scan.rewindMargin) s
  | .ready => enterRewind (s.head.pos + s.tables.scan.rewindMargin) s
  | .scanning => enterRewind (s.head.pos + s.tables.scan.rewindMargin) s
  | .parked => s
  | .rewinding => s
  | .fault => s

/-! ### The scanner, the store and the sender at an attempt end -/

/-- The scanner returns to IDLE (R45): what it has not offered is discarded and its conversions are withdrawn (R50). -/
def stopScanner (s : State) : State :=
  match s.scan.state with
  | .idle => s
  | .armed => s.setScan { s.scan with state := .idle }
  | .running => withdrawPhoto (s.setScan { s.scan with state := .idle, waiting := [], signalDue := false })
  | .finished => withdrawPhoto (s.setScan { s.scan with state := .idle, waiting := [], signalDue := false })

/-- The line store is flushed (R73). -/
def flushStore (s : State) : State :=
  s.setStore
    { s.store with entries := [], carry := false, lastWritten := false, flushed := s.store.entries.length }

/-- The picture number and the attempt record of the attempt in progress: what its DONE will carry (R144, R96; log 33). -/
def attemptOnLine (s : State) : Option (Nat × Attempt) :=
  (onDrumRec s).bind fun r => r.attempts.getLast?.map fun a => (r.number.getD 0, a)

/-- The sender closes the attempt on the line: STOP_TONE, or FREE for LINE (R93, R94). -/
def closeSender (outcome : AttemptOutcome) (s : State) : State :=
  if outcome = .line then
    s.setSender { s.sender with state := .free, port := none, cadenceOn := false, stageTimer := none }
  else if s.sender.state.sendingAttempt then
    let stop := (carryingLine s).stopTime * 100000
    let closing := attemptOnLine s
    let s := match s.sender.port with
      | some p => s.setPort p { s.port p with breakTimer := none }
      | none => s
    s.setSender
      { s.sender with
        state := .stopTone, cadenceOn := false, held := some outcome, closing := closing, stageTimer := some stop }
  else s

/-! ### Finishing a record (R155) -/

/-- Entry to FINISHED of the record of a slot. A record that leaves GRANTED starts the head's rewind. -/
def finishRecord (slot : Nat) (outcome : FinalOutcome) (cause : FailCause) (s : State) : State :=
  let granted := decide (((s.rec? slot).map (·.state)).getD .empty = .granted)
  let time := clockReading s
  let s := modRec slot (fun r => { r with state := .finished, final := some ⟨outcome, cause, time⟩ }) s
  let s := s.setPics { s.pics with finishOrder := s.pics.finishOrder ++ [slot], receiptTimer := none }
  let s := if granted then rewindHead s else s
  (requestSlip slot .final s).1

/-- The record enters AWAITING and the receipt timer starts (R148). -/
def awaitReceipts (slot : Nat) (s : State) : State :=
  let wait := (((s.rec? slot).bind (·.grant)).map (·.wait)).getD 0
  let s := modRec slot (fun r => { r with state := .awaiting }) s
  s.setPics { s.pics with receiptTimer := some (wait * 1000000) }

/-- The record goes back to GRANTED for its next attempt, or finishes with LINES when both ports are in FAULT
(R147, R151). -/
def grantAgain (slot : Nat) (s : State) : State :=
  if bothFault s then finishRecord slot .failed .lines s
  else modRec slot (fun r => { r with state := .granted }) (s.setPics { s.pics with receiptTimer := none })

/-- The record's state after an attempt end (R147). -/
def moveRecord (slot : Nat) (outcome : AttemptOutcome) (s : State) : State :=
  match outcome with
  | .complete => awaitReceipts slot s
  | .broken => awaitReceipts slot s
  | .line =>
    let r := (s.rec? slot).getD recEmpty
    if r.attempts.length < (r.grant.map (·.allowed)).getD 0 then grantAgain slot s
    else finishRecord slot .failed .line s
  | .drum => finishRecord slot .failed .drum s
  | .head => finishRecord slot .failed .head s
  | .lamp => finishRecord slot .failed .lamp s
  | .cancelled => finishRecord slot .cancelled .none s
  | .aborted => finishRecord slot .aborted .none s
  | .restarted => finishRecord slot .aborted .none s

/-! ### The end of an attempt (R146) -/

/-- Closes the attempt record (R146). -/
def closeAttempt (outcome : AttemptOutcome) (s : State) : State :=
  let seconds := s.pics.elapsed / 1000000
  modAttempt
    (fun a =>
      { a with
        outcome := some outcome
        endTime := clockReading s
        duration := if seconds < 65535 then seconds else 65535
        linesSent := s.sender.linesSent
        underruns := s.store.underruns
        overruns := s.store.overruns
        flushed := s.store.flushed })
    s

/-- Applies the pending copies whose use the attempt end ends (R124, R125). -/
def endAttemptUse (s : State) : State :=
  let s := applyStandard (applyTone s)
  if s.head.state = .parked then applyScan s else s

/-- A cause that ends the attempt in progress; without one it has no effect (R146). The order of the parts is log 28's. -/
def attemptEnd (outcome : AttemptOutcome) (s : State) : State :=
  match s.pics.onDrum with
  | none => s
  | some slot =>
    if attemptInProgress s then
      let s := flushStore (stopScanner s)
      let s := closeSender outcome (closeAttempt outcome s)
      endAttemptUse (rewindHead (moveRecord slot outcome s))
    else s

/-- A HEAD fault: the head stops, and an attempt in progress ends with HEAD (R57). -/
def raiseHeadFault (s : State) : State := attemptEnd .head (stopHead s)

/-- A rewind event that may itself fault the head while an attempt is in progress (R44, R56, R57). -/
def rewindInAttempt (s : State) : State :=
  let t := rewindHead s
  if s.head.state ≠ .fault ∧ t.head.state = .fault then attemptEnd .head t else t

end Sys2Proof.Machine
end

