-- ==== Sys2Proof/Machine/Head.lean ====
section
/-! DEFINITION. The head unit's steps, line bursts and commands (03, section 3.5), and the lamp's commands (section 3.3). -/

namespace Sys2Proof.Machine

/-- A step out; one past travel_limit is not made and faults the head (R51, R54). -/
def stepOut (s : State) : State :=
  if s.tables.scan.travelLimit < s.head.pos + 1 then raiseHeadFault s
  else s.setHead { s.head with pos := s.head.pos + 1 }

/-- One positioning step: READY when H reaches start_offset, else the timer restarts (R51). -/
def positionStep (s : State) : State :=
  let s := stepOut s
  if s.head.state = .positioning then
    if s.head.pos = s.tables.scan.startOffset then s.setHead { s.head with state := .ready, stepTimer := none }
    else s.setHead { s.head with stepTimer := some s.tables.scan.fastStepInterval }
  else s

/-- Entry to POSITIONING (R51). -/
def enterPositioning (s : State) : State :=
  if s.head.pos = s.tables.scan.startOffset then s.setHead { s.head with state := .ready, stepTimer := none }
  else positionStep (s.setHead { s.head with state := .positioning })

/-- Whenever the head is PARKED and the on-drum record GRANTED, the head positions; evaluated when either changed (R51). -/
def headEval (s0 s : State) : State :=
  let now := decide (s.head.state = .parked) && decide (onDrumState s = .granted)
  let before := decide (s0.head.state = .parked) && decide (onDrumState s0 = .granted)
  if now = true ∧ before = false then enterPositioning s else s

/-- The start of a line burst (R52, R53). -/
def lineBurst (s : State) : State :=
  if s.head.state = .scanning then
    let owed := s.head.owed + s.tables.scan.stepsPerLine
    if 255 < owed then raiseHeadFault s
    else if s.head.owed = 0 then
      let s := stepOut (s.setHead { s.head with owed := owed })
      if s.head.state = .scanning then
        s.setHead { s.head with owed := s.head.owed - 1, stepTimer := some s.tables.scan.stepInterval }
      else s
    else s.setHead { s.head with owed := owed }
  else s

/-- The check at window_start: a line with steps still owed is head-late (R53). -/
def checkHeadLate (s : State) : State :=
  if s.head.state = .scanning ∧ 0 < s.head.owed then countHeadLate s else s

/-- A burst belongs to a picture revolution of the run other than the last (R52). -/
def burstRevolution (s : State) (rev : Nat) : Bool :=
  decide ((carryingLine s).nPhase < rev) && decide (rev < (carryingLine s).nPhase + onDrumLines s)

/-- The head-late check belongs to picture revolutions 2 to L (R53). -/
def lateRevolution (s : State) (rev : Nat) : Bool :=
  decide ((carryingLine s).nPhase + 2 ≤ rev) && decide (rev ≤ (carryingLine s).nPhase + onDrumLines s)

/-- What a forward count onto `pos` starts at the head: the burst at window_end, the late check at window_start (R52, R53), by
the revolution `rev` of the run that the count came in, though its sample finish the run (0 when it came in none). A drum that rocks back and counts forward onto window_end or window_start again in one revolution starts another burst,
and counts the line head-late again while steps are owed. DESIGN CHOICE (log 13). -/
def headAtCount (rev pos : Nat) (s : State) : State :=
  let s := if pos = s.tables.scan.windowEnd ∧ burstRevolution s rev = true then lineBurst s else s
  if pos = s.tables.scan.windowStart ∧ pos ≠ 0 ∧ lateRevolution s rev = true then checkHeadLate s else s

/-- What an index pulse starts at the head in place of those counts: the burst when window_end is 8,192, by the
revolution `closing` that it closed (0 when it closed none), and the late check when window_start is 0 (R52, R53). -/
def headAtIndex (closing : Nat) (s : State) : State :=
  let s :=
    if s.scan.state = .running ∧ s.tables.scan.windowEnd = 8192 ∧ burstRevolution s closing = true then lineBurst s
    else s
  if s.scan.state = .running ∧ s.tables.scan.windowStart = 0 ∧ lateRevolution s s.scan.rev = true then checkHeadLate s
  else s

/-- STEP_TIMER_EXPIRY (R51, R52, R56): one positioning, burst or rewind step. -/
def stepTimerExpiry (s : State) : State :=
  if s.head.stepTimer.isNone then s
  else
    let s := s.setHead { s.head with stepTimer := none }
    match s.head.state with
    | .positioning => positionStep s
    | .scanning =>
      if s.head.owed = 0 then s
      else
        let s := stepOut s
        if s.head.state = .scanning then
          let owed := s.head.owed - 1
          s.setHead
            { s.head with owed := owed, stepTimer := if owed = 0 then none else some s.tables.scan.stepInterval }
        else s
    | .rewinding =>
      let s := rewindStep s
      if s.head.state = .fault then raiseHeadFault s else s
    | .parked => s
    | .ready => s
    | .fault => s

/-- HOME_SENSOR_ASSERT (R56): the sensor acts on the head only in REWINDING. -/
def homeSensor (level : Bool) (s : State) : State :=
  let s := s.setPins { s.pins with homeAsserted := level }
  if level = true ∧ s.head.state = .rewinding then parkHead s else s

/-! ### The lamp (R46) -/

/-- The lamp follows demand at its changes (R46). -/
def lampEval (s0 s : State) : State :=
  if lampDemand s = true ∧ lampDemand s0 = false then
    s.setLamp { s.lamp with state := .warming, warmTimer := some (s.tables.scan.warmUp * 100000) }
  else if lampDemand s = false ∧ lampDemand s0 = true then
    match s.lamp.state with
    | .fault => s
    | .off => s
    | .warming => s.setLamp { s.lamp with state := .off, warmTimer := none }
    | .warm => s.setLamp { s.lamp with state := .off, warmTimer := none }
  else s

/-- LAMP_WARM_TIMER_EXPIRY (R46). -/
def lampWarm (s : State) : State :=
  if s.lamp.state = .warming ∧ s.lamp.warmTimer.isSome then
    s.setLamp { s.lamp with state := .warm, warmTimer := none }
  else s

end Sys2Proof.Machine
end

