-- ==== Sys2Proof/Machine/Drum.lean ====
section
/-! DEFINITION. The encoder counter, the drum drive and the speed regulator (01, 02), and the meanings of their commands. -/

namespace Sys2Proof.Machine

/-! ### The speed regulator (02, section 2.2) -/

/-- Stage 1, the trim T (R25). -/
def trim (running : Bool) (fill : Nat) (p : DrumProfile) : Int :=
  if running then clampInt ((((fill : Int) - 128) * p.g).tdiv 16) (-(p.tl : Int)) p.tl else 0

/-- Stage 2, the raw error e_raw (R26). -/
def rawError (period w : Nat) (t : Int) : Int := (period : Int) - ((w : Int) + t)

/-- Stage 2, the clamped error e (R26). -/
def clampedError (eRaw : Int) : Int := clampInt eRaw (-8191) 8191

/-- Stage 3, the integrator (R27). -/
def integrate (memory : SatMemory) (i e : Int) : Int :=
  let sum := clampInt (i + e) (-524287) 524287
  match memory with
  | .high => if e < 0 then sum else i
  | .low => if 0 < e then sum else i
  | .neither => if e = 0 then i else sum

/-- Stage 4, the correction C (R28). -/
def correction (p : DrumProfile) (e i : Int) : Int := (64 * (p.kp : Int) * e + (p.ki : Int) * i).fdiv 4096

/-- Stage 5, the duty written (R29). -/
def dutyWritten (p : DrumProfile) (dutyRaw : Int) : Nat := (clampInt dutyRaw p.dutyMin p.dutyMax).toNat

/-- The saturation memory after the write (R30). -/
def memoryAfter (p : DrumProfile) (dutyRaw : Int) : SatMemory :=
  if (p.dutyMax : Int) ≤ dutyRaw then .high else if dutyRaw ≤ (p.dutyMin : Int) then .low else .neither

/-- The e_raw of a window event (R26). -/
def eRawOf (period : Nat) (s : State) : Int :=
  rawError period (standardInForce s).w (trim (cadenceRunning s) s.store.entries.length s.tables.drum)

/-- The regulator's work at a window event: the integrator, the saturation memory and the pending duty (R23 to R30). -/
def regulate (period : Nat) (s : State) : State :=
  let p := s.tables.drum
  let e := clampedError (eRawOf period s)
  let i := integrate s.reg.memory s.reg.integ e
  let dutyRaw := ((standardInForce s).dff : Int) + correction p e i
  (s.setReg { s.reg with integ := i, memory := memoryAfter p dutyRaw }).setDrum
    { s.drum with pendingDuty := dutyWritten p dutyRaw }

/-! ### Entries to the drum states -/

/-- Entry to SPINUP (R9); both braking timers are cancelled (R14). -/
def enterSpinup (s : State) : State :=
  let p := s.tables.drum
  (s.setEnc { s.enc with reverseRun := 0 }).setDrum
    { s.drum with
      state := .spinup
      pendingDuty := p.dutyMin
      activeDuty := p.dutyMin
      modeReq := some .drive
      spinupTimer := some (p.spinupLimit * 100000)
      rampTimer := some 10000
      brakingTimer := none
      silenceTimer := none }

/-- Entry to BRAKING (R14). -/
def enterBraking (s : State) : State :=
  let w := (standardInForce s).w
  s.setDrum
    { s.drum with
      state := .braking
      modeReq := some .brake
      brakingW := w
      brakingTimer := some (s.tables.drum.brakeTime * 100000)
      silenceTimer := some (10 * w)
      stallDeadline := none
      spinupTimer := none }

/-- Entry to STOPPED: the bridge goes OFF at once, the timers stop, a pending drum profile is applied (R8, R14). -/
def enterStopped (s : State) : State :=
  applyDrum
    (s.setDrum
      { s.drum with
        state := .stopped, mode := .off, modeReq := none, brakingTimer := none, silenceTimer := none,
        stallDeadline := none })

/-- Entry to CUTOFF with a fault (R15): the drive, then the head and the attempt in progress. -/
def enterCutoff (f : DrumFault) (s : State) : State :=
  let s := s.setDrum
    { s.drum with
      state := .cutoff, mode := .off, modeReq := none, pendingDuty := 0, activeDuty := 0, stallDeadline := none,
      spinupTimer := none, rampTimer := none, brakingTimer := none, silenceTimer := none, spinLatch := false,
      lastFault := f, unlocked := 0 }
  attemptEnd .drum (stopHead s)

/-- The drum states in which a fault acts (R15). -/
def DrumFault.actsIn : DrumFault → DrumState → Bool
  | .none, _ => false
  | .stall, d => decide (d = .spinup ∨ d = .tracking ∨ d = .locked)
  | .reverse, d => decide (d = .spinup ∨ d = .tracking ∨ d = .locked)
  | .encoder, d => decide (d = .spinup ∨ d = .tracking ∨ d = .locked ∨ d = .braking)
  | .overspeed, d => decide (d = .tracking ∨ d = .locked)
  | .cover, d => decide (d = .spinup ∨ d = .tracking ∨ d = .locked ∨ d = .braking)

/-- A drum fault is raised (R15). -/
def drumFault (f : DrumFault) (s : State) : State :=
  if f.actsIn s.drum.state then enterCutoff f s else s

/-! ### The window event (R5, R10 to R12, R14) -/

/-- The stall deadline: this event plus 4W (R21). -/
def setStallDeadline (s : State) : State :=
  s.setDrum { s.drum with stallDeadline := some (s.now + BitVec.ofNat 32 (4 * (standardInForce s).w)) }

/-- SPINUP to TRACKING (R10, R32). -/
def enterTracking (s : State) : State :=
  setStallDeadline
    ((s.setReg { s.reg with integ := 0, memory := .neither, lockCount := 0, unlockCount := 0 }).setDrum
      { s.drum with state := .tracking, spinupTimer := none })

/-- The lock and unlock decision with the e_raw of the event (R11, R12). -/
def decideLock (eRaw : Int) (s : State) : State :=
  let p := s.tables.drum
  match s.drum.state with
  | .tracking =>
    let count := if eRaw.natAbs ≤ p.lockBand then satInc 255 s.reg.lockCount else 0
    if p.lockCount ≤ count then
      (s.setReg { s.reg with lockCount := 0, unlockCount := 0 }).setDrum { s.drum with state := .locked, unlocked := 0 }
    else s.setReg { s.reg with lockCount := count }
  | .locked =>
    let count := if p.unlockBand < eRaw.natAbs then s.reg.unlockCount + 1 else 0
    if 2 ≤ count then
      (s.setReg { s.reg with lockCount := 0, unlockCount := 0 }).setDrum { s.drum with state := .tracking }
    else s.setReg { s.reg with unlockCount := count }
  | .stopped => s
  | .spinup => s
  | .braking => s
  | .cutoff => s

/-- The unlocked-window count: a window handled by R11 that leaves the drum in TRACKING during an attempt; at 32 the
attempt ends with DRUM (R12). -/
def countUnlocked (s : State) : State :=
  if attemptInProgress s = true ∧ s.drum.state = .tracking then
    let n := s.drum.unlocked + 1
    let s := countLockLost (s.setDrum { s.drum with unlocked := n })
    if 32 ≤ n then attemptEnd .drum s else s
  else s

/-- A window event in TRACKING or LOCKED: overspeed check, stall deadline, regulation, lock decision, unlocked window, in
the order of R11 and R37. -/
def regulatedWindow (period : Nat) (s : State) : State :=
  if 2 * period < (standardInForce s).w then drumFault .overspeed s
  else
    let eRaw := eRawOf period s
    countUnlocked (decideLock eRaw (regulate period (setStallDeadline s)))

/-- A window event reaches the drum drive (R5). -/
def windowEvent (period : Nat) (s : State) : State :=
  match s.drum.state with
  | .stopped => s
  | .spinup => if period ≤ 2 * (standardInForce s).w then enterTracking s else s
  | .tracking => regulatedWindow period s
  | .locked => regulatedWindow period s
  | .braking =>
    if 10 * s.drum.brakingW < period then enterStopped s
    else s.setDrum { s.drum with silenceTimer := some (10 * s.drum.brakingW) }
  | .cutoff => s

/-- The window period between two captures, modulo 2^32 and at most 1,048,575 (R5). -/
def windowPeriod (prev cur : Tick) : Nat :=
  let n := (cur - prev).toNat
  if n < 1048575 then n else 1048575

/-- The counter takes boundary b (R4): captures move, and a period is formed when a previous capture is present. -/
def takeBoundary (b : Nat) (s : State) : State :=
  let t := s.setEnc { s.enc with prevCap := s.enc.curCap, curCap := some s.now, lastBoundary := some b }
  match s.enc.curCap with
  | some prev => windowEvent (windowPeriod prev s.now) t
  | none => t

/-- Boundary b is taken only while index-found is set and only when it differs from the last one (R4). -/
def boundaryAt (b : Nat) (s : State) : State :=
  if s.enc.indexFound = true ∧ s.enc.lastBoundary ≠ some b then takeBoundary b s else s

/-! ### Edges and index pulses (R1, R2) -/

/-- A forward count (R1, R4). -/
def countForward (s : State) : State :=
  let pos := if s.enc.pos = 8191 then 0 else s.enc.pos + 1
  let s := s.setEnc { s.enc with pos := pos, reverseRun := 0 }
  if pos % 512 = 0 ∧ pos ≠ 0 then boundaryAt (pos / 512) s else s

/-- A reverse count (R1). -/
def countReverse (s : State) : State :=
  let pos := if s.enc.pos = 0 then 8191 else s.enc.pos - 1
  let run := satInc 255 s.enc.reverseRun
  let raised := decide (run = 32) && decide (s.enc.reverseRun ≠ 32)
  let s := s.setEnc { s.enc with pos := pos, reverseRun := run }
  if raised then drumFault .reverse s else s

/-- The deviation d of P at an index pulse (R2). -/
def deviation (pos : Nat) : Int := if pos < 4096 then pos else (pos : Int) - 8192

/-- The ENCODER fault at the counter (R2): the index and the captures are discarded. -/
def loseIndex (s : State) : State :=
  drumFault .encoder
    (s.setEnc
      { s.enc with indexFound := false, slipRun := 0, curCap := none, prevCap := none, lastBoundary := none })

/-- The check of the index pulse (R2). -/
def checkIndex (s : State) : State :=
  let d := deviation s.enc.pos
  let s := s.setEnc { s.enc with pos := 0 }
  if s.enc.indexFound = false then s.setEnc { s.enc with indexFound := true, slipRun := 0 }
  else if d.natAbs ≤ s.tables.drum.indexTol then s.setEnc { s.enc with slipRun := 0 }
  else
    let run := s.enc.slipRun + 1
    let s := countIndexSlip s
    if 3 ≤ run then loseIndex s else s.setEnc { s.enc with slipRun := run }

/-! ### Evaluations of the drive at the changes R7 names -/

/-- The drive's evaluation of demand (R8, R14). -/
def evaluateDemand (s : State) : State :=
  match s.drum.state with
  | .stopped =>
    if demand s = true ∧ s.pins.coverClosed = true ∧ s.tables.drumPending = none then enterSpinup s else s
  | .spinup => if demand s then s else enterBraking s
  | .tracking => if demand s then s else enterBraking s
  | .locked => if demand s then s else enterBraking s
  | .braking => if demand s then enterSpinup s else s
  | .cutoff => s

/-- The drive evaluates demand at a change of demand, of the drum state or of the cover level (R7, R8). -/
def drumEval (s0 s : State) : State :=
  if demand s0 = demand s ∧ s0.drum.state = s.drum.state ∧ s0.pins.coverClosed = s.pins.coverClosed then s
  else evaluateDemand s

/-- A change of the standard in force while TRACKING or LOCKED (R13, R33). -/
def standardEval (s0 s : State) : State :=
  if standardKey s0 ≠ standardKey s ∧ (s.drum.state = .tracking ∨ s.drum.state = .locked) then
    (s.setReg { s.reg with integ := 0, lockCount := 0, unlockCount := 0 }).setDrum { s.drum with state := .tracking }
  else s

/-! ### The commands of the drum drive -/

/-- RAMP_TICK (R9). Outside SPINUP an expiring ramp timer stops and moves nothing (log 26). -/
def rampTick (s : State) : State :=
  if s.drum.rampTimer.isNone then s
  else if s.drum.state = .spinup then
    let p := s.tables.drum
    let target := clamp (standardInForce s).dff p.dutyMin p.dutyMax
    let d := s.drum.pendingDuty
    let next :=
      if d < target then (if target < d + p.rampStep then target else d + p.rampStep)
      else if target < d then (if d < target + p.rampStep then target else d - p.rampStep)
      else d
    s.setDrum { s.drum with pendingDuty := next, rampTimer := some 10000 }
  else s.setDrum { s.drum with rampTimer := none }

/-- SPINUP_TIMER_EXPIRY (R10): STALL. -/
def spinupTimerExpiry (s : State) : State :=
  if s.drum.state = .spinup ∧ s.drum.spinupTimer.isSome then drumFault .stall s else s

/-- STALL_DEADLINE (R21): STALL in TRACKING or LOCKED. -/
def stallDeadline (s : State) : State :=
  if (s.drum.state = .tracking ∨ s.drum.state = .locked) ∧ s.drum.stallDeadline.isSome then drumFault .stall s else s

/-- BRAKING_TIMER_EXPIRY (R14). -/
def brakingTimerExpiry (s : State) : State :=
  if s.drum.state = .braking ∧ s.drum.brakingTimer.isSome then enterStopped s else s

/-- WINDOW_SILENCE_TIMER_EXPIRY (R14). -/
def silenceTimerExpiry (s : State) : State :=
  if s.drum.state = .braking ∧ s.drum.silenceTimer.isSome then enterStopped s else s

/-- CYCLE_END (R19, R20). -/
def cycleEnd (s : State) : State :=
  s.setDrum
    { s.drum with
      activeDuty := s.drum.pendingDuty, mode := s.drum.modeReq.getD s.drum.mode, modeReq := none, cycleCount := 0 }

/-- COVER_CHANGE (R16). -/
def coverChange (closed : Bool) (s : State) : State :=
  let s := s.setPins { s.pins with coverClosed := closed }
  if closed then s else drumFault .cover s

/-- The head leaves FAULT for REWINDING; its position is not trusted, so the limit is the long one (R58). A rewind that
faults at once ends no attempt, for none is in progress with the head in FAULT. -/
def rewindFromFault (s : State) : State :=
  if s.head.state = .fault then enterRewind (s.tables.scan.travelLimit + s.tables.scan.rewindMargin) s else s

/-- MECH CLEAR and RESET MECH, one request to the drum drive and the head (R17, R58): refused with the drum in CUTOFF
and the cover open, else the state after it. -/
def mechClear (s : State) : Option State :=
  if s.drum.state = .cutoff ∧ s.pins.coverClosed = false then none
  else some (rewindFromFault (if s.drum.state = .cutoff then enterStopped s else s))

end Sys2Proof.Machine
end

