-- ==== Sys2Proof/Machine/Scanner.lean ====
section
/-! DEFINITION. The scanner, the tone path, the line store's offers and the converter's completion (03, sections 3.2 to
3.4; 04), and the two encoder commands, which reach the counter, the scanner and the head in turn. -/

namespace Sys2Proof.Machine

/-! ### The tone path (R61, R62) -/

/-- The normalised reading n (R61). -/
def normalise (reading dRef wRef : Nat) : Nat :=
  (clampInt ((((reading : Int) - dRef) * 4096).fdiv ((wRef : Int) - dRef)) 0 4095).toNat

/-- The picture level of a normalised reading through the tone table (R62). -/
def toneLevel (table : List Nat) (n : Nat) : Nat :=
  let i := n / 256
  let f := n % 256
  let lo := table.getD i 0
  let d := (table.getD (i + 1) 0 : Int) - lo
  ((lo : Int) + (d * f + 128).fdiv 256).toNat

/-- The tone path's answer to a reading, with W_ref, D_ref and the table as they stand (R60, R63). -/
def tonePath (s : State) (reading : Nat) : Nat :=
  toneLevel s.tables.tone (normalise reading s.tables.scan.darkLevel s.scan.wRef)

/-! ### Geometry and entries (R38, R41) -/

/-- Position `p` lies in the window (R38). -/
def inWindow (sc : ScanProfile) (p : Nat) : Bool := decide (sc.windowStart ≤ p) && decide (p < sc.windowEnd)

/-- Position `p` lies in the white patch (R38). -/
def inPatch (sc : ScanProfile) (p : Nat) : Bool := decide (sc.whiteStart ≤ p) && decide (p < sc.whiteEnd)

/-- The level of a phasing entry at position `p` (R41; 03, section 3.1). -/
def phasingLevel (lp : LineProfile) (p : Nat) : Nat :=
  match lp.polarity with
  | .blackOnWhite => if p < lp.phasingWidth then 0 else 255
  | .whiteOnBlack => if p < lp.phasingWidth then 255 else 0

/-- The revolution is a phasing revolution of the run (R41). -/
def phasingRevolution (s : State) : Bool := decide (s.scan.rev ≤ (carryingLine s).nPhase)

/-- The revolution is the run's last (R43). -/
def lastRevolution (s : State) : Bool := decide (s.scan.rev = (carryingLine s).nPhase + onDrumLines s)

/-- The position of sample k (R38). -/
def samplePos (s : State) (k : Nat) : Nat := k * (standardInForce s).pitch

/-- The entry of sample k (R41): its level is absent when the tone path is to give it, and it waits for the white-patch
conversion when its position lies in the patch. -/
def sampleEntry (s : State) (k : Nat) : WaitEntry :=
  let p := samplePos s k
  let first := decide (k = 0)
  let white := inPatch s.tables.scan p
  if phasingRevolution s then ⟨.phasing, some (phasingLevel (carryingLine s) p), first, white⟩
  else if inWindow s.tables.scan p then ⟨.picture, none, first, white⟩
  else if k = 0 then ⟨.picture, some (carryingLine s).gapLevel, true, white⟩
  else ⟨.gap, some (carryingLine s).gapLevel, false, white⟩

/-! ### Offers to the line store (R42, R65 to R67, R71, R88) -/

/-- The carried mark is placed on an accepted entry (R67). -/
def placeMark (e : Entry) : Entry :=
  if e.first then e
  else
    match e.kind with
    | .phasing => { e with first := true }
    | .picture => { e with first := true }
    | .gap => { e with first := true, kind := .picture }

/-- The line store takes or discards an offered entry (R65, R66). -/
def offerEntry (e : Entry) (st : LineStore) : LineStore :=
  if st.entries.length < 256 then
    { st with
      entries := st.entries ++ [if st.carry then placeMark e else e]
      carry := false
      accepted := satInc 4294967295 st.accepted }
  else { st with overruns := satInc 65535 st.overruns, carry := st.carry || e.first }

/-- The cadence starts when F first reaches 128 in PREFILL (R88). -/
def cadenceStart (s : State) : State :=
  if s.sender.state = .prefill ∧ s.sender.cadenceOn = false ∧ 128 ≤ s.store.entries.length then
    s.setSender { s.sender with cadenceOn := true, acc := 0 }
  else s

/-- An offer by the scanner (R65, R66, R88). -/
def storeOffer (e : Entry) (s : State) : State := cadenceStart (s.setStore (offerEntry e s.store))

/-- Last entry written (R71, R88, R92). -/
def lastEntryWritten (s : State) : State :=
  let s := s.setStore { s.store with lastWritten := true }
  match s.sender.state with
  | .prefill => s.setSender { s.sender with cadenceOn := true, state := .drain }
  | .phasing => s.setSender { s.sender with state := .drain }
  | .picture => s.setSender { s.sender with state := .drain }
  | .free => s
  | .startTone => s
  | .drain => s
  | .stopTone => s
  | .doneOut => s
  | .lineupWhite => s
  | .lineupBlack => s

/-- The entry to offer, once it has its level and its white-patch conversion has completed (R42). -/
def WaitEntry.ready (e : WaitEntry) : Option Entry :=
  if e.white then none else e.level.map fun l => ⟨e.kind, l, e.first⟩

/-- Offers the entries of a list as far as they are ready; the rest keep waiting (R42). -/
def offerList : List WaitEntry → State → State
  | [], s => s.setScan { s.scan with waiting := [] }
  | e :: rest, s =>
    match e.ready with
    | some x => offerList rest (storeOffer x s)
    | none => s.setScan { s.scan with waiting := e :: rest }

/-- The scanner offers what is ready (R42). -/
def offerReady (s : State) : State := offerList s.scan.waiting s

/-- A finished scanner signals last entry written once its final entry has been offered, and only then do the lamp's demand
end and the head's rewind start (R44). -/
def signalIfDue (s : State) : State :=
  if s.scan.signalDue = true ∧ s.scan.waiting = [] then
    rewindInAttempt (lastEntryWritten (s.setScan { s.scan with signalDue := false }))
  else s

/-! ### Samples, white reference, finish (R39, R40, R43, R44, R47, R48) -/

/-- Takes sample k: its entry, its conversions, and the next sample index (R40, R41). -/
def takeSample (k : Nat) (s : State) : State :=
  let p := samplePos s k
  let e := sampleEntry s k
  let s := s.setScan { s.scan with waiting := s.scan.waiting ++ [e], k := k + 1 }
  let s := if e.level = none then requestPhoto .picture s else s
  let s := if inPatch s.tables.scan p then requestPhoto .white s else s
  offerReady s

/-- The white reference after an update with the mean of a revolution (R47). -/
def whiteAfter (sc : Scanner) : Nat :=
  let mean := sc.whiteSum / sc.whiteCount
  if sc.whiteSet then (3 * sc.wRef + mean) / 4 else mean

/-- The update at a close or a finish, when the revolution had a white-patch reading (R43, R47). -/
def updateWhite (s : State) : State :=
  if 0 < s.scan.whiteCount then s.setScan { s.scan with wRef := whiteAfter s.scan, whiteSet := true } else s

/-- The span after an update is below 512 (R48). -/
def tooDark (s : State) : Bool := decide (s.scan.wRef < s.tables.scan.darkLevel + 512)

/-- A LAMP fault (R48). -/
def lampFault (s : State) : State :=
  attemptEnd .lamp (stopScanner (s.setLamp { s.lamp with state := .fault, warmTimer := none }))

/-- The scanner moves to FINISHED, and signals once its final entry has been offered (R44). -/
def finishRun (s : State) : State := signalIfDue (s.setScan { s.scan with state := .finished, signalDue := true })

/-- The scanner finishes at its last sample: update first, then the finish unless it faulted the lamp (R43, R44). -/
def finishAtSample (s : State) : State :=
  let t := updateWhite s
  if 0 < s.scan.whiteCount ∧ tooDark t = true then lampFault t else finishRun t

/-- The next revolution opens with sample 0 (R43). -/
def openRevolution (rev : Nat) (s : State) : State :=
  takeSample 0 (s.setScan { s.scan with rev := rev, k := 0, whiteSum := 0, whiteCount := 0 })

/-- An index pulse in RUNNING closes the revolution and opens the next, finishes or faults the lamp (R43, R48). -/
def closeRevolution (s : State) : State :=
  let t := updateWhite s
  if 0 < s.scan.whiteCount ∧ tooDark t = true then lampFault t
  else if t.scan.rev = (carryingLine t).nPhase ∧ t.scan.whiteSet = false then lampFault t
  else if lastRevolution t then finishRun t
  else openRevolution (t.scan.rev + 1) t

/-- What an index pulse does at the scanner (R39, R43). -/
def scannerAtIndex (s : State) : State :=
  match s.scan.state with
  | .idle => s
  | .armed => openRevolution 1 (s.setScan { s.scan with state := .running, whiteSet := false })
  | .running => closeRevolution s
  | .finished => s

/-- The last sample of the last revolution has been taken (R43). -/
def lastSampleTaken (s : State) : Bool := lastRevolution s && decide (s.scan.k = samplesPerRev s)

/-- What a forward count onto `pos` does at the scanner (R40, R43). A last sample in the white patch finishes the run
when its conversion completes (log 14). -/
def scannerAtCount (pos : Nat) (s : State) : State :=
  if s.scan.state = .running ∧ 1 ≤ s.scan.k ∧ s.scan.k < samplesPerRev s ∧ pos = samplePos s s.scan.k then
    let s := takeSample s.scan.k s
    if s.scan.state = .running ∧ lastSampleTaken s = true ∧ inPatch s.tables.scan pos = false then finishAtSample s
    else s
  else s

/-! ### The converter's completion (R49) -/

/-- Gives a level to the oldest entry that waits for one (R42). -/
def fillLevel (level : Nat) : List WaitEntry → List WaitEntry
  | [] => []
  | e :: rest =>
    match e.level with
    | none => { e with level := some level } :: rest
    | some _ => e :: fillLevel level rest

/-- The oldest entry that waits for its white-patch conversion has it (R42). -/
def fillWhite : List WaitEntry → List WaitEntry
  | [] => []
  | e :: rest => if e.white then { e with white := false } :: rest else e :: fillWhite rest

/-- A white-patch reading joins the sum of the revolution and its entry is ready (R41, R42, R47); the last one of a run whose
last sample lies in the white patch finishes the run (R43, R44; log 14). In FINISHED the entry alone is left of it. -/
def takeWhite (reading : Nat) (s : State) : State :=
  if s.scan.state = .running then
    let s := offerReady
      (s.setScan
        { s.scan with
          whiteSum := s.scan.whiteSum + reading, whiteCount := s.scan.whiteCount + 1
          waiting := fillWhite s.scan.waiting })
    if lastSampleTaken s = true ∧ inPatch s.tables.scan (samplePos s (s.scan.k - 1)) = true ∧ s.conv.photoWaiting = []
    then finishAtSample s
    else s
  else signalIfDue (offerReady (s.setScan { s.scan with waiting := fillWhite s.scan.waiting }))

/-- A PICTURE reading passes the tone path and completes its entry (R60). -/
def takePicture (reading : Nat) (s : State) : State :=
  signalIfDue (offerReady (s.setScan { s.scan with waiting := fillLevel (tonePath s reading) s.scan.waiting }))

/-- The result goes to its requester (R49, R50). -/
def handResult (reading : Nat) (s : State) : State :=
  match s.conv.current with
  | none => s
  | some .thermistor => takeTherm reading s
  | some (.photocell _ true) => s
  | some (.photocell .white false) => takeWhite reading s
  | some (.photocell .picture false) => takePicture reading s

/-- CONVERSION_COMPLETE (R49): the result goes out, then the next conversion starts. -/
def conversionComplete (reading : Nat) (s : State) : State :=
  if s.conv.current.isNone then s else startNextConversion (handResult reading s)

/-! ### The encoder commands -/

/-- The revolution of the run in progress, 0 with no run (R52, R53). -/
def runRevolution (s : State) : Nat := if s.scan.state = .running then s.scan.rev else 0

/-- ENCODER_COUNT (R1, R4, R40, R52, R53): counter, scanner, head (log 7). -/
def encoderCount (dir : Dir) (s : State) : State :=
  match dir with
  | .forward =>
    let s := countForward s
    headAtCount (runRevolution s) s.enc.pos (scannerAtCount s.enc.pos s)
  | .reverse => countReverse s

/-- INDEX_PULSE (R2, R3, R39, R43, R52, R53): check, boundary 0, scanner, head (log 7). -/
def indexPulse (s : State) : State :=
  let s := boundaryAt 0 (checkIndex s)
  headAtIndex (runRevolution s) (scannerAtIndex s)

end Sys2Proof.Machine
end

