-- ==== Sys2Proof/Machine/Sender.lean ====
section
/-! DEFINITION. The picture sender: attempt start, the tone stages, the cadence, the line-up, and what the ports' loop
sense and break detector do to it (05; 08, section 8.4). -/

namespace Sys2Proof.Machine

/-! ### Attempt start (R144, R86, R72, R12, R52) -/

/-- A new attempt record (R144). -/
def newAttempt (number : Nat) (p : PortId) (substituted : Bool) (time : Option Reading) : Attempt :=
  { number := number, port := p, substituted := substituted, startTime := time, endTime := none, duration := 0,
    outcome := none, linesSent := 0, underruns := 0, overruns := 0, flushed := 0, indexSlips := 0, headLate := 0,
    lockLost := 0 }

/-- The line store at attempt start (R72). -/
def storeCleared : LineStore :=
  { entries := [], carry := false, lastWritten := false, accepted := 0, sent := 0, flushed := 0, overruns := 0,
    underruns := 0, skewReported := false }

/-- The sender at the start of an attempt on a port (R86); a waiting line-up request lapses (R97). -/
def senderStarted (p : PortId) (startTime : Nat) : Sender :=
  { state := .startTone, port := some p, acc := 0, cadenceOn := false, lastLevel := 0, linesSent := 0,
    stageTimer := some (startTime * 100000), lineupReq := none, held := none, closing := none }

/-- Starts the attempt of the record of a slot on a port (R144). -/
def startAttempt (slot : Nat) (p : PortId) (substituted : Bool) (s : State) : State :=
  let time := clockReading s
  let s := modRec slot
    (fun r =>
      { r with state := .sending, attempts := r.attempts ++ [newAttempt (r.attempts.length + 1) p substituted time] }) s
  let s := s.setPics { s.pics with elapsed := 0 }
  let s := enterCarrying p (s.setSender (senderStarted p (lineOf s p).startTime))
  let s := (s.setStore storeCleared).setDrum { s.drum with unlocked := 0 }
  s.setHead { s.head with state := .scanning, owed := 0 }

/-- ATTEMPT_START (R142, R144): the attempt starts when all of its conditions hold. -/
def attemptStart (s : State) : State :=
  if attemptReady s then
    match s.pics.onDrum, chosenPort s with
    | some slot, some (p, substituted) => startAttempt slot p substituted s
    | _, _ => s
  else s

/-- START_TONE_TIMER_EXPIRY (R87, R39). -/
def startToneExpiry (s : State) : State :=
  if s.sender.state = .startTone ∧ s.sender.stageTimer.isSome then
    let s := s.setSender { s.sender with state := .prefill, stageTimer := none }
    if s.scan.state = .idle then s.setScan { s.scan with state := .armed } else s
  else s

/-! ### The cadence (R68, R69, R74, R89, R90, R92) -/

/-- The stage after an entry (R90). -/
def stageAfter (st : SenderState) (kind : EntryKind) : SenderState :=
  match st, kind with
  | .prefill, .phasing => .phasing
  | .prefill, .picture => .picture
  | .phasing, .phasing => .phasing
  | .phasing, .picture => .picture
  | .picture, .phasing => .phasing
  | .picture, .picture => .picture
  | st, _ => st

/-- The sender sends an entry it has taken (R90). -/
def sendEntry (e : Entry) (x : Sender) : Sender :=
  { x with
    lastLevel := e.level
    state := stageAfter x.state e.kind
    linesSent := if e.kind = .picture ∧ e.first = true then satInc 4000 x.linesSent else x.linesSent }

/-- An underrun, and the skewed report at the one that passes the limit (R69, R74). -/
def underrun (s : State) : State :=
  let n := satInc 65535 s.store.underruns
  let s := s.setStore { s.store with underruns := n }
  if (carryingLine s).underrunLimit < n ∧ s.store.skewReported = false then
    modOnDrum (fun r => { r with skewed := true }) (s.setStore { s.store with skewReported := true })
  else s

/-- The sender takes from the line store (R68, R69, R90, R92). -/
def takeEntry (s : State) : State :=
  match s.store.entries with
  | e :: rest =>
    (s.setStore { s.store with entries := rest, sent := satInc 4294967295 s.store.sent }).setSender
      (sendEntry e s.sender)
  | [] =>
    if s.store.lastWritten then (if s.sender.state = .drain then attemptEnd .complete s else s) else underrun s

/-- CADENCE_EVENT (R89). -/
def cadenceEvent (s : State) : State :=
  if s.sender.cadenceOn then takeEntry (s.setSender { s.sender with acc := s.sender.acc - revTicks s }) else s

/-! ### The stop tone and the DONE (R95, R96, R118) -/

/-- The sender back in FREE after an attempt (R95, R96). -/
def senderFree (x : Sender) : Sender :=
  { x with state := .free, port := none, stageTimer := none, held := none, closing := none }

/-- The payload of a DONE (R118; 11, section 11.2). -/
def donePayload (s : State) (number : Nat) (a : Attempt) : List Byte :=
  le2 number ++ le1 a.number ++ le1 ((s.sender.held.map AttemptOutcome.code).getD 0) ++ le1 (portCode s.sender.port) ++
    le2 s.sender.linesSent ++ le2 s.store.underruns ++ le2 s.store.overruns ++ le2 a.indexSlips ++ le2 a.headLate ++
    le2 a.duration ++ le2 a.lockLost ++ le2 s.store.flushed ++ le1 (flag a.substituted)

/-- The DONE of the attempt being closed; it carries the tag 0 (R96). -/
def doneReport (s : State) : Report :=
  let payload := match s.sender.closing with
    | some (number, a) => donePayload s number a
    | none => []
  { kind := .done, tag := 0, payload := payload }

/-- STOP_TONE_TIMER_EXPIRY (R95, R96). A report of the other port that an order's execution held back starts here: with this
port REPORTING no order is eligible (R79, R108; log 35). -/
def stopToneExpiry (s : State) : State :=
  if s.sender.state = .stopTone ∧ s.sender.stageTimer.isSome then
    match s.sender.port with
    | none => s
    | some p =>
      if s.station.mute then
        let s := leaveCarrying p .idle s
        s.setSender (senderFree s.sender)
      else
        let report := doneReport s
        let s := leaveCarrying p .reporting s
        let s := s.setPort p { s.port p with list := (s.port p).list ++ [.report report] }
        startReports (s.setSender { s.sender with state := .doneOut, stageTimer := none })
  else s

/-! ### Line-up (R97, R98) -/

/-- LINEUP_START (R97, R98). -/
def lineupStart (s : State) : State :=
  if lineupReady s then
    match s.sender.lineupReq with
    | some p =>
      enterCarrying p
        (s.setSender
          { s.sender with
            state := .lineupWhite, port := some p, lineupReq := none,
            stageTimer := some ((lineOf s p).lineupTime * 100000) })
    | none => s
  else s

/-- LINEUP_WHITE_TIMER_EXPIRY (R98). -/
def lineupWhiteExpiry (s : State) : State :=
  if s.sender.state = .lineupWhite ∧ s.sender.stageTimer.isSome then
    s.setSender
      { s.sender with state := .lineupBlack, stageTimer := some ((carryingLine s).lineupTime * 100000) }
  else s

/-- The end of a line-up; a port that is still CARRYING becomes IDLE (R98). -/
def endLineup (s : State) : State :=
  let s : State := match s.sender.port with
    | some p => if (s.port p).activity = Activity.carrying then leaveCarrying p .idle s else s
    | none => s
  s.setSender { s.sender with state := .free, port := none, stageTimer := none }

/-- LINEUP_BLACK_TIMER_EXPIRY (R98). -/
def lineupBlackExpiry (s : State) : State :=
  if s.sender.state = .lineupBlack ∧ s.sender.stageTimer.isSome then endLineup s else s

/-! ### Loop current and break tone (R82, R83, R94, R95) -/

/-- LOOP_CURRENT_LOST (R82). -/
def loopCurrentLost (p : PortId) (s : State) : State :=
  let x := s.port p
  if x.loopCurrent then
    s.setPort p
      { x with
        loopCurrent := false
        loopTimer := if x.activity = Activity.carrying then some ((lineOf s p).lossTime * 1000) else x.loopTimer }
  else s

/-- LOOP_CURRENT_RETURN (R82). -/
def loopCurrentReturn (p : PortId) (s : State) : State :=
  s.setPort p { s.port p with loopCurrent := true, loopTimer := none }

/-- What the LOOP fault of its port does to the sender (R82, R94, R95, R98). -/
def senderLoopFault (s : State) : State :=
  if s.sender.state.sendingAttempt then attemptEnd .line s
  else if s.sender.state = .stopTone then s.setSender (senderFree s.sender)
  else if s.sender.state.inLineup then endLineup s
  else s

/-- LOOP_LOSS_TIMER_EXPIRY (R82): the LOOP fault. -/
def loopLossExpiry (p : PortId) (s : State) : State :=
  if (s.port p).activity = .carrying ∧ (s.port p).loopTimer.isSome then
    senderLoopFault (leaveCarrying p .idle (s.setPort p { s.port p with cause := .loop }))
  else s

/-- The break detector of a port acts (R83). -/
def breakWatched (p : PortId) (s : State) : Bool :=
  decide ((s.port p).activity = .carrying) && s.sender.state.sendingAttempt

/-- BREAK_TONE_PRESENT (R83): a timer that runs keeps its time. The command is the tone's onset, and the model holds no
tone level: an onset before the port carries an attempt starts nothing, and the attempt does not find it at its start.
DESIGN CHOICE (log 23). -/
def breakTonePresent (p : PortId) (s : State) : State :=
  if breakWatched p s = true ∧ (s.port p).breakTimer = none then
    s.setPort p { s.port p with breakTimer := some 200000 }
  else s

/-- BREAK_TONE_ABSENT (R83). -/
def breakToneAbsent (p : PortId) (s : State) : State := s.setPort p { s.port p with breakTimer := none }

/-- BREAK_TIMER_EXPIRY (R83): the break ends the attempt BROKEN. -/
def breakExpiry (p : PortId) (s : State) : State :=
  if breakWatched p s = true ∧ (s.port p).breakTimer.isSome then
    attemptEnd .broken (s.setPort p { s.port p with breakTimer := none })
  else s

end Sys2Proof.Machine
end

