-- ==== Sys2Proof/Machine/Ports.lean ====
section
/-! DEFINITION. The line ports' receivers and the sending of reports (05, section 5.2; 06, sections 6.1 and 6.4). -/

namespace Sys2Proof.Machine

/-! ### A receiver, byte by byte (R100 to R102) -/

/-- A good block as the order unit sees it (R103). -/
structure Block where
  dest : Nat
  src : Nat
  kind : Byte
  tag : Byte
  payload : List Byte
deriving DecidableEq, Repr

/-- What a byte, or a run of bytes, does to a reception. -/
inductive RxResult where
  | more (rx : Receiver)
  | failedSync
  | badBlock
  | good (b : Block)
deriving DecidableEq, Repr

/-- A byte in SYNCING (R100). -/
def rxSync (rx : Receiver) (b : Byte) : RxResult :=
  if rx.bytes = [] then (if b = 0xA7 then .more { rx with bytes := [b] } else .failedSync)
  else if b = 0x3C then .more { rx with state := .receiving, bytes := [], crc := 0xFFFF#16, gapRunning := true }
  else .failedSync

/-- The length of the body, destination to last payload byte, once the length byte is there (R101). -/
def bodyLength (bytes : List Byte) : Nat := 5 + byteAt bytes 4

/-- The block that a complete body spells. -/
def blockOf (bytes : List Byte) : Block :=
  { dest := byteAt bytes 0, src := byteAt bytes 1, kind := bytes.getD 2 0, tag := bytes.getD 3 0,
    payload := (bytes.drop 5).take (byteAt bytes 4) }

/-- A byte in RECEIVING: header, payload, low and high CRC byte (R101, R102). -/
def rxBody (rx : Receiver) (b : Byte) : RxResult :=
  let n := rx.bytes.length
  let bytes := rx.bytes ++ [b]
  if n < 5 ∨ n < bodyLength rx.bytes then
    if n = 4 ∧ 96 < b.toNat then .badBlock else .more { rx with bytes := bytes, crc := crcByte rx.crc b }
  else if n = bodyLength rx.bytes then .more { rx with bytes := bytes }
  else if wordAt bytes (bodyLength rx.bytes) = rx.crc.toNat then .good (blockOf bytes)
  else .badBlock

/-- A byte decoded in a reception. -/
def rxByte (rx : Receiver) (b : Byte) : RxResult :=
  match rx.state with
  | .hunting => .more rx
  | .syncing => rxSync rx b
  | .receiving => rxBody rx b

/-- A run of bytes; what follows the end of the reception is not part of it. -/
def rxFeed : Receiver → List Byte → RxResult
  | rx, [] => .more rx
  | rx, b :: rest =>
    match rxByte rx b with
    | .more rx' => rxFeed rx' rest
    | .failedSync => .failedSync
    | .badBlock => .badBlock
    | .good blk => .good blk

/-! ### The ends of a reception (R79, R100, R101) -/

/-- A reception ends: the receiver is HUNTING with the mark run at 0 and the turnaround timer starts (R100, R79). -/
def receptionEnded (x : Port) : Port := { x with rx := rxIdle, turn := .running turnaroundTicks }

/-- A reception ends in a block error (R101, R102). -/
def blockErrorEnded (x : Port) : Port := { receptionEnded x with blockErrors := satInc 65535 x.blockErrors }

/-- RECEPTION_START (R100): a start bit after a run of mark; a running turnaround timer is held (R79, log 10). A report
that is due starts and abandons the reception (R101; log 35). -/
def receptionStart (p : PortId) (marks : Nat) (s : State) : State :=
  let x := s.port p
  if x.decodes = true ∧ x.rx.state = .hunting then
    if marks < 16 then s.setPort p { x with rx := { x.rx with markRun := 0 } }
    else
      let turn := match x.turn with
        | .stopped => .stopped
        | .running _ => .held
        | .held => .held
      startReports (s.setPort p { x with rx := { rxIdle with state := .syncing, markRun := 16 }, turn := turn })
  else s

/-- SYNC_FAILED (R100): not counted. -/
def syncFailed (p : PortId) (s : State) : State :=
  if (s.port p).rx.state = .syncing then s.setPort p (receptionEnded (s.port p)) else s

/-- BLOCK_ERROR and a gap error (R101, R102): in RECEIVING a block error; in SYNCING a framing error or a gap over 20 bit
times is a failed sync, which is not counted (R100). -/
def blockError (p : PortId) (s : State) : State :=
  match (s.port p).rx.state with
  | .hunting => s
  | .syncing => s.setPort p (receptionEnded (s.port p))
  | .receiving => s.setPort p (blockErrorEnded (s.port p))

/-! ### Reports (R79 to R81) -/

/-- TURNAROUND_TIMER_EXPIRY (R79). -/
def turnaroundExpiry (p : PortId) (s : State) : State :=
  match (s.port p).turn with
  | .running _ => startReports (s.setPort p { s.port p with turn := .stopped })
  | .stopped => s
  | .held => s

/-- The echo counts and the fault cause at the end of a report (R81). -/
def echoCounted (good : Bool) (x : Port) : Port :=
  if good then { x with consecEcho := 0 }
  else
    let n := satInc 255 x.consecEcho
    { x with
      echoFailures := satInc 65535 x.echoFailures
      consecEcho := n
      cause := if n = 2 ∧ x.cause = FaultCause.none then .echo else x.cause }

/-- The port at the end of a report (R79, R81): the head leaves the list, the turnaround timer starts, the receiver is
HUNTING (R100). -/
def reportEnded (good : Bool) (x : Port) : Port :=
  let x := echoCounted good x
  let list := x.list.tail
  { x with
    list := list, turn := .running turnaroundTicks, rx := rxIdle,
    activity := if list = [] then Activity.idle else .answerDue }

/-- The end of a report on a port; the end of a DONE frees the sender (R79, R96). -/
def endReport (p : PortId) (good : Bool) (s : State) : State :=
  if (s.port p).activity = .reporting then
    let s := s.setPort p (reportEnded good (s.port p))
    if s.sender.state = .doneOut ∧ s.sender.port = some p then s.setSender (senderFree s.sender) else s
  else s

/-- The bytes of the report that a REPORTING port sends, the head of its list, from the first sync byte to the last CRC
byte (R79, R114). -/
def reportBytes (p : PortId) (s : State) : Option (List Byte) :=
  if (s.port p).activity = .reporting then
    (headReport (s.port p).list).map fun r =>
      blockBytes 63 (BitVec.ofNat 8 s.station.code.toNat) r.kind.code r.tag r.payload
  else none

/-- What a REPORTING port puts on its line, bit by bit: the preamble of exactly 16 mark bits, then the report's bytes, framed
and without gaps (R79, R114). No report is on the line of another port, one whose report a failed echo has cut short
among them (R80). -/
def reportOnLine (p : PortId) (s : State) : Option (List LineBit) := (reportBytes p s).map blockBits

/-- Some byte's echo fails: what was decoded is not the byte sent (R80). -/
def echoFails : List Byte → List Echo → Bool
  | b :: sent, e :: echoes => decide (e ≠ .byte b) || echoFails sent echoes
  | _, _ => false

/-- The bytes whose echo is checked, those of the report a port is sending: the preamble is not compared (R80). -/
def bytesSent (p : PortId) (s : State) : List Byte := (reportBytes p s).getD []

/-- ECHO_FAILURE (R80, R81): at the first byte whose echo fails the report ends as a failed one; echoes that are all right
have no effect (log 11). -/
def echoFailure (p : PortId) (echoes : List Echo) (s : State) : State :=
  if echoFails (bytesSent p s) echoes then endReport p false s else s

/-- REPORT_END (R79, R80): a report whose every byte echoed correctly is a good one; any other ends as a failed one, a byte
without an echo among them (log 11). -/
def reportEnd (p : PortId) (echoes : List Echo) (s : State) : State :=
  endReport p (decide (echoes = (bytesSent p s).map .byte)) s

end Sys2Proof.Machine
end

