-- ==== Sys2Proof/Machine/Tables.lean ====
section
/-! DEFINITION. The table store's LOAD (07; 11, section 11.3): content lengths, checks, clamps, placing by use, counts.
The contents are read at the offsets of 11, section 11.3, after the two bytes that name the table and the entry. -/

namespace Sys2Proof.Machine

/-- The content length a table kind calls for; TEMPLATE takes any (R109, R122; 11, section 11.3). -/
def contentLengthOk (k : TableKind) (n : Nat) : Bool :=
  match k with
  | .tone => decide (n = 17)
  | .standard => decide (n = 5)
  | .drum => decide (n = 20)
  | .scan => decide (n = 22)
  | .line => decide (n = 26)
  | .accept => decide (n = 33)
  | .roster => decide (n = 10)
  | .template => true
  | .strobe => decide (n = 35)

/-- How many entry indices a table kind allows (R122). -/
def entryCount : TableKind → Nat
  | .standard => 4
  | .line => 2
  | .roster => 32
  | .template => 12
  | .tone => 1
  | .drum => 1
  | .scan => 1
  | .accept => 1
  | .strobe => 1

/-- What a load carries once its content has passed its checks and been clamped. -/
inductive LoadContent where
  | tone (t : List Nat)
  | standard (k : Nat) (e : Standard)
  | drum (p : DrumProfile)
  | scan (p : ScanProfile)
  | line (p : PortId) (lp : LineProfile)
  | accept (t : List Accept)
  | roster (i : Nat) (e : RosterEntry)
  | template (i : Nat) (line : List Byte)
  | strobe (t : Strobe)
deriving DecidableEq, Repr

/-! ### TONE and STANDARD (R126, R127) -/

/-- A TONE content: never refused (R126). -/
def readTone (c : List Byte) : List Nat := c.map (·.toNat)

/-- A STANDARD content (R127). -/
def readStandard (c : List Byte) : Option Standard :=
  let e : Standard := { w := wordAt c 0, pitch := byteAt c 2, dff := wordAt c 3 }
  if 10000 ≤ e.w ∧ (e.pitch = 2 ∨ e.pitch = 4 ∨ e.pitch = 8) ∧ e.dff ≤ 4096 then some e else none

/-! ### DRUM (R128, R123) -/

/-- The drum profile a content spells, before its clamps. -/
def rawDrum (c : List Byte) : DrumProfile :=
  { indexTol := byteAt c 0, cycleExp := byteAt c 1, deadTime := byteAt c 2, dutyMin := wordAt c 3,
    dutyMax := wordAt c 5, rampStep := byteAt c 7, spinupLimit := byteAt c 8, brakeTime := byteAt c 9,
    lockCount := byteAt c 10, lockBand := wordAt c 11, unlockBand := wordAt c 13, kp := byteAt c 15,
    ki := byteAt c 16, g := byteAt c 17, tl := wordAt c 18 }

/-- The checks of a drum profile (R128). -/
def drumOk (p : DrumProfile) : Bool :=
  decide (p.indexTol ≤ 15) && decide (9 ≤ p.cycleExp) && decide (p.cycleExp ≤ 12) && decide (p.deadTime ≤ 63) &&
    decide (1 ≤ p.rampStep) && decide (10 ≤ p.spinupLimit) && decide (1 ≤ p.brakeTime) &&
    decide (1 ≤ p.lockCount) && decide (p.lockBand ≤ 8191) && decide (p.unlockBand ≤ 8191) && decide (p.tl ≤ 2047)

/-- The clamps of a drum profile: duty_max to the cycle length, then duty_min to duty_max (R123). -/
def clampDrum (p : DrumProfile) : DrumProfile :=
  let hi := min p.dutyMax (2 ^ p.cycleExp)
  { p with dutyMax := hi, dutyMin := min p.dutyMin hi }

/-! ### SCAN (R129) -/

/-- The scan profile a content spells. -/
def rawScan (c : List Byte) : ScanProfile :=
  { windowStart := wordAt c 0, windowEnd := wordAt c 2, whiteStart := wordAt c 4, whiteEnd := wordAt c 6,
    darkLevel := wordAt c 8, warmUp := byteAt c 10, stepsPerLine := byteAt c 11, stepInterval := wordAt c 12,
    fastStepInterval := wordAt c 14, startOffset := wordAt c 16, rewindMargin := wordAt c 18,
    travelLimit := wordAt c 20 }

/-- A window boundary or patch boundary is a multiple of 8 (R129). -/
def mult8 (n : Nat) : Bool := decide (n % 8 = 0)

/-- The checks of a scan profile (R129). -/
def scanOk (p : ScanProfile) : Bool :=
  mult8 p.windowStart && decide (p.windowStart ≤ 8184) && mult8 p.windowEnd &&
    decide (p.windowStart + 8 ≤ p.windowEnd) && decide (p.windowEnd ≤ 8192) && mult8 p.whiteStart &&
    mult8 p.whiteEnd && decide (p.whiteStart < p.whiteEnd) &&
    (decide (p.windowEnd ≤ p.whiteStart ∧ p.whiteEnd ≤ 8192) || decide (p.whiteEnd ≤ p.windowStart)) &&
    decide (p.darkLevel ≤ 1023) && decide (1 ≤ p.warmUp) && decide (1 ≤ p.stepsPerLine) &&
    decide (p.stepsPerLine ≤ 32) && decide (100 ≤ p.stepInterval) && decide (p.stepInterval ≤ 10000) &&
    decide (100 ≤ p.fastStepInterval) && decide (p.fastStepInterval ≤ 10000) && decide (1 ≤ p.travelLimit)

/-! ### LINE (R130, R123) -/

/-- The line profile a content spells with a polarity, before its clamps. -/
def rawLine (c : List Byte) (polarity : Polarity) : LineProfile :=
  { nPhase := byteAt c 0, phasingWidth := wordAt c 1, polarity := polarity, gapLevel := byteAt c 4,
    underrunLimit := wordAt c 5, carrierFreq := wordAt c 7, aWhite := wordAt c 9, aBlack := wordAt c 11,
    startFreq := wordAt c 13, startAmp := wordAt c 15, startTime := byteAt c 17, stopFreq := wordAt c 18,
    stopAmp := wordAt c 20, stopTime := byteAt c 22, lossTime := wordAt c 23, lineupTime := byteAt c 25 }

/-- The checks of a line profile (R130). -/
def lineOk (p : LineProfile) : Bool :=
  decide (1 ≤ p.nPhase) && decide (p.nPhase ≤ 60) && mult8 p.phasingWidth && decide (8 ≤ p.phasingWidth) &&
    decide (p.phasingWidth ≤ 8184) && decide (300 ≤ p.startFreq) && decide (p.startFreq ≤ 3000) &&
    decide (300 ≤ p.stopFreq) && decide (p.stopFreq ≤ 3000) && decide (1 ≤ p.startTime) &&
    decide (1 ≤ p.stopTime) && decide (1 ≤ p.lineupTime) && decide (p.lossTime ≤ 2550)

/-- The clamps of a line profile (R123). -/
def clampLine (p : LineProfile) : LineProfile :=
  { p with
    aWhite := min p.aWhite 1023
    aBlack := min p.aBlack 1023
    startAmp := min p.startAmp 1023
    stopAmp := min p.stopAmp 1023
    carrierFreq := clamp p.carrierFreq 1200 2400
    lossTime := max p.lossTime 10 }

/-! ### ACCEPT, ROSTER, TEMPLATE, STROBE (R131 to R134) -/

/-- The acceptance table a content spells, when each entry is TAKE, BUSY or REFUSE. -/
def readAccept (c : List Byte) : Option (List Accept) := c.mapM fun b => Accept.ofCode b.toNat

/-- The POLL and RESTART rows read TAKE (R131): rows 0 and 9 of three entries. -/
def acceptOk (t : List Accept) : Bool :=
  decide (t.take 3 = acceptTake) && decide ((t.drop 27).take 3 = acceptTake)

/-- Another entry of the live roster holds the code (R132). -/
def duplicateCode (s : State) (i code : Nat) : Bool :=
  (List.range 32).any fun j => decide (j ≠ i) && decide ((s.tables.roster.getD j rosterEmpty).code = code)

/-- A ROSTER content; code 0 empties the entry, whatever the rest holds (R132, log 34). -/
def readRoster (s : State) (i : Nat) (c : List Byte) : Option RosterEntry :=
  let code := byteAt c 0
  let name := (c.drop 1).take 8
  let req := byteAt c 9
  if code = 0 then some rosterEmpty
  else if code ≤ 62 ∧ name.all isText = true ∧ req ≤ 1 ∧ duplicateCode s i code = false then
    some { code := code, name := name, required := decide (req = 1) }
  else none

/-- A byte a template line may hold (R133). -/
def templateByte (b : Byte) : Bool := isText b || (decide (128 ≤ b.toNat) && decide (b.toNat ≤ 141))

/-- A TEMPLATE content (R133). -/
def templateOk (c : List Byte) : Bool := decide (c.length ≤ 32) && c.all templateByte

/-- The strobe table a content spells, before its clamps (11, section 11.3). -/
def rawStrobe (c : List Byte) : Strobe :=
  { bands := (List.range 8).map fun i => { threshold := wordAt c (4 * i), base := wordAt c (4 * i + 2) },
    loadStep := byteAt c 32, feedInterval := wordAt c 33 }

/-- Thresholds rise strictly (R134). -/
def rising : List Band → Bool
  | a :: b :: rest => decide (a.threshold < b.threshold) && rising (b :: rest)
  | _ => true

/-- The checks of a strobe table (R134). -/
def strobeOk (t : Strobe) : Bool :=
  rising t.bands && t.bands.all (fun b => decide (b.threshold ≤ 4095)) && decide (t.loadStep ≤ 15) &&
    decide (1000 ≤ t.feedInterval) && decide (t.feedInterval ≤ 5000)

/-- The clamps of a strobe table (R123). -/
def clampStrobe (t : Strobe) : Strobe :=
  { t with bands := t.bands.map fun b => { b with base := clamp b.base 100 4000 } }

/-! ### Judging and placing a load (R121 to R124) -/

/-- Steps 2 and 3 of R121: the content checked and clamped, and whether a clamp changed it; none is a content error. -/
def judgeContent (s : State) (k : TableKind) (i : Nat) (c : List Byte) : Option (LoadContent × Bool) :=
  match k with
  | .tone => some (.tone (readTone c), false)
  | .standard => (readStandard c).map fun e => (.standard i e, false)
  | .drum =>
    let p := rawDrum c
    if drumOk p then some (.drum (clampDrum p), decide (clampDrum p ≠ p)) else none
  | .scan => if scanOk (rawScan c) then some (.scan (rawScan c), false) else none
  | .line =>
    (Polarity.ofCode (byteAt c 3)).bind fun pol =>
      let p := rawLine c pol
      if lineOk p then some (.line (if i = 0 then .a else .b) (clampLine p), decide (clampLine p ≠ p)) else none
  | .accept => (readAccept c).bind fun t => if acceptOk t then some (.accept t, false) else none
  | .roster => (readRoster s i c).map fun e => (.roster i e, false)
  | .template => if templateOk c then some (.template i c, false) else none
  | .strobe =>
    let t := rawStrobe c
    if strobeOk t then some (.strobe (clampStrobe t), decide (clampStrobe t ≠ t)) else none

/-- Step 4 of R121: the pending copy while the table, or the entry, is in use; else the live one. -/
def placeLoad (c : LoadContent) (s : State) : State :=
  match c with
  | .tone t =>
    if toneInUse s then s.setTables { s.tables with tonePending := some t }
    else s.setTables { s.tables with tone := t }
  | .standard k e =>
    if standardInUse s k then s.setTables { s.tables with standardPending := some (k, e) }
    else s.setTables { s.tables with standards := s.tables.standards.set k e }
  | .drum p =>
    if drumInUse s then s.setTables { s.tables with drumPending := some p } else takeDrumProfile p s
  | .scan p =>
    if scanInUse s then s.setTables { s.tables with scanPending := some p }
    else s.setTables { s.tables with scan := p }
  | .line p lp =>
    if lineInUse s p then s.setTables { s.tables with linePending := some (p, lp) } else takeLineProfile p lp s
  | .accept t => s.setTables { s.tables with accept := t }
  | .roster i e => s.setTables { s.tables with roster := s.tables.roster.set i e }
  | .template i l => s.setTables { s.tables with template := s.tables.template.set i l }
  | .strobe t => s.setTables { s.tables with strobe := t }

/-- Step 5 of R121: the load count of the kind, modulo 256. -/
def countLoad (k : TableKind) (s : State) : State :=
  s.setTables { s.tables with counts := s.tables.counts.modify k.index fun n => (n + 1) % 256 }

/-- The table store's verdict on a load. -/
inductive LoadVerdict where
  | accepted (clamped : Bool)
  | badIndex
  | badData
deriving DecidableEq, Repr

/-- A LOAD of a known table kind at the table store (R121). -/
def loadTable (k : TableKind) (i : Nat) (c : List Byte) (s : State) : State × LoadVerdict :=
  if entryCount k ≤ i then (s, .badIndex)
  else
    match judgeContent s k i c with
    | none => (s, .badData)
    | some (content, clamped) => (countLoad k (placeLoad content s), .accepted clamped)

end Sys2Proof.Machine
end

