-- ==== Sys2Proof/Machine/Orders.lean ====
section
/-! DEFINITION. The order unit and the owners of its orders (06, sections 6.1 to 6.4; 08, sections 8.3, 8.5, 8.6;
10, sections 10.2 and 10.5): admission at the take, execution of the head order, and each order's effect and verdict. -/

namespace Sys2Proof.Machine

/-- The owner's verdict on an order (R109). -/
inductive Verdict where
  | ack (clamped truncated : Bool)
  | status (payload : List Byte)
  | refuse (r : Reason)
deriving DecidableEq, Repr

/-- A plain acceptance. -/
def accepted : Verdict := .ack false false

/-! ### POLL (R117) -/

/-- A port's part of STATUS; its own arrival port reads ANSWER_DUE in place of IDLE (R117). -/
def statusPort (own : Bool) (x : Port) : List Byte :=
  let x := if own = true ∧ x.activity = .idle then { x with activity := .answerDue } else x
  le1 x.stateCode ++ le1 x.cause.code ++ le2 x.blockErrors ++ le2 x.echoFailures

/-- A slot's summary in STATUS (R117). -/
def statusSlot (r : PicRecord) : List Byte := le1 r.state.code ++ le2 (r.number.getD 0) ++ le1 r.slip.code

/-- The pending set, bit k − 1 for table kind k (R117; 11). -/
def pendingSet (t : Tables) : Nat :=
  flag t.tonePending.isSome + 2 * flag t.standardPending.isSome + 4 * flag t.drumPending.isSome +
    8 * flag t.scanPending.isSome + 16 * flag t.linePending.isSome + 32 * flag t.acceptPending.isSome +
    64 * flag t.rosterPending.isSome + 128 * flag t.templatePending.isSome + 256 * flag t.strobePending.isSome

/-- The owed count (09, R169). -/
def owedCount (u : SlipUnit) : Nat := u.owed.countP fun o => !o.isEmpty

/-- The payload of STATUS, formed for a POLL that arrived on a port (R117; 11, section 11.2). -/
def statusPayload (p : PortId) (s : State) : List Byte :=
  [0x46, 1] ++ le1 s.station.code.toNat ++ le1 (condition s).code ++ le1 s.drum.state.code ++
    le1 s.drum.lastFault.code ++ le1 s.head.state.code ++ le1 s.lamp.state.code ++ le1 s.sender.state.code ++
    le1 (portCode s.sender.port) ++ statusPort (decide (p = .a)) s.portA ++ statusPort (decide (p = .b)) s.portB ++
    le1 s.orders.length ++ le1 (flag (readyFlag s)) ++ s.pics.records.flatMap statusSlot ++
    le1 s.slips.queue.length ++ le1 s.slips.printer.code ++ le1 (owedCount s.slips) ++
    s.tables.counts.flatMap le1 ++ le2 (pendingSet s.tables) ++ le1 (flag s.clock.isSet)

/-- POLL changes nothing and answers STATUS (R110, R117). -/
def ownPoll (o : Order) (s : State) : State × Verdict := (s, .status (statusPayload o.port s))

/-! ### GRANT (R140, R141) -/

/-- Another record that is not EMPTY carries the number (R140, step 6). -/
def numberElsewhere (s : State) (slot n : Nat) : Bool :=
  (List.range s.pics.records.length).any fun j =>
    decide (j ≠ slot) &&
      match s.rec? j with
      | some r => decide (r.state ≠ .empty) && decide (r.number = some n)
      | none => false

/-- A grant applied to a LOADED record (R141). -/
def grantLoaded (number : Nat) (g : Grant) (r : PicRecord) : PicRecord :=
  { r with
    state := .granted, number := some number, grant := some g, attempts := [], receipts := [], dropped := 0,
    skewed := false }

/-- A regrant of a GRANTED record (R141). -/
def regrant (g : Grant) (r : PicRecord) : PicRecord := { r with grant := some g }

/-- Steps 6 to 10 of R140 on the on-drum record, LOADED or GRANTED with this number. -/
def judgeGrant (slot : Nat) (r : PicRecord) (number : Nat) (g : Grant) (s : State) : State × Verdict :=
  if numberElsewhere s slot number then (s, .refuse .numberInUse)
  else if (s.port g.port).inFault then (s, .refuse .portFault)
  else if tooLong s r.lines then (s, .refuse .pictureTooLong)
  else if r.state = .granted then
    if g.allowed ≤ r.attempts.length then (s, .refuse .noAttemptsLeft) else (modRec slot (regrant g) s, accepted)
  else (modRec slot (grantLoaded number g) s, accepted)

/-- Steps 3 to 5 of R140. -/
def grantOnDrum (number : Nat) (g : Grant) (s : State) : State × Verdict :=
  match s.pics.onDrum, onDrumRec s with
  | some slot, some r =>
    match r.state with
    | .empty => (s, .refuse .noPicture)
    | .finished => (s, .refuse .noPicture)
    | .sending => (s, .refuse .wrongState)
    | .awaiting => (s, .refuse .wrongState)
    | .granted =>
      if r.number ≠ some number then (s, .refuse .wrongState)
      else if r.grant = some g then (s, accepted)
      else judgeGrant slot r number g s
    | .loaded => judgeGrant slot r number g s
  | _, _ => (s, .refuse .noPicture)

/-- GRANT (R140). -/
def ownGrant (o : Order) (s : State) : State × Verdict :=
  if s.drum.state = .cutoff then (s, .refuse .drumCutoff)
  else
    match (grantFields o.payload).grant with
    | none => (s, .refuse .badTableData)
    | some g => grantOnDrum (grantFields o.payload).number g s

/-! ### CANCEL (R153) -/

/-- CANCEL (R153). -/
def ownCancel (o : Order) (s : State) : State × Verdict :=
  match slotOfNumber s (wordAt o.payload 0) with
  | none => (s, .refuse .unknownPicture)
  | some slot =>
    match ((s.rec? slot).getD recEmpty).state with
    | .sending => (attemptEnd .cancelled s, accepted)
    | .granted => (finishRecord slot .cancelled .none s, accepted)
    | .awaiting => (finishRecord slot .cancelled .none s, accepted)
    | .finished => (s, .refuse .wrongState)
    | .loaded => (s, .refuse .wrongState)
    | .empty => (s, .refuse .wrongState)

/-! ### RECEIPT (R149 to R152) -/

/-- What a merge has come to: the record, whether it changed, whether an item was not kept. -/
structure Merge where
  record : PicRecord
  changed : Bool
  truncated : Bool
deriving DecidableEq, Repr

/-- An item that is not kept (R149): it changes the record when it raises the count, which stops at its largest value. -/
def dropItem (m : Merge) : Merge :=
  let n := satInc 65535 m.record.dropped
  { record := { m.record with dropped := n }, changed := m.changed || decide (n ≠ m.record.dropped), truncated := true }

/-- One valid item merged into a receipt list (R149). -/
def mergeValid (code : Nat) (out : ReceiptOutcome) (m : Merge) : Merge :=
  let list := m.record.receipts
  match list.find? fun i => decide (i.code = code) with
  | some old =>
    if old.outcome = out then m
    else
      let put := fun (i : ReceiptItem) => if i.code = code then { i with outcome := out } else i
      { m with record := { m.record with receipts := list.map put }, changed := true }
  | none =>
    if list.length < 32 then
      { m with record := { m.record with receipts := list ++ [⟨code, out⟩] }, changed := true }
    else dropItem m

/-- One item of a RECEIPT (R149). -/
def mergeItem (m : Merge) (item : Nat × Nat) : Merge :=
  if item.1 = 0 ∨ 62 < item.1 then dropItem m
  else
    match ReceiptOutcome.ofCode item.2 with
    | none => dropItem m
    | some out => mergeValid item.1 out m

/-- All items of a RECEIPT, in the order the block carries them (R149). -/
def mergeAll (items : List (Nat × Nat)) (r : PicRecord) : Merge :=
  items.foldl mergeItem { record := r, changed := false, truncated := false }

/-- The codes of the required receivers (R151). -/
def requiredCodes (s : State) : List Nat :=
  (s.tables.roster.filter fun e => decide (e.code ≠ 0) && e.required).map (·.code)

/-- The outcome a receipt list holds for a code. -/
def outcomeFor (r : PicRecord) (code : Nat) : Option ReceiptOutcome :=
  (r.receipts.find? fun i => decide (i.code = code)).map (·.outcome)

/-- Resolution of an AWAITING record (R151). -/
def resolve (slot : Nat) (s : State) : State :=
  let r := (s.rec? slot).getD recEmpty
  let required := requiredCodes s
  if (required.any fun c => decide (outcomeFor r c = some .resend)) = true ∧
      r.attempts.length < (r.grant.map (·.allowed)).getD 0 then
    grantAgain slot s
  else if (required.all fun c => decide (outcomeFor r c = some .good ∨ outcomeFor r c = some .poor)) = true then
    finishRecord slot .delivered .none s
  else finishRecord slot .partly .none s

/-- RECEIPT (R150). -/
def ownReceipt (o : Order) (s : State) : State × Verdict :=
  match slotOfNumber s (wordAt o.payload 0) with
  | none => (s, .refuse .unknownPicture)
  | some slot =>
    let r := (s.rec? slot).getD recEmpty
    let m := mergeAll (receiptPairs o.payload) r
    let merged := modRec slot (fun _ => m.record) s
    match r.state with
    | .sending => (s, .refuse .wrongState)
    | .granted => (merged, .ack false m.truncated)
    | .awaiting => (if moreFollows o.payload then merged else resolve slot merged, .ack false m.truncated)
    | .finished => (if m.changed then (requestSlip slot .late merged).1 else merged, .ack false m.truncated)
    | .loaded => (s, .refuse .wrongState)
    | .empty => (s, .refuse .wrongState)

/-! ### LOAD, CLOCK, LINEUP, LINE CLEAR, MECH CLEAR, SLIP (R97, R84, R110, R121, R158, R175) -/

/-- LOAD (R121). -/
def ownLoad (o : Order) (s : State) : State × Verdict :=
  match TableKind.ofCode (byteAt o.payload 0) with
  | none => (s, .refuse .badTableData)
  | some k =>
    match loadTable k (byteAt o.payload 1) (o.payload.drop 2) s with
    | (t, .accepted clamped) => (t, .ack clamped false)
    | (_, .badIndex) => (s, .refuse .badIndex)
    | (_, .badData) => (s, .refuse .badTableData)

/-- A date and time of the station clock (R175). -/
def readingOk (r : Reading) : Bool :=
  decide (1 ≤ r.month) && decide (r.month ≤ 12) && decide (1 ≤ r.day) && decide (r.day ≤ daysInMonth r.month r.year) &&
    decide (r.year ≤ 99) && decide (r.hour ≤ 23) && decide (r.minute ≤ 59) && decide (r.second ≤ 59)

/-- The clock set to a reading (R175). -/
def clockAt (r : Reading) : Clock :=
  { day := r.day, month := r.month, year := r.year, hour := r.hour, minute := r.minute, second := r.second, sub := 0,
    isSet := true }

/-- CLOCK (R175). -/
def ownClock (o : Order) (s : State) : State × Verdict :=
  if readingOk (clockFields o.payload) then (s.setClock (clockAt (clockFields o.payload)), accepted)
  else (s, .refuse .badTableData)

/-- LINEUP (R97). -/
def ownLineup (o : Order) (s : State) : State × Verdict :=
  let p := portOfByte (o.payload.getD 0 0)
  if s.sender.state ≠ .free ∨ s.sender.lineupReq ≠ none then (s, .refuse .wrongState)
  else if (s.port p).inFault then (s, .refuse .portFault)
  else (s.setSender { s.sender with lineupReq := some p }, accepted)

/-- A port after LINE CLEAR (R84). -/
def portCleared (x : Port) : Port := { x with cause := .none, consecEcho := 0 }

/-- LINE CLEAR of one port, when it is named (R84). -/
def clearPort (named : Bool) (p : PortId) (s : State) : State :=
  if named then s.setPort p (portCleared (s.port p)) else s

/-- LINE CLEAR (R84, R110). -/
def ownLineClear (o : Order) (s : State) : State × Verdict :=
  if clearNames o.payload .a = false ∧ clearNames o.payload .b = false then (s, .refuse .badIndex)
  else (clearPort (clearNames o.payload .b) .b (clearPort (clearNames o.payload .a) .a s), accepted)

/-- MECH CLEAR (R17, R58, R110). -/
def ownMechClear (_ : Order) (s : State) : State × Verdict :=
  match mechClear s with
  | some t => (t, accepted)
  | none => (s, .refuse .coverOpen)

/-- SLIP (R111, R158). -/
def ownSlip (o : Order) (s : State) : State × Verdict :=
  match slotOfNumber s (wordAt o.payload 0) with
  | none => (s, .refuse .unknownPicture)
  | some slot =>
    if ((s.rec? slot).getD recEmpty).state = .finished then
      match requestSlip slot .reprint s with
      | (_, .refused) => (s, .refuse .queueFull)
      | (t, .merged) => (t, accepted)
      | (t, .queued) => (t, accepted)
      | (t, .owed) => (t, accepted)
    else (s, .refuse .wrongState)

/-! ### RESTART (R85, R112, R178) -/

/-- What a RESTART leaves on a report list: the report being sent, and the RESTART's own reservation (R85). -/
def restartList (keep : Bool) (x : Port) : List RepItem :=
  (if x.activity = .reporting then x.list.take 1 else []) ++ (if keep then [.reservation] else [])

/-- A port at a RESTART; `keep` says that the RESTART's own reservation stands on its list (R85). -/
def portRestarted (keep : Bool) (x : Port) : Port :=
  match x.activity with
  | .carrying => { x with blockErrors := 0, echoFailures := 0, consecEcho := 0 }
  | .reporting =>
    { x with
      cause := .none, blockErrors := 0, echoFailures := 0, consecEcho := 0, loopTimer := none, breakTimer := none,
      list := restartList keep x }
  | .idle =>
    { x with
      cause := .none, blockErrors := 0, echoFailures := 0, consecEcho := 0, loopTimer := none, breakTimer := none,
      list := restartList keep x, activity := if keep then .answerDue else .idle }
  | .answerDue =>
    { x with
      cause := .none, blockErrors := 0, echoFailures := 0, consecEcho := 0, loopTimer := none, breakTimer := none,
      list := restartList keep x, activity := if keep then .answerDue else .idle }

/-- A line-up ends at a RESTART, and a waiting request is cleared (R97, R98). -/
def restartLineup (s : State) : State :=
  let s := if s.sender.state.inLineup then endLineup s else s
  s.setSender { s.sender with lineupReq := none }

/-- RESTART's effect on every block, the order queue first (R112, R178); `own` is the port whose list holds the
RESTART's own reservation. -/
def restartAll (own : Option PortId) (s : State) : State :=
  let s := restartLineup (attemptEnd .restarted (s.setOrders []))
  let s := s.setPort .a (portRestarted (decide (own = some .a)) (s.port .a))
  let s := s.setPort .b (portRestarted (decide (own = some .b)) (s.port .b))
  s.setDrum { s.drum with spinLatch := false }

/-- RESTART from the queue (R112). -/
def ownRestart (o : Order) (s : State) : State × Verdict :=
  (restartAll (if o.reserved then some o.port else none) s, accepted)

/-! ### Execution (R108, R109) -/

/-- The length check (R109; 11, section 11.1). -/
def lengthOk (k : OrderKind) (p : List Byte) : Bool :=
  match k with
  | .poll => decide (p.length = 0)
  | .grant => decide (p.length = 7)
  | .cancel => decide (p.length = 2)
  | .receipt => receiptLengthOk p
  | .load =>
    match TableKind.ofCode (byteAt p 0) with
    | some t => decide (2 ≤ p.length) && contentLengthOk t (p.length - 2)
    | none => false
  | .clock => decide (p.length = 6)
  | .lineup => decide (p.length = 1)
  | .lineClear => decide (p.length = 1)
  | .mechClear => decide (p.length = 0)
  | .restart => decide (p.length = 0)
  | .slip => decide (p.length = 2)

/-- The answer formed from a verdict (R109). -/
def answerOf (k : OrderKind) (tag : Byte) : Verdict → Report
  | .ack clamped truncated => ackReport tag k.code clamped truncated
  | .status payload => statusReport tag payload
  | .refuse r => refuseReport tag k.code r

/-- Puts an order's answer in place of its reservation (R109). A broadcast's answer, and that of an order whose
reservation is not on the list, is discarded. -/
def placeAnswer (o : Order) (r : Report) (s : State) : State :=
  if o.broadcast = false ∧ o.reserved = true then
    let x := s.port o.port
    s.setPort o.port { x with list := replaceReservation r x.list }
  else s

/-- Executes an order that has left the queue: length check, owner, answer, placing (R109). -/
def executeOrder (owner : Order → State → State × Verdict) (o : Order) (s : State) : State :=
  if lengthOk o.kind o.payload then
    startReports (placeAnswer o (answerOf o.kind o.tag (owner o s).2) (owner o s).1)
  else startReports (placeAnswer o (refuseReport o.tag o.kind.code .badTableData) s)

/-- The head order, when it is of the given kind and eligible, is executed and leaves the queue (R108; log 6). -/
def executeHead (k : OrderKind) (owner : Order → State → State × Verdict) (s : State) : State :=
  match s.orders with
  | o :: rest => if eligible s = true ∧ o.kind = k then executeOrder owner o (s.setOrders rest) else s
  | [] => s

/-! ### Admission at the take (R103 to R107) -/

/-- A report formed at once joins the list of the arrival port, and may start when nothing holds it (R78, R79). -/
def answerAtOnce (p : PortId) (r : Report) (s : State) : State := reportStart p (addItem p (.report r) s)

/-- The acceptance entry of a kind under the station condition; POLL and RESTART are always taken (R104 to R106). -/
def acceptEntry (s : State) (k : OrderKind) : Accept :=
  match k with
  | .poll => .take
  | .restart => .take
  | k => s.tables.accept.getD (3 * (k.code.toNat - 1) + (condition s).code) .take

/-- A taken order joins the queue (R107). -/
def joinQueue (o : Order) (s : State) : State :=
  let room := decide ((s.port o.port).list.length < 8)
  let s := s.setOrders (s.orders ++ [{ o with reserved := !o.broadcast && room }])
  if o.broadcast then s else addItem o.port .reservation s

/-- A taken order at a full queue (R107, R112). -/
def takeAtFull (o : Order) (s : State) : State :=
  match o.kind with
  | .poll =>
    if lengthOk .poll o.payload then
      answerAtOnce o.port (statusReport o.tag (statusPayload o.port s)) s
    else answerAtOnce o.port (refuseReport o.tag o.kind.code .badTableData) s
  | .restart =>
    if lengthOk .restart o.payload then
      let s := restartAll none s
      if o.broadcast then s else answerAtOnce o.port (ackReport o.tag o.kind.code false false) s
    else if o.broadcast then s
    else answerAtOnce o.port (refuseReport o.tag o.kind.code .badTableData) s
  | k => if o.broadcast then s else answerAtOnce o.port (busyReport o.tag k.code .queueFull) s

/-- Admission of an order of kind TAKE (R107). -/
def admission (o : Order) (s : State) : State := if s.orders.length < 4 then joinQueue o s else takeAtFull o s

/-- The order a block spells for its arrival port. -/
def orderOf (p : PortId) (k : OrderKind) (b : Block) : Order :=
  { port := p, broadcast := decide (b.dest = 0), kind := k, tag := b.tag, payload := b.payload, reserved := false }

/-- The kinds a broadcast may have (R105). -/
def broadcastKind : OrderKind → Bool
  | .load => true
  | .clock => true
  | .restart => true
  | .poll => false
  | .grant => false
  | .cancel => false
  | .receipt => false
  | .lineup => false
  | .lineClear => false
  | .mechClear => false
  | .slip => false

/-- A broadcast block (R105). -/
def takeBroadcast (p : PortId) (b : Block) (s : State) : State :=
  match OrderKind.ofCode b.kind with
  | none => s
  | some k => if broadcastKind k = true ∧ acceptEntry s k = .take then admission (orderOf p k b) s else s

/-- An addressed block (R106). -/
def takeAddressed (p : PortId) (b : Block) (s : State) : State :=
  match OrderKind.ofCode b.kind with
  | none => answerAtOnce p (refuseReport b.tag b.kind .unknownKind) s
  | some k =>
    match acceptEntry s k with
    | .take => admission (orderOf p k b) s
    | .busy => answerAtOnce p (busyReport b.tag b.kind .stationBusy) s
    | .refuse => answerAtOnce p (refuseReport b.tag b.kind .notAccepted) s

/-- The address check of a good block (R103). -/
def takeGood (p : PortId) (b : Block) (s : State) : State :=
  if b.src ≠ 63 then s
  else if b.dest = 0 then takeBroadcast p b s
  else if s.station.mute = false ∧ b.dest = s.station.code.toNat then takeAddressed p b s
  else s

/-- BLOCK_TAKE (R100 to R103): the bytes decoded go through the receiver; a block that proves good is taken. -/
def blockTake (p : PortId) (bytes : List Byte) (s : State) : State :=
  let x := s.port p
  if x.decodes = true ∧ x.inReception = true then
    match rxFeed x.rx bytes with
    | .more rx => s.setPort p { x with rx := rx }
    | .failedSync => s.setPort p (receptionEnded x)
    | .badBlock => s.setPort p (blockErrorEnded x)
    | .good b => takeGood p b (s.setPort p (receptionEnded x))
  else s

end Sys2Proof.Machine
end

