-- ==== Sys2Proof/Machine/Settle.lean ====
section
/-! DEFINITION. What the blocks evaluate at the end of an event, each only when what it watches changed in the event
(log 29): lapsed line-up requests, the port choice, the drum drive, the head, the lamp, the attempt start, the line-up
start. -/

namespace Sys2Proof.Machine

/-- A waiting line-up request lapses when its port enters FAULT (R97). -/
def lapseEval (s0 s : State) : State :=
  match s.sender.lineupReq with
  | some p =>
    if (s.port p).inFault = true ∧ (s0.port p).inFault = false then s.setSender { s.sender with lineupReq := none }
    else s
  | none => s

/-- The choice finds both ports in FAULT with the record GRANTED and on drum (R143). -/
def noPortLeft (s : State) : Bool := bothFault s && decide (onDrumState s = .granted)

/-- The event that brings both ports into FAULT, or the record into GRANTED with both in FAULT, finishes it with LINES (R143). -/
def portFailEval (s0 s : State) : State :=
  match s.pics.onDrum with
  | some slot => if noPortLeft s = true ∧ noPortLeft s0 = false then finishRecord slot .failed .lines s else s
  | none => s

/-- The attempt starts within the event that makes its condition hold (R142). -/
def attemptEval (s0 s : State) : State :=
  if attemptReady s = true ∧ attemptReady s0 = false then attemptStart s else s

/-- The line-up starts at the first moment its condition holds (R97), after an attempt start that comes of the same event
(R142 allows either first; DESIGN CHOICE, log 5). -/
def lineupEval (s0 s : State) : State :=
  if lineupReady s = true ∧ lineupReady s0 = false then lineupStart s else s

/-- The evaluations of an event that led from `s0` to `s` (R7, R13, R46, R51, R97, R142, R143; log 29). -/
def settle (s0 s : State) : State :=
  let s := portFailEval s0 (lapseEval s0 s)
  let s := drumEval s0 (standardEval s0 s)
  let s := lampEval s0 (headEval s0 s)
  lineupEval s0 (attemptEval s0 s)

end Sys2Proof.Machine
end

