-- ==== Sys2Proof/Machine/Panel.lean ====
section
/-! DEFINITION. The operator panel (10, section 10.1; 08, section 8.2): what a STATE record shows, the transmitter, the
receiver, and the records taken. -/

namespace Sys2Proof.Machine

/-! ### What a STATE record shows (R173) -/

/-- The STATE lamps, from bit 0: READY, GRANTED, SENDING, PORT A FAULT, PORT B FAULT, CUTOFF, PAPER OUT, ADDRESS FAULT,
CLOCK UNSET (R173; 11, section 11.5). -/
def lamps (s : State) : BitVec 16 :=
  BitVec.ofNat 16
    (flag (readyFlag s) + 2 * flag (decide (onDrumState s = .granted ∨ onDrumState s = .awaiting)) +
      4 * flag (decide (onDrumState s = .sending)) + 8 * flag s.portA.inFault + 16 * flag s.portB.inFault +
      32 * flag (decide (s.drum.state = .cutoff)) + 64 * flag (decide (s.slips.printer = .paperOut)) +
      128 * flag s.station.mute + 256 * flag (!s.clock.isSet))

/-- The word of a drum fault on the display (R173). -/
def faultWord : DrumFault → List Byte
  | .none => []
  | .stall => ascii ['S', 'T', 'A', 'L', 'L']
  | .reverse => ascii ['R', 'E', 'V', 'E', 'R', 'S', 'E']
  | .encoder => ascii ['E', 'N', 'C', 'O', 'D', 'E', 'R']
  | .overspeed => ascii ['O', 'V', 'E', 'R', 'S', 'P', 'E', 'E', 'D']
  | .cover => ascii ['C', 'O', 'V', 'E', 'R']

/-- The 16 characters of the display (R173). -/
def display (s : State) : List Byte :=
  if s.drum.state = .cutoff then
    padTo 16 (ascii ['C', 'U', 'T', 'O', 'F', 'F', ' '] ++ faultWord s.drum.lastFault)
  else if s.head.state = .fault then
    ascii ['N', 'E', 'E', 'D', 'S', ' ', 'R', 'E', 'S', 'E', 'T', ' ', 'M', 'E', 'C', 'H']
  else padTo 16 (((onDrumRec s).bind (·.mount)).map (·.slug) |>.getD [])

/-- Lines sent as shown (R173). -/
def linesShown (s : State) : Nat :=
  if onDrumState s = .sending then s.sender.linesSent
  else (((onDrumRec s).bind (·.attempts.getLast?)).map (·.linesSent)).getD 0

/-- A STATE record formed from the state as it stands (R172, R173). -/
def stateRecord (s : State) : PanelOut := .state (lamps s) (display s) (linesShown s) (onDrumLines s)

/-! ### The transmitter (R172) -/

/-- A FREE transmitter sends the pending notice, else a STATE when the mark is set (R172). -/
def panelTransmit (s : State) : State :=
  match s.panel.tx with
  | some _ => s
  | none =>
    match s.panel.notice with
    | some (k, n) => s.setPanel { s.panel with tx := some (.notice k n), notice := none }
    | none =>
      if s.panel.changed then s.setPanel { s.panel with tx := some (stateRecord s), changed := false } else s

/-- A change of any item shown since `old` sets the state-changed mark (R172). -/
def markChanged (old : PanelOut) (s : State) : State :=
  if stateRecord s = old then s else s.setPanel { s.panel with changed := true }

/-- An event that may change what the panel shows: the mark is set by a change, and a FREE transmitter sends what is
due before and after it (R172; log 22). -/
def shown (f : State → State) (s : State) : State :=
  let s := panelTransmit s
  panelTransmit (markChanged (stateRecord s) (f s))

/-- An event that the other blocks evaluate at its end (log 29), and that may change what the panel shows. -/
def event (f : State → State) (s : State) : State := shown (fun s => settle s (f s)) s

/-- The bytes of a record on the panel link (R170; 11, section 11.5). -/
def panelBytes : PanelOut → List Byte
  | .state l d sent lines =>
    let content := le2 l.toNat ++ d ++ le2 sent ++ le2 lines
    [0x02, 0x21, BitVec.ofNat 8 content.length] ++ content ++ [0x03]
  | .notice k n => [0x02, 0x22, 2, k.code, BitVec.ofNat 8 n.code, 0x03]

/-- PANEL_RECORD_SENT (R172): the transmitter is free and sends what is due. -/
def panelRecordSent (s : State) : State := panelTransmit (s.setPanel { s.panel with tx := none })

/-- A refusal places its notice, replacing one still pending (R172). -/
def giveNotice (k : PanelKind) (n : Notice) (s : State) : State :=
  s.setPanel { s.panel with notice := some (k, n) }

/-! ### Mounting a photograph (R137 to R139) -/

/-- The slot a new record takes: the lowest EMPTY one, else the PRINTED one earliest in the finish order that is not on
drum (R139). -/
def slotForNew (s : State) : Option Nat :=
  match s.pics.records.findIdx? fun r => decide (r.state = .empty) with
  | some i => some i
  | none =>
    s.pics.finishOrder.find? fun i =>
      decide (((s.rec? i).getD recEmpty).slip = .printed) && decide (s.pics.onDrum ≠ some i)

/-- The serial after one that was assigned (R137). -/
def serialAfter (n : Nat) : Nat := if n = 65535 then 1 else n + 1

/-- A created record (R139). -/
def newRecord (serial : Nat) (slug : List Byte) (lines : Nat) : PicRecord :=
  { recEmpty with state := .loaded, mount := some ⟨serial, slug, lines⟩ }

/-- The LOAD creates a record in a slot: it leaves the finish order and is on drum (R139). -/
def createRecord (slot : Nat) (slug : List Byte) (lines : Nat) (s : State) : State :=
  s.setPics
    { s.pics with
      records := s.pics.records.set slot (newRecord s.pics.nextSerial slug lines)
      onDrum := some slot
      nextSerial := serialAfter s.pics.nextSerial
      finishOrder := s.pics.finishOrder.filter fun i => decide (i ≠ slot) }

/-- The LOAD edits the LOADED record on drum (R139). -/
def editRecord (slug : List Byte) (lines : Nat) (s : State) : State :=
  modOnDrum (fun r => { r with mount := r.mount.map fun m => { m with slug := slug, lines := lines } }) s

/-- A slug and a line count within their ranges (R138). -/
def mountOk (lines : Nat) (slug : List Byte) : Bool :=
  decide (1 ≤ slug.length) && decide (slug.length ≤ 16) && slug.all isText && decide (1 ≤ lines) &&
    decide (lines ≤ 4000)

/-- A panel LOAD at the picture table (R138, R139). -/
def loadPhotograph (lines : Nat) (slug : List Byte) (s : State) : State :=
  if mountOk lines slug = false then giveNotice .load .badValue s
  else if s.drum.state ≠ .stopped then giveNotice .load .drumTurning s
  else if onDrumState s = .granted ∨ onDrumState s = .sending ∨ onDrumState s = .awaiting then
    giveNotice .load .pictureActive s
  else if tooLong s lines then giveNotice .load .tooLong s
  else if onDrumState s = .loaded then editRecord slug lines s
  else
    match slotForNew s with
    | some slot => createRecord slot slug lines s
    | none => giveNotice .load .tableFull s

/-! ### The keys (R171) -/

/-- The SPIN key (R18, R171). -/
def spinKey (s : State) : State :=
  if s.drum.state = .cutoff then giveNotice .spin .drumCutoff s else s.setDrum { s.drum with spinLatch := true }

/-- The STOP key (R18, R171). -/
def stopKey (s : State) : State :=
  if attemptInProgress s then giveNotice .stop .sending s else s.setDrum { s.drum with spinLatch := false }

/-- ABORT empties a LOADED record (R154). -/
def emptyRecord (slot : Nat) (s : State) : State :=
  s.setPics { s.pics with records := s.pics.records.set slot recEmpty, onDrum := none }

/-- The ABORT key (R154). -/
def abortKey (s : State) : State :=
  match s.pics.onDrum with
  | none => giveNotice .abort .noPicture s
  | some slot =>
    match onDrumState s with
    | .loaded => emptyRecord slot s
    | .granted => finishRecord slot .aborted .none s
    | .awaiting => finishRecord slot .aborted .none s
    | .sending => attemptEnd .aborted s
    | .finished => giveNotice .abort .wrongState s
    | .empty => giveNotice .abort .noPicture s

/-- The REPRINT key (R158, R171). -/
def reprintKey (s : State) : State :=
  match s.pics.onDrum with
  | none => giveNotice .reprint .noPicture s
  | some slot =>
    if onDrumState s = .finished then
      match requestSlip slot .reprint s with
      | (_, .refused) => giveNotice .reprint .queueFull s
      | (t, .merged) => t
      | (t, .queued) => t
      | (t, .owed) => t
    else giveNotice .reprint .wrongState s

/-- The RESET MECH key (R17, R58, R171). -/
def resetMechKey (s : State) : State :=
  match mechClear s with
  | some t => t
  | none => giveNotice .resetMech .coverOpen s

/-! ### The receiver (R170) -/

/-- The receiver in HUNTING with nothing under assembly (R170). -/
def panelHunting (s : State) : State :=
  s.setPanel { s.panel with inRecord := false, bytes := [], gapRunning := false }

/-- A content length that an inbound kind allows (R170). -/
def panelLengthOk (k : PanelKind) (n : Nat) : Bool :=
  match k with
  | .load => decide (3 ≤ n) && decide (n ≤ 18)
  | .spin => decide (n = 0)
  | .stop => decide (n = 0)
  | .abort => decide (n = 0)
  | .reprint => decide (n = 0)
  | .resetMech => decide (n = 0)

/-- A record taken goes to its owner (R171). -/
def panelOwner (k : PanelKind) (content : List Byte) (s : State) : State :=
  match k with
  | .load => loadPhotograph (wordAt content 0) (content.drop 2) s
  | .spin => spinKey s
  | .stop => stopKey s
  | .abort => abortKey s
  | .reprint => reprintKey s
  | .resetMech => resetMechKey s

/-- A byte joins the record under assembly. -/
def panelPush (b : Byte) (s : State) : State :=
  s.setPanel { s.panel with bytes := s.panel.bytes ++ [b] }

/-- A byte taken by its position in a record: kind, length, content or end (R170). -/
def panelPosition (b : Byte) (s : State) : State :=
  match s.panel.bytes with
  | [] => if (PanelKind.ofCode b).isSome then panelPush b s else panelHunting s
  | kind :: rest =>
    match PanelKind.ofCode kind, rest with
    | none, _ => panelHunting s
    | some k, [] => if panelLengthOk k b.toNat then panelPush b s else panelHunting s
    | some k, length :: content =>
      if content.length < length.toNat then panelPush b s
      else if b = 0x03 then panelOwner k content (panelHunting s)
      else panelHunting s

/-- One byte decoded on the panel link, `none` for a byte with a framing error (R170). -/
def panelByte (b : Option Byte) (s : State) : State :=
  if s.panel.inRecord then
    match b with
    | none => panelHunting s
    | some b => panelPosition b s
  else if b = some 0x02 then s.setPanel { s.panel with inRecord := true, bytes := [], gapRunning := true }
  else s

/-- The bytes of PANEL_RECORD_MALFORMED go through the receiver, which discards the record at its fault (R170; log 21). Each
byte is an event of its own: a good record among them is taken at its end byte, and the other blocks evaluate what it did
and the transmitter sends what is due, before the next byte is heard (R7, R170, R172). -/
def panelFeed (bytes : List (Option Byte)) (s : State) : State := bytes.foldl (fun s b => event (panelByte b) s) s

/-- PANEL_GAP_TIMER_EXPIRY: a gap above 20 ms discards the record (R170). -/
def panelGap (s : State) : State := if s.panel.inRecord then panelHunting s else s

/-- PANEL_LOAD (R138, R170): the record is taken at its end byte; a slug outside 1 to 16 bytes has a length the kind does
not allow, and the record is discarded. -/
def panelLoad (lines : Nat) (slug : List Byte) (s : State) : State :=
  let s := panelHunting s
  if panelLengthOk .load (2 + slug.length) then loadPhotograph lines slug s else s

end Sys2Proof.Machine
end

