-- ==== Sys2Proof/Machine/Power.lean ====
section
/-! DEFINITION. Power-on, the station clock's second and the receipt timer (10, sections 10.2 to 10.4; R148). -/

namespace Sys2Proof.Machine

/-! ### POWER_ON (R176, R177) -/

/-- The number of straps that are set (R176). -/
def strapsSet (straps : BitVec 7) : Nat := (List.range 7).countP fun i => straps.getLsbD i

/-- The straps' code (R176): bits 5..0. -/
def strapCode (straps : BitVec 7) : BitVec 6 := straps.extractLsb' 0 6

/-- The code is good: 1..62 with an odd number of straps set (R176). -/
def strapsGood (straps : BitVec 7) : Bool :=
  decide (1 ≤ (strapCode straps).toNat) && decide ((strapCode straps).toNat ≤ 62) &&
    decide (strapsSet straps % 2 = 1)

/-- The station code and the MUTE flag latched from the straps (R176). -/
def latchStraps (straps : BitVec 7) : Station := { code := strapCode straps, mute := !strapsGood straps }

/-- POWER_ON (R177; 10, section 10.4): every block at its starting values, the sensor levels read, the straps latched, the
first STATE record on its way. The queue of waiting commands, the loop-current senses and the home sensor are inputs and
keep what they hold (log 8). -/
def powerOn (cover paper : Bool) (straps : BitVec 7) (s : State) : State :=
  let r := State.reset
  let r := r.setPins { coverClosed := cover, paperPresent := paper, homeAsserted := s.pins.homeAsserted }
  let r := r.setSlips { r.slips with printer := if paper then .idle else .paperOut }
  let r := r.setPort .a { portReset with loopCurrent := s.portA.loopCurrent }
  let r := r.setPort .b { portReset with loopCurrent := s.portB.loopCurrent }
  let r := r.setStation (latchStraps straps)
  panelTransmit { r with pending := s.pending }

/-! ### The station clock (R174) -/

/-- The day after the last one of a month passes to day 1 of the next month (R174). -/
def nextDay (c : Clock) : Clock :=
  if c.day < daysInMonth c.month c.year then { c with day := c.day + 1 }
  else if c.month < 12 then { c with day := 1, month := c.month + 1 }
  else { c with day := 1, month := 1, year := if c.year < 99 then c.year + 1 else 0 }

/-- The clock one second later, its sub-second count at 0 (R174). -/
def nextSecond (c : Clock) : Clock :=
  let c := { c with sub := 0 }
  if c.second < 59 then { c with second := c.second + 1 }
  else if c.minute < 59 then { c with second := 0, minute := c.minute + 1 }
  else if c.hour < 23 then { c with second := 0, minute := 0, hour := c.hour + 1 }
  else nextDay { c with second := 0, minute := 0, hour := 0 }

/-- CLOCK_SECOND (R174). -/
def clockSecond (s : State) : State := s.setClock (nextSecond s.clock)

/-! ### The receipt timer (R148) -/

/-- RECEIPT_TIMER_EXPIRY (R148): NO_RECEIPT. -/
def receiptExpiry (s : State) : State :=
  match s.pics.onDrum with
  | some slot =>
    if onDrumState s = .awaiting ∧ s.pics.receiptTimer.isSome then finishRecord slot .noReceipt .none s else s
  | none => s

end Sys2Proof.Machine
end

