-- ==== Sys2Proof/Machine/LineCommands.lean ====
section
/-! DEFINITION. The commands of the picture sender, the line ports and their receivers (05; 06, section 6.1). -/

namespace Sys2Proof.Machine

/-- CADENCE_EVENT (R89). -/
def execCadenceEvent (s : State) : Host.Outcome State Fault Refusal :=
  .next (event cadenceEvent s)

/-- ATTEMPT_START (R142, R144). -/
def execAttemptStart (s : State) : Host.Outcome State Fault Refusal :=
  .next (event attemptStart s)

/-- START_TONE_TIMER_EXPIRY (R87). -/
def execStartToneTimerExpiry (s : State) : Host.Outcome State Fault Refusal :=
  .next (startToneExpiry s)

/-- STOP_TONE_TIMER_EXPIRY (R96). -/
def execStopToneTimerExpiry (s : State) : Host.Outcome State Fault Refusal :=
  .next (event stopToneExpiry s)

/-- LINEUP_START (R98). -/
def execLineupStart (s : State) : Host.Outcome State Fault Refusal :=
  .next (lineupStart s)

/-- LINEUP_WHITE_TIMER_EXPIRY (R98). -/
def execLineupWhiteTimerExpiry (s : State) : Host.Outcome State Fault Refusal :=
  .next (lineupWhiteExpiry s)

/-- LINEUP_BLACK_TIMER_EXPIRY (R98). -/
def execLineupBlackTimerExpiry (s : State) : Host.Outcome State Fault Refusal :=
  .next (event lineupBlackExpiry s)

/-- LOOP_CURRENT_LOST (R82). -/
def execLoopCurrentLost (p : PortId) (s : State) : Host.Outcome State Fault Refusal :=
  .next (loopCurrentLost p s)

/-- LOOP_CURRENT_RETURN (R82). -/
def execLoopCurrentReturn (p : PortId) (s : State) : Host.Outcome State Fault Refusal :=
  .next (loopCurrentReturn p s)

/-- LOOP_LOSS_TIMER_EXPIRY (R82). -/
def execLoopLossTimerExpiry (p : PortId) (s : State) : Host.Outcome State Fault Refusal :=
  .next (event (loopLossExpiry p) s)

/-- BREAK_TONE_PRESENT (R83). -/
def execBreakTonePresent (p : PortId) (s : State) : Host.Outcome State Fault Refusal :=
  .next (breakTonePresent p s)

/-- BREAK_TONE_ABSENT (R83). -/
def execBreakToneAbsent (p : PortId) (s : State) : Host.Outcome State Fault Refusal :=
  .next (breakToneAbsent p s)

/-- BREAK_TIMER_EXPIRY (R83). -/
def execBreakTimerExpiry (p : PortId) (s : State) : Host.Outcome State Fault Refusal :=
  .next (event (breakExpiry p) s)

/-- RECEPTION_START (R100). -/
def execReceptionStart (p : PortId) (marks : Nat) (s : State) : Host.Outcome State Fault Refusal :=
  .next (receptionStart p marks s)

/-- SYNC_FAILED (R100). -/
def execSyncFailed (p : PortId) (s : State) : Host.Outcome State Fault Refusal :=
  .next (syncFailed p s)

/-- BLOCK_ERROR (R100 to R102): in RECEIVING a block error, every kind counted alike; in SYNCING a failed sync, uncounted. -/
def execBlockError (p : PortId) (_ : BlockErr) (s : State) : Host.Outcome State Fault Refusal :=
  .next (blockError p s)

/-- GAP_TIMER_EXPIRY (R100 to R102): in RECEIVING a gap error; in SYNCING a failed sync, uncounted. -/
def execGapTimerExpiry (p : PortId) (s : State) : Host.Outcome State Fault Refusal :=
  .next (blockError p s)

/-- BLOCK_TAKE (R103). -/
def execBlockTake (p : PortId) (bytes : List Byte) (s : State) : Host.Outcome State Fault Refusal :=
  .next (event (blockTake p bytes) s)

/-- TURNAROUND_TIMER_EXPIRY (R79). -/
def execTurnaroundTimerExpiry (p : PortId) (s : State) : Host.Outcome State Fault Refusal :=
  .next (turnaroundExpiry p s)

/-- ECHO_FAILURE (R80, R81): the report ends as a failed one when an echo is wrong (log 11). -/
def execEchoFailure (heard : Heard) (s : State) : Host.Outcome State Fault Refusal :=
  .next (event (echoFailure heard.port heard.echoes) s)

/-- REPORT_END (R79, R80, R81): the end of a report, good when every echo is right. -/
def execReportEnd (heard : Heard) (s : State) : Host.Outcome State Fault Refusal :=
  .next (event (reportEnd heard.port heard.echoes) s)

end Sys2Proof.Machine
end

