-- ==== Sys2Proof/Machine/MechanismCommands.lean ====
section
/-! DEFINITION. The commands of the mechanism: encoder, drum drive, converter, lamp, head (01 to 04). -/

namespace Sys2Proof.Machine

/-- ENCODER_COUNT (R1): counter, window event, sample, burst and late check of one quadrature edge. -/
def execEncoderCount (dir : Dir) (s : State) : Host.Outcome State Fault Refusal :=
  .next (event (encoderCount dir) s)

/-- INDEX_PULSE (R2). -/
def execIndexPulse (s : State) : Host.Outcome State Fault Refusal :=
  .next (event indexPulse s)

/-- RAMP_TICK (R9). -/
def execRampTick (s : State) : Host.Outcome State Fault Refusal :=
  .next (rampTick s)

/-- SPINUP_TIMER_EXPIRY (R10). -/
def execSpinupTimerExpiry (s : State) : Host.Outcome State Fault Refusal :=
  .next (event spinupTimerExpiry s)

/-- STALL_DEADLINE (R21). -/
def execStallDeadline (s : State) : Host.Outcome State Fault Refusal :=
  .next (event stallDeadline s)

/-- BRAKING_TIMER_EXPIRY (R14). -/
def execBrakingTimerExpiry (s : State) : Host.Outcome State Fault Refusal :=
  .next (event brakingTimerExpiry s)

/-- WINDOW_SILENCE_TIMER_EXPIRY (R14). -/
def execWindowSilenceTimerExpiry (s : State) : Host.Outcome State Fault Refusal :=
  .next (event silenceTimerExpiry s)

/-- CYCLE_END (R19, R20). -/
def execCycleEnd (s : State) : Host.Outcome State Fault Refusal :=
  .next (cycleEnd s)

/-- COVER_CHANGE (R16). -/
def execCoverChange (closed : Bool) (s : State) : Host.Outcome State Fault Refusal :=
  .next (event (coverChange closed) s)

/-- CONVERSION_COMPLETE (R49). -/
def execConversionComplete (reading : BitVec 12) (s : State) : Host.Outcome State Fault Refusal :=
  .next (event (conversionComplete reading.toNat) s)

/-- LAMP_WARM_TIMER_EXPIRY (R46). -/
def execLampWarmTimerExpiry (s : State) : Host.Outcome State Fault Refusal :=
  .next (event lampWarm s)

/-- STEP_TIMER_EXPIRY (R51, R52, R56). -/
def execStepTimerExpiry (s : State) : Host.Outcome State Fault Refusal :=
  .next (event stepTimerExpiry s)

/-- HOME_SENSOR_ASSERT (R56). -/
def execHomeSensorAssert (level : Bool) (s : State) : Host.Outcome State Fault Refusal :=
  .next (event (homeSensor level) s)

end Sys2Proof.Machine
end

