-- ==== Sys2Proof/Machine/OrderCommands.lean ====
section
/-! DEFINITION. The commands that execute the order at the head of the order queue, one for each order kind (R108 to R112; log 6).
-/

namespace Sys2Proof.Machine

/-- POLL (R117). -/
def execPoll (s : State) : Host.Outcome State Fault Refusal :=
  .next (executeHead .poll ownPoll s)

/-- GRANT (R140). -/
def execGrant (s : State) : Host.Outcome State Fault Refusal :=
  .next (event (executeHead .grant ownGrant) s)

/-- CANCEL (R153). -/
def execCancel (s : State) : Host.Outcome State Fault Refusal :=
  .next (event (executeHead .cancel ownCancel) s)

/-- RECEIPT (R150). -/
def execReceipt (s : State) : Host.Outcome State Fault Refusal :=
  .next (event (executeHead .receipt ownReceipt) s)

/-- LOAD (R121). -/
def execLoad (s : State) : Host.Outcome State Fault Refusal :=
  .next (event (executeHead .load ownLoad) s)

/-- CLOCK (R175). -/
def execClock (s : State) : Host.Outcome State Fault Refusal :=
  .next (shown (executeHead .clock ownClock) s)

/-- LINEUP (R97). -/
def execLineup (s : State) : Host.Outcome State Fault Refusal :=
  .next (event (executeHead .lineup ownLineup) s)

/-- LINE_CLEAR (R84). -/
def execLineClear (s : State) : Host.Outcome State Fault Refusal :=
  .next (event (executeHead .lineClear ownLineClear) s)

/-- MECH_CLEAR (R17, R58). -/
def execMechClear (s : State) : Host.Outcome State Fault Refusal :=
  .next (event (executeHead .mechClear ownMechClear) s)

/-- RESTART (R112, R178). -/
def execRestart (s : State) : Host.Outcome State Fault Refusal :=
  .next (event (executeHead .restart ownRestart) s)

/-- SLIP (R158). -/
def execSlip (s : State) : Host.Outcome State Fault Refusal :=
  .next (executeHead .slip ownSlip s)

end Sys2Proof.Machine
end

