-- ==== Sys2Proof/Machine/StationCommands.lean ====
section
/-! DEFINITION. The commands of the station: power-on, the picture table, the slip unit, the panel and the clock (08 to 10).
-/

namespace Sys2Proof.Machine

/-- POWER_ON (R177). -/
def execPowerOn (coverClosed paperPresent : Bool) (straps : BitVec 7) (s : State) : Host.Outcome State Fault Refusal :=
  .next (powerOn coverClosed paperPresent straps s)

/-- RECEIPT_TIMER_EXPIRY (R148). -/
def execReceiptTimerExpiry (s : State) : Host.Outcome State Fault Refusal :=
  .next (event receiptExpiry s)

/-- STROBE_END (R165). -/
def execStrobeEnd (s : State) : Host.Outcome State Fault Refusal :=
  .next (strobeEnd s)

/-- FEED_INTERVAL_EXPIRY (R165). -/
def execFeedIntervalExpiry (s : State) : Host.Outcome State Fault Refusal :=
  .next (shown feedIntervalExpiry s)

/-- COOL_TIMER_EXPIRY (R166). -/
def execCoolTimerExpiry (s : State) : Host.Outcome State Fault Refusal :=
  .next (coolTimerExpiry s)

/-- PAPER_SENSOR_CHANGE (R167). -/
def execPaperSensorChange (present : Bool) (s : State) : Host.Outcome State Fault Refusal :=
  .next (shown (paperSensorChange present) s)

/-- PAPER_TIMER_EXPIRY (R167). -/
def execPaperTimerExpiry (s : State) : Host.Outcome State Fault Refusal :=
  .next (shown paperTimerExpiry s)

/-- PANEL_LOAD (R138). -/
def execPanelLoad (lines : BitVec 16) (slug : List Byte) (s : State) : Host.Outcome State Fault Refusal :=
  .next (event (panelLoad lines.toNat slug) s)

/-- SPIN (R18): a record taken at its end byte leaves the receiver HUNTING, as for the keys below (R170). -/
def execSpin (s : State) : Host.Outcome State Fault Refusal :=
  .next (event (fun s => spinKey (panelHunting s)) s)

/-- STOP (R171). -/
def execStop (s : State) : Host.Outcome State Fault Refusal :=
  .next (event (fun s => stopKey (panelHunting s)) s)

/-- ABORT (R154). -/
def execAbort (s : State) : Host.Outcome State Fault Refusal :=
  .next (event (fun s => abortKey (panelHunting s)) s)

/-- REPRINT (R158). -/
def execReprint (s : State) : Host.Outcome State Fault Refusal :=
  .next (event (fun s => reprintKey (panelHunting s)) s)

/-- RESET_MECH (R17, R58). -/
def execResetMech (s : State) : Host.Outcome State Fault Refusal :=
  .next (event (fun s => resetMechKey (panelHunting s)) s)

/-- PANEL_RECORD_MALFORMED (R170): one event a byte (log 21). -/
def execPanelRecordMalformed (bytes : List (Option Byte)) (s : State) : Host.Outcome State Fault Refusal :=
  .next (panelFeed bytes s)

/-- PANEL_GAP_TIMER_EXPIRY (R170). -/
def execPanelGapTimerExpiry (s : State) : Host.Outcome State Fault Refusal :=
  .next (panelGap s)

/-- PANEL_RECORD_SENT (R172). -/
def execPanelRecordSent (s : State) : Host.Outcome State Fault Refusal :=
  .next (panelRecordSent s)

/-- CLOCK_SECOND (R174). -/
def execClockSecond (s : State) : Host.Outcome State Fault Refusal :=
  .next (clockSecond s)

end Sys2Proof.Machine
end

