-- ==== Sys2Proof/Machine/Dispatch.lean ====
section
/-! DEFINITION. One arm per command, each a direct call of its meaning. -/

namespace Sys2Proof.Machine

/-- The effect of a command on everything but the queue of waiting commands (log 1). -/
def exec (i : Instr) (s : State) : Host.Outcome State Fault Refusal :=
  match i with
  | .powerOn coverClosed paperPresent straps => Sys2Proof.Machine.execPowerOn coverClosed paperPresent straps s
  | .encoderCount dir => Sys2Proof.Machine.execEncoderCount dir s
  | .indexPulse => Sys2Proof.Machine.execIndexPulse s
  | .rampTick => Sys2Proof.Machine.execRampTick s
  | .spinupTimerExpiry => Sys2Proof.Machine.execSpinupTimerExpiry s
  | .stallDeadline => Sys2Proof.Machine.execStallDeadline s
  | .brakingTimerExpiry => Sys2Proof.Machine.execBrakingTimerExpiry s
  | .windowSilenceTimerExpiry => Sys2Proof.Machine.execWindowSilenceTimerExpiry s
  | .cycleEnd => Sys2Proof.Machine.execCycleEnd s
  | .coverChange closed => Sys2Proof.Machine.execCoverChange closed s
  | .conversionComplete reading => Sys2Proof.Machine.execConversionComplete reading s
  | .lampWarmTimerExpiry => Sys2Proof.Machine.execLampWarmTimerExpiry s
  | .stepTimerExpiry => Sys2Proof.Machine.execStepTimerExpiry s
  | .homeSensorAssert level => Sys2Proof.Machine.execHomeSensorAssert level s
  | .cadenceEvent => Sys2Proof.Machine.execCadenceEvent s
  | .attemptStart => Sys2Proof.Machine.execAttemptStart s
  | .startToneTimerExpiry => Sys2Proof.Machine.execStartToneTimerExpiry s
  | .stopToneTimerExpiry => Sys2Proof.Machine.execStopToneTimerExpiry s
  | .lineupStart => Sys2Proof.Machine.execLineupStart s
  | .lineupWhiteTimerExpiry => Sys2Proof.Machine.execLineupWhiteTimerExpiry s
  | .lineupBlackTimerExpiry => Sys2Proof.Machine.execLineupBlackTimerExpiry s
  | .loopCurrentLost p => Sys2Proof.Machine.execLoopCurrentLost p s
  | .loopCurrentReturn p => Sys2Proof.Machine.execLoopCurrentReturn p s
  | .loopLossTimerExpiry p => Sys2Proof.Machine.execLoopLossTimerExpiry p s
  | .breakTonePresent p => Sys2Proof.Machine.execBreakTonePresent p s
  | .breakToneAbsent p => Sys2Proof.Machine.execBreakToneAbsent p s
  | .breakTimerExpiry p => Sys2Proof.Machine.execBreakTimerExpiry p s
  | .receptionStart p marks => Sys2Proof.Machine.execReceptionStart p marks s
  | .syncFailed p => Sys2Proof.Machine.execSyncFailed p s
  | .blockError p err => Sys2Proof.Machine.execBlockError p err s
  | .gapTimerExpiry p => Sys2Proof.Machine.execGapTimerExpiry p s
  | .blockTake p bytes => Sys2Proof.Machine.execBlockTake p bytes s
  | .turnaroundTimerExpiry p => Sys2Proof.Machine.execTurnaroundTimerExpiry p s
  | .echoFailure heard => Sys2Proof.Machine.execEchoFailure heard s
  | .reportEnd heard => Sys2Proof.Machine.execReportEnd heard s
  | .poll => Sys2Proof.Machine.execPoll s
  | .grant => Sys2Proof.Machine.execGrant s
  | .cancel => Sys2Proof.Machine.execCancel s
  | .receipt => Sys2Proof.Machine.execReceipt s
  | .load => Sys2Proof.Machine.execLoad s
  | .clock => Sys2Proof.Machine.execClock s
  | .lineup => Sys2Proof.Machine.execLineup s
  | .lineClear => Sys2Proof.Machine.execLineClear s
  | .mechClear => Sys2Proof.Machine.execMechClear s
  | .restart => Sys2Proof.Machine.execRestart s
  | .slip => Sys2Proof.Machine.execSlip s
  | .receiptTimerExpiry => Sys2Proof.Machine.execReceiptTimerExpiry s
  | .strobeEnd => Sys2Proof.Machine.execStrobeEnd s
  | .feedIntervalExpiry => Sys2Proof.Machine.execFeedIntervalExpiry s
  | .coolTimerExpiry => Sys2Proof.Machine.execCoolTimerExpiry s
  | .paperSensorChange present => Sys2Proof.Machine.execPaperSensorChange present s
  | .paperTimerExpiry => Sys2Proof.Machine.execPaperTimerExpiry s
  | .panelLoad lines slug => Sys2Proof.Machine.execPanelLoad lines slug s
  | .spin => Sys2Proof.Machine.execSpin s
  | .stop => Sys2Proof.Machine.execStop s
  | .abort => Sys2Proof.Machine.execAbort s
  | .reprint => Sys2Proof.Machine.execReprint s
  | .resetMech => Sys2Proof.Machine.execResetMech s
  | .panelRecordMalformed bytes => Sys2Proof.Machine.execPanelRecordMalformed bytes s
  | .panelGapTimerExpiry => Sys2Proof.Machine.execPanelGapTimerExpiry s
  | .panelRecordSent => Sys2Proof.Machine.execPanelRecordSent s
  | .clockSecond => Sys2Proof.Machine.execClockSecond s

end Sys2Proof.Machine
end

