-- ==== Sys2Proof/Machine/Tick.lean ====
section
/-! DEFINITION. What the block does when no command waits (log 2): the execution of an eligible head order, else one
reference tick of 1 µs and whatever comes due in it. -/

namespace Sys2Proof.Machine

/-- A running timer with one tick less. -/
def Timer.down (t : Timer) : Timer := t.map (· - 1)

/-- A running timer that has come to its end. -/
def Timer.ended (t : Timer) : Bool := decide (t = some 0)

/-- The turnaround timer with one tick less; a held one waits (R79). -/
def Turnaround.down : Turnaround → Turnaround
  | .running n => .running (n - 1)
  | .stopped => .stopped
  | .held => .held

/-- A port one tick on. -/
def Port.tick (x : Port) : Port :=
  { x with loopTimer := Timer.down x.loopTimer, breakTimer := Timer.down x.breakTimer, turn := x.turn.down }

/-- The drum drive one tick on: its timers, and 16 PWM clocks of the cycle (01, section 1.4). -/
def Drum.tick (d : Drum) : Drum :=
  { d with
    spinupTimer := Timer.down d.spinupTimer
    rampTimer := Timer.down d.rampTimer
    brakingTimer := Timer.down d.brakingTimer
    silenceTimer := Timer.down d.silenceTimer
    cycleCount := d.cycleCount + 16 }

/-- The sender one tick on: the stage timer, and S on the accumulator while the cadence is on (R89). -/
def Sender.tick (samples : Nat) (x : Sender) : Sender :=
  { x with
    stageTimer := Timer.down x.stageTimer
    acc := if x.cadenceOn then x.acc + samples else x.acc }

/-- The slip unit one tick on. -/
def SlipUnit.tick (u : SlipUnit) : SlipUnit :=
  { u with
    dotTimer := Timer.down u.dotTimer, paperTimer := Timer.down u.paperTimer, coolTimer := Timer.down u.coolTimer }

/-- The picture table one tick on: the receipt timer, and the elapsed ticks of an attempt in progress (R144, R148). -/
def PicTable.tick (running : Bool) (t : PicTable) : PicTable :=
  { t with
    receiptTimer := Timer.down t.receiptTimer
    elapsed := if running then t.elapsed + 1 else t.elapsed }

/-- Every count of reference ticks moves on by one. -/
def countTick (s : State) : State :=
  { s with
    now := s.now + 1
    drum := s.drum.tick
    lamp := { s.lamp with warmTimer := Timer.down s.lamp.warmTimer }
    head := { s.head with stepTimer := Timer.down s.head.stepTimer }
    portA := s.portA.tick
    portB := s.portB.tick
    sender := s.sender.tick (samplesPerRev s)
    pics := s.pics.tick (attemptInProgress s)
    slips := s.slips.tick
    clock := { s.clock with sub := s.clock.sub + 1 } }

/-- What the sender's stage timer ends (R86, R93, R98). -/
def stageCommand : SenderState → Option Instr
  | .startTone => some .startToneTimerExpiry
  | .stopTone => some .stopToneTimerExpiry
  | .lineupWhite => some .lineupWhiteTimerExpiry
  | .lineupBlack => some .lineupBlackTimerExpiry
  | .free => none
  | .prefill => none
  | .phasing => none
  | .picture => none
  | .drain => none
  | .doneOut => none

/-- What the dot-line timer ends (R165). -/
def dotCommand : DotPhase → Option Instr
  | .strobing => some .strobeEnd
  | .feedFirst => some .feedIntervalExpiry
  | .feedSecond => some .feedIntervalExpiry
  | .idle => none
  | .reading => none

/-- The command a timer gives when it has ended. -/
def whenEnded (t : Timer) (i : Option Instr) : Option Instr := if Timer.ended t then i else none

/-- The command a condition gives. -/
def whenTrue (b : Bool) (i : Instr) : Option Instr := if b then some i else none

/-- The expiries of a tick, in the order in which those that come together are taken (log 4). -/
def expiries : List (State → Option Instr) :=
  [ fun s => whenTrue (decide (s.drum.stallDeadline = some s.now)) .stallDeadline,
    fun s => whenEnded s.drum.spinupTimer (some .spinupTimerExpiry),
    fun s => whenEnded s.drum.brakingTimer (some .brakingTimerExpiry),
    fun s => whenEnded s.drum.silenceTimer (some .windowSilenceTimerExpiry),
    fun s => whenEnded s.drum.rampTimer (some .rampTick),
    fun s => whenTrue (decide (s.drum.cycleLen ≤ s.drum.cycleCount)) .cycleEnd,
    fun s => whenEnded s.lamp.warmTimer (some .lampWarmTimerExpiry),
    fun s => whenEnded s.head.stepTimer (some .stepTimerExpiry),
    fun s => whenTrue (s.sender.cadenceOn && decide (revTicks s ≤ s.sender.acc)) .cadenceEvent,
    fun s => whenEnded s.portA.loopTimer (some (.loopLossTimerExpiry .a)),
    fun s => whenEnded s.portB.loopTimer (some (.loopLossTimerExpiry .b)),
    fun s => whenEnded s.portA.breakTimer (some (.breakTimerExpiry .a)),
    fun s => whenEnded s.portB.breakTimer (some (.breakTimerExpiry .b)),
    fun s => whenEnded s.sender.stageTimer (stageCommand s.sender.state),
    fun s => whenTrue (decide (s.portA.turn = .running 0)) (.turnaroundTimerExpiry .a),
    fun s => whenTrue (decide (s.portB.turn = .running 0)) (.turnaroundTimerExpiry .b),
    fun s => whenEnded s.pics.receiptTimer (some .receiptTimerExpiry),
    fun s => whenEnded s.slips.dotTimer (dotCommand s.slips.phase),
    fun s => whenEnded s.slips.coolTimer (some .coolTimerExpiry),
    fun s => whenEnded s.slips.paperTimer (some .paperTimerExpiry),
    fun s => whenTrue (decide (1000000 ≤ s.clock.sub)) .clockSecond ]

/-- A command that comes of itself has its effect. -/
def takeDue (due : State → Option Instr) (s : State) : State :=
  match due s with
  | none => s
  | some i =>
    match exec i s with
    | .next t => t
    | .fault _ => s
    | .refused _ => s

/-- One reference tick: a record due goes to the panel, the counts move on, and what has come due is taken. -/
def tick (s : State) : State := expiries.foldl (fun s due => takeDue due s) (countTick (panelTransmit s))

/-- The command that executes an order of a kind (log 6). -/
def orderCommand : OrderKind → Instr
  | .poll => .poll
  | .grant => .grant
  | .cancel => .cancel
  | .receipt => .receipt
  | .load => .load
  | .clock => .clock
  | .lineup => .lineup
  | .lineClear => .lineClear
  | .mechClear => .mechClear
  | .restart => .restart
  | .slip => .slip

/-- The internal step that is due: the head order, when it is eligible (R108). -/
def internalStep (s : State) : Option Instr :=
  match s.orders with
  | o :: _ => if eligible s then some (orderCommand o.kind) else none
  | [] => none

/-- The step with no command waiting (log 2). -/
def idle (s : State) : Host.Outcome State Fault Refusal :=
  match internalStep s with
  | some i => exec i s
  | none => .next (tick s)

end Sys2Proof.Machine
end

