-- ==== Sys2Proof/Safety.lean ====
section
/-! DEFINITION. What counts as safe: which parts of the state two states share, which parts a command may change, the
ranges that every state of a run lies in, and what ties, supports and settles the blocks. Statements are made in these terms. -/

namespace Sys2Proof.Machine

/-! ### Frames -/

/-- The parts of the state, one for each field. -/
inductive Part where
  | now | enc | drum | reg | scan | lamp | conv | head | store | portA | portB | sender | orders | tables | pics
  | slips | panel | clock | station | pins | pending
deriving DecidableEq, Repr

/-- Two states hold the same in a part. -/
def Part.same (s t : State) : Part → Prop
  | .now => t.now = s.now
  | .enc => t.enc = s.enc
  | .drum => t.drum = s.drum
  | .reg => t.reg = s.reg
  | .scan => t.scan = s.scan
  | .lamp => t.lamp = s.lamp
  | .conv => t.conv = s.conv
  | .head => t.head = s.head
  | .store => t.store = s.store
  | .portA => t.portA = s.portA
  | .portB => t.portB = s.portB
  | .sender => t.sender = s.sender
  | .orders => t.orders = s.orders
  | .tables => t.tables = s.tables
  | .pics => t.pics = s.pics
  | .slips => t.slips = s.slips
  | .panel => t.panel = s.panel
  | .clock => t.clock = s.clock
  | .station => t.station = s.station
  | .pins => t.pins = s.pins
  | .pending => t.pending = s.pending

/-- `t` holds what `s` holds in every part but those listed. -/
def Only (ps : List Part) (s t : State) : Prop := ∀ p, p ∉ ps → p.same s t

/-- The part of a port. -/
def portPart : PortId → Part
  | .a => .portA
  | .b => .portB

/-- What the end of an attempt may change (R146): the scanner with its conversions, the store, the sender with its port,
the head, the tables, the picture table and the slip unit. -/
def attemptParts : List Part := [.scan, .conv, .store, .sender, .portA, .portB, .head, .tables, .pics, .slips]

/-- What an event and the evaluations at its end may change: all but the tick count, the order queue, the clock, the
station code, the sensor levels and the queue of waiting commands. -/
def eventParts : List Part := [.enc, .drum, .reg, .lamp, .panel] ++ attemptParts

/-- The parts a command may change. -/
def partsOf : Instr → List Part
  | .powerOn .. =>
    [.now, .enc, .drum, .reg, .scan, .lamp, .conv, .head, .store, .portA, .portB, .sender, .orders, .tables, .pics,
      .slips, .panel, .clock, .station, .pins]
  | .encoderCount _ => eventParts
  | .indexPulse => eventParts
  | .rampTick => [.drum]
  | .spinupTimerExpiry => eventParts
  | .stallDeadline => eventParts
  | .brakingTimerExpiry => eventParts
  | .windowSilenceTimerExpiry => eventParts
  | .cycleEnd => [.drum]
  | .coverChange _ => .pins :: eventParts
  | .conversionComplete _ => eventParts
  | .lampWarmTimerExpiry => eventParts
  | .stepTimerExpiry => eventParts
  | .homeSensorAssert _ => .pins :: eventParts
  | .cadenceEvent => eventParts
  | .attemptStart => eventParts
  | .startToneTimerExpiry => [.scan, .sender]
  | .stopToneTimerExpiry => eventParts
  | .lineupStart => [.sender, .portA, .portB]
  | .lineupWhiteTimerExpiry => [.sender]
  | .lineupBlackTimerExpiry => eventParts
  | .loopCurrentLost p => [portPart p]
  | .loopCurrentReturn p => [portPart p]
  | .loopLossTimerExpiry _ => eventParts
  | .breakTonePresent p => [portPart p]
  | .breakToneAbsent p => [portPart p]
  | .breakTimerExpiry _ => eventParts
  | .receptionStart _ _ => [.portA, .portB]
  | .syncFailed p => [portPart p]
  | .blockError p _ => [portPart p]
  | .gapTimerExpiry p => [portPart p]
  | .blockTake _ _ => .orders :: eventParts
  | .turnaroundTimerExpiry _ => [.portA, .portB]
  | .echoFailure _ => eventParts
  | .reportEnd _ => eventParts
  | .poll => [.orders, .portA, .portB]
  | .grant => .orders :: eventParts
  | .cancel => .orders :: eventParts
  | .receipt => .orders :: eventParts
  | .load => .orders :: eventParts
  | .clock => [.orders, .portA, .portB, .clock, .panel]
  | .lineup => .orders :: eventParts
  | .lineClear => .orders :: eventParts
  | .mechClear => .orders :: eventParts
  | .restart => .orders :: eventParts
  | .slip => [.orders, .portA, .portB, .pics, .slips, .conv]
  | .receiptTimerExpiry => eventParts
  | .strobeEnd => [.slips]
  | .feedIntervalExpiry => [.slips, .pics, .conv, .panel]
  | .coolTimerExpiry => [.slips, .conv]
  | .paperSensorChange _ => [.slips, .pins, .panel]
  | .paperTimerExpiry => [.slips, .conv, .panel]
  | .panelLoad _ _ => eventParts
  | .spin => eventParts
  | .stop => eventParts
  | .abort => eventParts
  | .reprint => eventParts
  | .resetMech => eventParts
  | .panelRecordMalformed _ => eventParts
  | .panelGapTimerExpiry => [.panel]
  | .panelRecordSent => [.panel]
  | .clockSecond => [.clock]

/-! ### The ranges every state of a run lies in -/

/-- The encoder counter: the drum position, the reverse run (R1) and the index-slip run, which is 0 again at the third slip
(R2). -/
structure EncoderOk (x : Encoder) : Prop where
  pos : x.pos ≤ 8191
  reverseRun : x.reverseRun ≤ 255
  slipRun : x.slipRun ≤ 2

/-- The drum drive: a duty is at most the longest cycle, 4,096 clocks (01, section 1.3); in STOPPED and CUTOFF the bridge is
OFF and no other mode is requested (R14, R15, R19). -/
structure DrumOk (x : Drum) : Prop where
  pending : x.pendingDuty ≤ 4096
  active : x.activeDuty ≤ 4096
  off : x.state = .stopped ∨ x.state = .cutoff → x.mode = .off ∧ x.modeReq = none

/-- The regulator: the integrator (R27), the lock counter and the unlock counter (R31). -/
structure RegulatorOk (x : Regulator) : Prop where
  low : -524287 ≤ x.integ
  high : x.integ ≤ 524287
  lock : x.lockCount ≤ 255
  unlock : x.unlockCount ≤ 2

/-- The scanner: the white-patch sum and the white reference (R47). -/
structure ScannerOk (x : Scanner) : Prop where
  sum : x.whiteSum ≤ 4095 * x.whiteCount
  wRef : x.wRef ≤ 4095

/-- The line store: the fill (R64), and its counts, which stop at their largest values (04, section 4.2). -/
structure StoreOk (x : LineStore) : Prop where
  fill : x.entries.length ≤ 256
  accepted : x.accepted ≤ 4294967295
  sent : x.sent ≤ 4294967295
  flushed : x.flushed ≤ 256
  overruns : x.overruns ≤ 65535
  underruns : x.underruns ≤ 65535

/-- A port's counts (05, section 5.2; 06, section 6.1). -/
structure PortRange (x : Port) : Prop where
  blockErrors : x.blockErrors ≤ 65535
  echoFailures : x.echoFailures ≤ 65535
  consecutive : x.consecEcho ≤ 255

/-- A TONE table: 17 levels (R126). -/
abbrev toneOk (t : List Nat) : Prop := t.length = 17 ∧ ∀ v ∈ t, v ≤ 255

/-- A roster entry that a load may place (R132): an empty one, or one with a code 1 to 62 and a name of 8 characters. -/
abbrev rosterOk (e : RosterEntry) : Prop := e.code ≤ 62 ∧ e.name.length = 8 ∧ e.name.all isText = true

/-- A strobe table that a load may place: its checks (R134) and what its clamps leave (R123). -/
structure StrobeTableOk (t : Strobe) : Prop where
  checks : strobeOk t = true
  bands : t.bands.length = 8
  bases : ∀ b ∈ t.bands, 100 ≤ b.base ∧ b.base ≤ 4000

/-- A STANDARD entry that a load may place (R127). -/
abbrev standardOk (e : Standard) : Prop := 10000 ≤ e.w ∧ (e.pitch = 2 ∨ e.pitch = 4 ∨ e.pitch = 8) ∧ e.dff ≤ 4096

/-- A drum profile that a load may place: its checks (R128) and what its clamps leave (R123). -/
structure DrumProfileOk (p : DrumProfile) : Prop where
  checks : drumOk p = true
  dutyMin : p.dutyMin ≤ p.dutyMax
  dutyMax : p.dutyMax ≤ 2 ^ p.cycleExp

/-- A line profile that a load may place: its checks (R130) and what its clamps leave (R123). -/
structure LineProfileOk (p : LineProfile) : Prop where
  checks : lineOk p = true
  amplitudes : p.aWhite ≤ 1023 ∧ p.aBlack ≤ 1023 ∧ p.startAmp ≤ 1023 ∧ p.stopAmp ≤ 1023
  carrier : 1200 ≤ p.carrierFreq ∧ p.carrierFreq ≤ 2400
  loss : 10 ≤ p.lossTime

/-- The loaded tables, live and pending, hold only what passes their checks and clamps (R122 to R134); ACCEPT, ROSTER, TEMPLATE
and STROBE are never pending (R131 to R134), and the load counts are bytes (R121). -/
structure TablesOk (x : Tables) : Prop where
  standards : ∀ e ∈ x.standards, standardOk e
  standardPending : ∀ k e, x.standardPending = some (k, e) → standardOk e
  drum : DrumProfileOk x.drum
  drumPending : ∀ p, x.drumPending = some p → DrumProfileOk p
  scan : scanOk x.scan = true
  scanPending : ∀ p, x.scanPending = some p → scanOk p = true
  lineA : LineProfileOk x.lineA
  lineB : LineProfileOk x.lineB
  linePending : ∀ q p, x.linePending = some (q, p) → LineProfileOk p
  accept : acceptOk x.accept = true
  standardCount : x.standards.length = 4
  rosterCount : x.roster.length = 32
  templateCount : x.template.length = 12
  acceptCount : x.accept.length = 33
  tone : toneOk x.tone
  tonePending : ∀ t, x.tonePending = some t → toneOk t
  roster : ∀ e ∈ x.roster, rosterOk e
  template : ∀ l ∈ x.template, templateOk l = true
  strobe : StrobeTableOk x.strobe
  neverPending : x.acceptPending = none ∧ x.rosterPending = none ∧ x.templatePending = none ∧ x.strobePending = none
  counts : x.counts.length = 9 ∧ ∀ n ∈ x.counts, n < 256

/-- A grant part (R111, R140). -/
structure GrantOk (g : Grant) : Prop where
  standard : g.standard ≤ 3
  allowed : 1 ≤ g.allowed ∧ g.allowed ≤ 3
  wait : 1 ≤ g.wait ∧ g.wait ≤ 255

/-- An attempt record (08, section 8.1). -/
structure AttemptOk (a : Attempt) : Prop where
  number : a.number ≤ 3
  duration : a.duration ≤ 65535
  lines : a.linesSent ≤ 4000
  underruns : a.underruns ≤ 65535
  overruns : a.overruns ≤ 65535
  flushed : a.flushed ≤ 256
  indexSlips : a.indexSlips ≤ 65535
  headLate : a.headLate ≤ 65535
  lockLost : a.lockLost ≤ 65535

/-- What a LOAD gave a record (R138). -/
structure MountOk (m : Mount) : Prop where
  serial : 1 ≤ m.serial ∧ m.serial ≤ 65535
  slug : 1 ≤ m.slug.length ∧ m.slug.length ≤ 16
  lines : 1 ≤ m.lines ∧ m.lines ≤ 4000

/-- A picture record: at most 32 receipt items (R149), and never more attempts than its grant allows, with one left to
start while it is GRANTED (R140, R147, R151); its parts and counts in their ranges (08, section 8.1). -/
structure RecordOk (r : PicRecord) : Prop where
  receipts : r.receipts.length ≤ 32
  attempts : r.attempts.length ≤ 3
  granted : r.state = .granted → ∃ g, r.grant = some g ∧ r.attempts.length < g.allowed
  grant : ∀ g, r.grant = some g → GrantOk g
  each : ∀ a ∈ r.attempts, AttemptOk a
  codes : ∀ i ∈ r.receipts, 1 ≤ i.code ∧ i.code ≤ 62
  mount : ∀ m, r.mount = some m → MountOk m
  number : ∀ n, r.number = some n → 1 ≤ n ∧ n ≤ 9999
  dropped : r.dropped ≤ 65535
  prints : r.prints ≤ 255

/-- The slip unit: at most 8 requests (R158), at most 40 lines of at most 32 characters (R161, R163), an owed set for each slot
(R158), a feed interval of the strobe table (R134). -/
structure SlipsOk (x : SlipUnit) : Prop where
  queue : x.queue.length ≤ 8
  lines : x.image.length ≤ 40
  text : ∀ l ∈ x.image, l.text.length ≤ 32
  owed : x.owed.length = 8
  feed : 1000 ≤ x.feed ∧ x.feed ≤ 5000

/-- The station clock holds a date and time (10, section 10.2). -/
structure ClockOk (c : Clock) : Prop where
  month : 1 ≤ c.month ∧ c.month ≤ 12
  day : 1 ≤ c.day ∧ c.day ≤ daysInMonth c.month c.year
  year : c.year ≤ 99
  hour : c.hour ≤ 23
  minute : c.minute ≤ 59
  second : c.second ≤ 59

/-- The ranges the rules give the blocks: those above, the steps owed (R53), the lines sent (R90), the order queue (R107), the
8 slots and the next serial (R136, R137). -/
structure Ranges (s : State) : Prop where
  enc : EncoderOk s.enc
  drum : DrumOk s.drum
  reg : RegulatorOk s.reg
  scan : ScannerOk s.scan
  owed : s.head.owed ≤ 255
  store : StoreOk s.store
  portA : PortRange s.portA
  portB : PortRange s.portB
  linesSent : s.sender.linesSent ≤ 4000
  orders : s.orders.length ≤ 4
  tables : TablesOk s.tables
  slots : s.pics.records.length = 8
  records : ∀ r ∈ s.pics.records, RecordOk r
  serial : 1 ≤ s.pics.nextSerial ∧ s.pics.nextSerial ≤ 65535
  slips : SlipsOk s.slips
  clock : ClockOk s.clock

/-! ### What ties the blocks together -/

/-- The sender states in which its attached port is CARRYING: all but FREE and DONE_OUT (R86, R96, R98). -/
def SenderState.online : SenderState → Bool
  | .free | .doneOut => false
  | .startTone | .prefill | .phasing | .picture | .drain | .stopTone | .lineupWhite | .lineupBlack => true

/-- The sender states in which the cadence may run (R88, R93). -/
def SenderState.paced : SenderState → Bool
  | .prefill | .phasing | .picture | .drain => true
  | .free | .startTone | .stopTone | .doneOut | .lineupWhite | .lineupBlack => false

/-- A port: at most 8 report items (R78), none while it is IDLE or CARRYING (R77, R96), and no fault while it is
CARRYING (R82). -/
structure PortOk (x : Port) : Prop where
  list : x.list.length ≤ 8
  empty : x.activity = .idle ∨ x.activity = .carrying → x.list = []
  carrying : x.activity = .carrying → x.cause = .none

/-- The law of the line store (R64): accepted entries are those sent, flushed and held, while the count has not stopped at its
largest value. -/
def StoreLaw (x : LineStore) : Prop := x.accepted < 4294967295 → x.accepted = x.sent + x.flushed + x.entries.length

/-- What ties the blocks of an attempt together: a port is CARRYING exactly while the sender is attached to it and on the
line; the on-drum record is SENDING exactly while the sender is in an attempt's states up to DRAIN; the scanner is out of
IDLE and the head SCANNING only during an attempt; the cadence runs only in the sender's stages from PREFILL to DRAIN; the
line store's accepted entries are those sent, flushed and held, up to the largest count (R64), and none is flushed before
the attempt's end (R72, R73). -/
structure Links (s : State) : Prop where
  portA : PortOk s.portA
  portB : PortOk s.portB
  carries : ∀ p, (s.port p).activity = .carrying ↔ (s.sender.port = some p ∧ s.sender.state.online = true)
  attempt : attemptInProgress s = s.sender.state.sendingAttempt
  scanner : s.scan.state ≠ .idle → attemptInProgress s = true
  head : s.head.state = .scanning → attemptInProgress s = true
  cadence : s.sender.cadenceOn = true → s.sender.state.paced = true
  law : StoreLaw s.store
  flushed : attemptInProgress s = true → s.store.flushed = 0

/-- A duty lies within duty_min..duty_max of the drum profile in force (R20). -/
abbrev dutyWithin (s : State) (d : Nat) : Prop := s.tables.drum.dutyMin ≤ d ∧ d ≤ s.tables.drum.dutyMax

/-- What the blocks stand on beside their ranges and links: a drum in TRACKING or LOCKED has the index found and a capture
(R2, R4, R10); in SPINUP, TRACKING and LOCKED both duties lie within the profile's range (R20); each lock counter is 0
outside its state (R31); the unlocked-window count stays below the 32 that end an attempt (R12); a running scanner stands in
a revolution and at a sample of its run (R38, R43); entries wait only in a run, and last entry written only for them (R42,
R44); the head stands within its travel, and at home when PARKED (R54, R56); the sender is attached to the port that the
last attempt record of the attempt in progress names (R136); a line-up request waits only at a FREE sender (R97). -/
structure Footing (s : State) : Prop where
  captures : s.drum.state = .tracking ∨ s.drum.state = .locked → s.enc.indexFound = true ∧ s.enc.curCap.isSome = true
  duties : s.drum.state = .spinup ∨ s.drum.state = .tracking ∨ s.drum.state = .locked →
    dutyWithin s s.drum.pendingDuty ∧ dutyWithin s s.drum.activeDuty
  counters : (s.drum.state = .locked → s.reg.lockCount = 0) ∧ (s.drum.state = .tracking → s.reg.unlockCount = 0)
  unlocked : s.drum.unlocked ≤ 32 ∧ (attemptInProgress s = true → s.drum.unlocked < 32)
  revolution : s.scan.state = .running → 1 ≤ s.scan.rev ∧ s.scan.rev ≤ (carryingLine s).nPhase + onDrumLines s
  sample : s.scan.state = .running → 1 ≤ s.scan.k ∧ s.scan.k ≤ samplesPerRev s
  entries : (s.scan.state = .idle ∨ s.scan.state = .armed → s.scan.waiting = []) ∧
    (s.scan.signalDue = true → s.scan.state = .finished ∧ s.scan.waiting ≠ [])
  travel : s.head.pos ≤ s.tables.scan.travelLimit ∧ (s.head.state = .parked → s.head.pos = 0)
  attached : attemptInProgress s = true →
    (onDrumRec s).bind (fun r => r.attempts.getLast?.map (·.port)) = s.sender.port
  request : s.sender.lineupReq ≠ none → s.sender.state = .free

/-- What ties the picture table and the slip unit: a record that is neither EMPTY nor FINISHED, a GRANTED, SENDING or AWAITING
one among them, is the on-drum one, and the on-drum one is not EMPTY (R136, R139); no two records that are not EMPTY carry
one picture number (R140); the finish order holds each FINISHED slot once and no other (R137, R155); a record holds each
receiver code at most once (R149); a FINISHED record's slip status is OWED, QUEUED or PRINTED, the one its requests and its
print count give (R156, R160), and before FINISHED it is NONE; requests and owed slips belong to FINISHED records (R156); a
slip is owed only while the queue holds 8 requests (R159). -/
structure Filed (s : State) : Prop where
  active : ∀ i r, s.rec? i = some r → r.state ≠ .empty → r.state ≠ .finished → s.pics.onDrum = some i
  mounted : ∀ i, s.pics.onDrum = some i → ∃ r, s.rec? i = some r ∧ r.state ≠ .empty
  numbers : ∀ i j r q n, s.rec? i = some r → s.rec? j = some q → r.state ≠ .empty → q.state ≠ .empty →
    r.number = some n → q.number = some n → i = j
  order : s.pics.finishOrder.Nodup
  ordered : ∀ i, i ∈ s.pics.finishOrder ↔ ∃ r, s.rec? i = some r ∧ r.state = .finished
  codes : ∀ r ∈ s.pics.records, (r.receipts.map (·.code)).Nodup
  status : ∀ i r, s.rec? i = some r → r.state = .finished → r.slip ≠ .none ∧ r.slip = slipStatusOf s i
  unasked : ∀ r ∈ s.pics.records, r.state ≠ .finished → r.slip = .none ∧ r.prints = 0
  requests : ∀ q ∈ s.slips.queue, ∃ r, s.rec? q.slot = some r ∧ r.state = .finished
  owers : ∀ i, (owedOf s i).isEmpty = false → ∃ r, s.rec? i = some r ∧ r.state = .finished
  owed : (∃ o ∈ s.slips.owed, o.isEmpty = false) → s.slips.queue.length = 8

/-- A report is due: formed at the head of the list of a port in ANSWER_DUE whose turnaround timer does not run (R79). -/
def Port.reportDue (x : Port) : Bool :=
  decide (x.activity = .answerDue) && (headReport x.list).isSome && decide (x.turn = .stopped)

/-- Nothing is left undone that a rule makes happen within the event it comes of: the drum follows demand (R8, R14), the lamp
its own (R46), a parked head positions for a GRANTED record (R51), an attempt and a line-up that can start have started
(R97, R142), a report that is due is on the line (R79), unless an eligible order is to be executed first (R108, log 35). -/
structure Settled (s : State) : Prop where
  spins : s.drum.state = .spinup ∨ s.drum.state = .tracking ∨ s.drum.state = .locked → demand s = true
  brakes : s.drum.state = .braking → demand s = false
  stopped : s.drum.state = .stopped → s.pins.coverClosed = true → s.tables.drumPending = none → demand s = false
  lampOn : lampDemand s = true → s.lamp.state ≠ .off
  lampOff : lampDemand s = false → s.lamp.state = .off ∨ s.lamp.state = .fault
  head : s.head.state = .parked → onDrumState s ≠ .granted
  attempt : attemptReady s = false
  lineup : lineupReady s = false
  reports : s.orders = [] ∨ eligible s = false → ∀ p, (s.port p).reportDue = false

/-! ### Situations the statements name -/

/-- The index has been found, and P lies within index_tol of it (R2). -/
def IndexGood (s : State) : Prop :=
  s.enc.indexFound = true ∧ s.enc.pos ≤ 8191 ∧
    (if s.enc.pos < 4096 then s.enc.pos else 8192 - s.enc.pos) ≤ s.tables.drum.indexTol

/-- The command `c` is a window event at boundary `b` with this period: a forward count onto boundary 1 to 15, or a good index
pulse, boundary 0, the index found, a boundary not the last one taken, and the last capture at `prev` (R4, R5). -/
structure WindowAt (c : Instr) (s : State) (b : Nat) (prev : Tick) (period : Nat) : Prop where
  boundary : (c = .encoderCount .forward ∧ 1 ≤ b ∧ b ≤ 15 ∧ s.enc.pos + 1 = 512 * b) ∨
    (c = .indexPulse ∧ b = 0 ∧ IndexGood s)
  found : s.enc.indexFound = true
  fresh : s.enc.lastBoundary ≠ some b
  capture : s.enc.curCap = some prev
  period : period = min (s.now - prev).toNat 1048575

/-- No timer ends with the next reference tick, the stall deadline is not at it, and the cadence is not due. -/
structure NoneDue (s : State) : Prop where
  stall : s.drum.stallDeadline ≠ some (s.now + 1)
  drum : ∀ n ∈ [s.drum.spinupTimer, s.drum.rampTimer, s.drum.brakingTimer, s.drum.silenceTimer], n ≠ some 0 ∧ n ≠ some 1
  optics : ∀ n ∈ [s.lamp.warmTimer, s.head.stepTimer, s.sender.stageTimer, s.pics.receiptTimer], n ≠ some 0 ∧ n ≠ some 1
  lines : ∀ p, ∀ n ∈ [(s.port p).loopTimer, (s.port p).breakTimer], n ≠ some 0 ∧ n ≠ some 1
  turn : ∀ p, (s.port p).turn ≠ .running 0 ∧ (s.port p).turn ≠ .running 1
  slips : ∀ n ∈ [s.slips.dotTimer, s.slips.coolTimer, s.slips.paperTimer], n ≠ some 0 ∧ n ≠ some 1
  cadence : s.sender.cadenceOn = true → s.sender.acc + samplesPerRev s < revTicks s

/-- The scanner takes nothing from the command: it does not run, nor wait for the index pulse that comes (R39, R40). -/
def Unscanned (c : Instr) (s : State) : Prop := s.scan.state ≠ .running ∧ (c = .indexPulse → s.scan.state ≠ .armed)

/-- A good index pulse comes, of an attempt that it does not end: the drum turns in TRACKING or LOCKED, and boundary 0 was
the last one taken, or its window is neither too fast nor the 32nd unlocked one (R2, R11, R12). -/
structure QuietIndex (s : State) : Prop where
  attempt : attemptInProgress s = true
  turns : s.drum.state = .tracking ∨ s.drum.state = .locked
  good : IndexGood s
  window : s.enc.lastBoundary = some 0 ∨ ∃ prev, s.enc.curCap = some prev ∧
    (standardInForce s).w ≤ 2 * min (s.now - prev).toNat 1048575 ∧ s.drum.unlocked < 31

/-- W_ref after the update that closes the revolution: the mean of its white-patch readings at the first update of a run, a
quarter of the way to it later, unchanged without a reading (R43, R47). -/
def closingWhite (s : State) : Nat :=
  if s.scan.whiteCount = 0 then s.scan.wRef
  else if s.scan.whiteSet = true then (3 * s.scan.wRef + s.scan.whiteSum / s.scan.whiteCount) / 4
  else s.scan.whiteSum / s.scan.whiteCount

/-- The close of the revolution faults the lamp: its update leaves a span below 512, or it is the last phasing revolution of a
run without an update (R43, R48). -/
def Dims (s : State) : Prop :=
  (0 < s.scan.whiteCount ∧ closingWhite s < s.tables.scan.darkLevel + 512) ∨
    (s.scan.whiteCount = 0 ∧ s.scan.whiteSet = false ∧ s.scan.rev = (carryingLine s).nPhase)

/-- `t` is `s` after a FINAL or LATE slip of a slot has been requested that does not wait already: it joins the queue, or is
owed at a full one (R158); the record's slip status follows (R160). -/
structure SlipAsked (slot : Nat) (kind : SlipKind) (s t : State) : Prop where
  room : s.slips.queue.length < 8 → t.slips.queue = s.slips.queue ++ [⟨slot, kind⟩] ∧ t.slips.owed = s.slips.owed
  full : 8 ≤ s.slips.queue.length → t.slips.queue = s.slips.queue ∧
    t.slips.owed = s.slips.owed.modify slot fun o => if kind = .final then { o with final := true } else { o with late := true }
  status : slot < s.slips.owed.length → ∃ q, t.rec? slot = some q ∧
    q.slip = if s.slips.queue.length < 8 ∧ (owedOf s slot).isEmpty = true then .queued else .owed

/-- The record of a slot has entered FINISHED with this outcome and cause at this moment (R155): the finish time is the clock's
reading, the slot joins the finish order, the receipt timer is stopped, and a FINAL slip is requested. -/
structure FinishedAs (slot : Nat) (outcome : FinalOutcome) (cause : FailCause) (s t : State) : Prop where
  record : ∃ q, t.rec? slot = some q ∧ q.state = .finished ∧ q.final = some ⟨outcome, cause, clockReading s⟩
  order : t.pics.finishOrder = s.pics.finishOrder ++ [slot]
  timer : t.pics.receiptTimer = none
  slip : ⟨slot, .final⟩ ∉ waitingRequests s.slips → SlipAsked slot .final s t

/-- `t` is `s` right after its attempt has ended with outcome `o`, other than LINE (R45, R73, R93, R146): the stop tone on the
attempt's port with the outcome held, the cadence off, the scanner IDLE, the store flushed. -/
structure Ended (o : AttemptOutcome) (s t : State) : Prop where
  tone : t.sender.state = .stopTone
  held : t.sender.held = some o
  port : t.sender.port = s.sender.port
  cadence : t.sender.cadenceOn = false
  scanner : t.scan.state = .idle
  flushed : t.store.entries = [] ∧ t.store.flushed = s.store.entries.length

/-- `t` is a state right after the attempt of the record `r` of a slot, granted by `g`, has started at `s` on port `p`,
substituted or not (R52, R72, R86, R144). -/
structure Begun (slot : Nat) (r : PicRecord) (p : PortId) (substituted : Bool) (s t : State) : Prop where
  record : t.rec? slot = some { r with
    state := .sending
    attempts := r.attempts ++ [
      { number := r.attempts.length + 1, port := p, substituted := substituted
        startTime := clockReading s, endTime := none, duration := 0, outcome := none, linesSent := 0
        underruns := 0, overruns := 0, flushed := 0, indexSlips := 0, headLate := 0, lockLost := 0 }] }
  elapsed : t.pics.elapsed = 0
  unlocked : t.drum.unlocked = 0
  head : t.head.state = .scanning ∧ t.head.owed = 0
  store : t.store = { entries := [], carry := false, lastWritten := false, accepted := 0, sent := 0, flushed := 0
                      overruns := 0, underruns := 0, skewReported := false }
  sender : t.sender = { state := .startTone, port := some p, acc := 0, cadenceOn := false, lastLevel := 0, linesSent := 0
                        stageTimer := some ((lineOf s p).startTime * 100000), lineupReq := none, held := none
                        closing := none }
  port : (t.port p).activity = .carrying ∧ (t.port p).rx = rxIdle ∧ (t.port p).breakTimer = none ∧
    (t.port p).loopTimer = (if (s.port p).loopCurrent = true then none else some ((lineOf s p).lossTime * 1000))

/-- The port preferred for the next attempt of the record `r` granted by `g` (R143). -/
def preferredPort (r : PicRecord) (g : Grant) : PortId :=
  match r.attempts.getLast? with
  | none => g.port
  | some a => if g.policy = .same then a.port else a.port.other

/-- The record `r` of a slot is on drum, GRANTED by `g`, and the port `p` that R143 chooses for it is IDLE. -/
structure Waiting (slot : Nat) (r : PicRecord) (g : Grant) (p : PortId) (s : State) : Prop where
  onDrum : s.pics.onDrum = some slot
  record : s.rec? slot = some r
  grant : r.grant = some g
  state : r.state = .granted
  choice : p = (if (s.port (preferredPort r g)).cause = .none then preferredPort r g else (preferredPort r g).other)
  idle : (s.port p).cause = .none ∧ (s.port p).activity = .idle

/-- The converter of `t` is that of `s` with its next conversion started: the oldest photocell request, else the
thermistor's, else none (R49). -/
structure Passed (s t : State) : Prop where
  photo : ∀ u rest, s.conv.photoWaiting = u :: rest →
    t.conv = { current := some (.photocell u false), photoWaiting := rest, thermWaiting := s.conv.thermWaiting }
  therm : s.conv.photoWaiting = [] → s.conv.thermWaiting = true →
    t.conv = { current := some .thermistor, photoWaiting := [], thermWaiting := false }
  free : s.conv.photoWaiting = [] → s.conv.thermWaiting = false →
    t.conv = { current := none, photoWaiting := [], thermWaiting := false }

/-- A sample `k` of the revolution in progress, not its last, whose count moves P forward away from window boundaries, from
window_start and from window_end, with nothing waiting and a place in the line store (R40, R52, R53, R65). -/
structure SampleAt (s : State) (k : Nat) : Prop where
  running : s.scan.state = .running
  next : s.scan.k = k ∧ 1 ≤ k ∧ k + 1 < samplesPerRev s
  pos : s.enc.pos + 1 = k * (standardInForce s).pitch ∧ s.enc.pos + 1 < 8192
  boundary : (s.enc.pos + 1) % 512 ≠ 0
  edges : s.enc.pos + 1 ≠ s.tables.scan.windowStart ∧ s.enc.pos + 1 ≠ s.tables.scan.windowEnd
  queue : s.scan.waiting = [] ∧ s.scan.signalDue = false
  room : s.store.entries.length < 256 ∧ s.store.carry = false

/-- The order at the head of the queue is `o`, of kind `k` and of a right length, and nothing holds its execution: neither
port is REPORTING and neither receiver is in a reception (R108, R109). -/
structure HeadOrder (k : OrderKind) (o : Order) (s : State) : Prop where
  head : s.orders.head? = some o
  kind : o.kind = k
  length : lengthOk k o.payload = true
  quiet : ∀ p, (s.port p).activity ≠ .reporting ∧ (s.port p).rx.state = .hunting

/-- The order `o` has left the queue and its answer `r` stands in place of its reservation, if it has one (R78, R109). -/
structure Answered (o : Order) (r : Report) (s t : State) : Prop where
  queue : t.orders = s.orders.tail
  list : (t.port o.port).list =
    if o.broadcast = false ∧ o.reserved = true then replaceReservation r (s.port o.port).list
    else (s.port o.port).list
  other : (t.port o.port.other).list = (s.port o.port.other).list

/-- The order `o` is answered with a REFUSE of reason `r` and nothing else happens (R109, R116). -/
structure Refused (o : Order) (r : Reason) (s t : State) : Prop where
  answer : Answered o ⟨.refuse, o.tag, [o.tag, o.kind.code, BitVec.ofNat 8 r.code]⟩ s t
  frame : Only [.orders, .portA, .portB, .panel] s t

/-- The ACK of an order, with its flags: bit 0 clamped, bit 1 truncated (R115; 11, section 11.2). -/
def ackOf (o : Order) (flags : Byte) : Report := ⟨.ack, o.tag, [o.tag, o.kind.code, flags]⟩

/-- A panel record of kind `k` is refused with notice `n`, which waits for the transmitter or is on its way, and nothing
else happens (R172). -/
structure Noticed (k : PanelKind) (n : Notice) (s t : State) : Prop where
  told : t.panel.notice = some (k, n) ∨ t.panel.tx = some (.notice k n)
  frame : Only [.panel] s t

/-- A port that hears a good block: decoding, its receiver just past the preamble (R100). -/
structure Hearing (p : PortId) (s : State) : Prop where
  decodes : (s.port p).activity = .idle ∨ (s.port p).activity = .answerDue
  syncing : (s.port p).rx.state = .syncing
  fresh : (s.port p).rx.bytes = []

/-- `t` is `s` with a report formed at once on the list of port `p`, whose reception has ended (R78, R79, R106). -/
structure AtOnce (p : PortId) (r : Report) (s t : State) : Prop where
  port : t.port p = { s.port p with
    list := (s.port p).list ++ [.report r], activity := .answerDue, rx := rxIdle, turn := .running 20000 }
  frame : Only [portPart p, .panel] s t

/-- `t` is `s` right after entry to CUTOFF with fault `f`: the bridge OFF, both duties 0, the timers stopped, the SPIN latch
clear, the head in FAULT where it stood (R15, R57). -/
structure CutOff (f : DrumFault) (s t : State) : Prop where
  state : t.drum.state = .cutoff
  bridge : t.drum.mode = .off
  duties : t.drum.pendingDuty = 0 ∧ t.drum.activeDuty = 0
  timers : t.drum.stallDeadline = none ∧ t.drum.spinupTimer = none ∧ t.drum.rampTimer = none ∧
    t.drum.brakingTimer = none
  latch : t.drum.spinLatch = false
  fault : t.drum.lastFault = f
  unlocked : t.drum.unlocked = 0
  head : t.head.state = .fault ∧ t.head.owed = 0 ∧ t.head.stepTimer = none ∧ t.head.pos = s.head.pos

end Sys2Proof.Machine
end

