-- ==== Sys2Proof/Certificates/Slice0/Obligations.lean ====
section
/-! DEFINITION. The statements for the provers. Where a statement says `∃ t, exec c s = .next t ∧ …` under hypotheses on the
state alone, it also says that the command completes there. `Only ps s t` says that `t` keeps every part of `s` but those
listed. Everywhere a command that a timer's expiry stands for acts while that timer runs (log 3), an order command executes
the order at the head of the queue (log 6), and an event ends with the evaluations of the other blocks, the start of an
attempt or a line-up last (log 29, log 5): these are the model's readings. -/

open Sys2Proof Sys2Proof.Machine

/-! ### The block as a whole -/

/-- A step with a command at the front of the queue is that command's effect on the state with the queue's rest (log 1). -/
def Obligations.StepRunsFrontCommand : Prop :=
  ∀ (c : Instr) (rest : List Instr) (s : State),
    step { s with pending := c :: rest } = exec c { s with pending := rest }

/-- Every command completes in every state, leaves the queue of waiting commands alone, and changes only the parts listed for
it in `partsOf` (log 30, log 1). -/
def Obligations.EveryCommandCompletes : Prop :=
  ∀ (c : Instr) (s : State), ∃ t, exec c s = .next t ∧ t.pending = s.pending ∧ Only (partsOf c) s t

/-- Every step keeps the counters, tables, records and queues within the ranges of the rules (`Ranges`). -/
def Obligations.StepKeepsRanges : Prop :=
  ∀ s t : State, Ranges s → step s = .next t → Ranges t

/-- Every step keeps what ties the blocks of an attempt together, the line store's law (R64) among it. -/
def Obligations.StepKeepsLinks : Prop :=
  ∀ s t : State, Links s → step s = .next t → Links t

/-- Every step keeps what the blocks stand on beside their ranges and links (`Footing`): the captures of a turning drum (R4,
R10), its duties within duty_min..duty_max (R20), the lock counters (R31), the unlocked-window count (R12), the revolution
and the sample of a running scanner (R38, R43), its waiting entries (R42, R44), the head's travel (R54, R56), the port of
the attempt in progress (R136), a waiting line-up request (R97). -/
def Obligations.StepKeepsFooting : Prop :=
  ∀ s t : State, Ranges s → Links s → Footing s → step s = .next t → Footing t

/-- Every step keeps what ties the picture table and the slip unit (`Filed`): only the on-drum record is GRANTED, SENDING or
AWAITING (R136), the finish order holds each FINISHED slot once (R137), a record holds each receiver code once (R149), a
FINISHED record's slip status is OWED, QUEUED or PRINTED (R156, R160), a slip is owed only at a full queue (R159). -/
def Obligations.StepKeepsFiled : Prop :=
  ∀ s t : State, Ranges s → Filed s → step s = .next t → Filed t

/-- Every step leaves nothing undone that a rule makes happen within its event (`Settled`): the drum follows demand (R8, R14),
the lamp its own (R46), a parked head positions for a GRANTED record (R51), an attempt and a line-up that can start have
started (R97, R142), a report that is due is on the line unless an eligible order is to be executed first (R79, R108, log 35). -/
def Obligations.NothingLeftDue : Prop :=
  ∀ s t : State, Settled s → step s = .next t → Settled t

/-- The state after power-on meets the invariants, and holds the values the spec gives (R18, R34, R45, R46, R58, R75, R77, R113,
R120, R136, R168, R177). That the invariants hold there also rests on the values of log 8 and log 9. -/
def Obligations.ResetMeetsInvariants : Prop :=
  (Ranges State.reset ∧ Links State.reset ∧ Footing State.reset ∧ Filed State.reset ∧ Settled State.reset) ∧
  (State.reset.drum.state = .stopped ∧ State.reset.drum.mode = .off ∧ State.reset.drum.pendingDuty = 0 ∧
   State.reset.drum.activeDuty = 0 ∧ State.reset.drum.cycleLen = 1024 ∧ State.reset.drum.spinLatch = false ∧
   State.reset.drum.lastFault = .none ∧ State.reset.enc.indexFound = false ∧ State.reset.reg.integ = 0 ∧
   State.reset.reg.memory = .neither ∧ State.reset.scan.state = .idle ∧ State.reset.scan.wRef = 0 ∧
   State.reset.lamp.state = .off ∧ State.reset.conv.current = none ∧ State.reset.head.state = .fault ∧
   State.reset.head.pos = 0 ∧ State.reset.store.entries = [] ∧ State.reset.sender.state = .free ∧
   (∀ p, (State.reset.port p).activity = .idle ∧ (State.reset.port p).cause = .none ∧
     (State.reset.port p).list = [] ∧ (State.reset.port p).rx.state = .hunting) ∧
   State.reset.orders = [] ∧ State.reset.tables.counts = List.replicate 9 0 ∧
   (∀ r ∈ State.reset.pics.records, r.state = .empty) ∧ State.reset.pics.nextSerial = 1 ∧
   State.reset.slips.queue = [] ∧ State.reset.panel.tx = none ∧ State.reset.panel.changed = true ∧
   State.reset.clock.isSet = false)

/-- A change of anything a STATE record shows, with a record on its way to the panel, leaves the state-changed mark set,
so that a STATE follows (R172): for every command but those that end that record's sending or power the part on. -/
def Obligations.ShownChangeSetsMark : Prop :=
  ∀ (c : Instr) (s t : State), c ≠ .panelRecordSent → (∀ a b x, c ≠ .powerOn a b x) → s.panel.tx ≠ none →
    exec c s = .next t → stateRecord t ≠ stateRecord s → t.panel.changed = true

/-! ### Encoder counter, drum drive, speed regulator (01, 02) -/

/-- A quadrature edge away from the scanner's samples and the window boundaries moves P by one around 0..8,191 and steps or
clears the reverse run, and nothing but the counter changes (R1); a reverse count that brings the run to 32 in SPINUP,
TRACKING or LOCKED puts the drum in CUTOFF with REVERSE (R1, R15). -/
def Obligations.EncoderCounts : Prop :=
  (∀ s : State, s.enc.pos ≤ 8191 → s.scan.state ≠ .running →
    (s.enc.indexFound = false ∨ (s.enc.pos + 1) % 512 ≠ 0 ∨ s.enc.pos = 8191) →
    ∃ t, exec (.encoderCount .forward) s = .next t ∧ Only [.enc, .panel] s t ∧
      t.enc = { s.enc with pos := (s.enc.pos + 1) % 8192, reverseRun := 0 }) ∧
  (∀ s : State, s.enc.pos ≤ 8191 →
    (s.enc.reverseRun ≠ 31 ∨ s.drum.state = .stopped ∨ s.drum.state = .braking ∨ s.drum.state = .cutoff) →
    ∃ t, exec (.encoderCount .reverse) s = .next t ∧ Only [.enc, .panel] s t ∧
      t.enc = { s.enc with pos := (s.enc.pos + 8191) % 8192, reverseRun := satInc 255 s.enc.reverseRun }) ∧
  (∀ s : State, s.enc.reverseRun = 31 →
    (s.drum.state = .spinup ∨ s.drum.state = .tracking ∨ s.drum.state = .locked) →
    ∃ t, exec (.encoderCount .reverse) s = .next t ∧ t.drum.state = .cutoff ∧ t.drum.lastFault = .reverse ∧
      t.enc.reverseRun = 32)

/-- An index pulse with the drum at rest or in CUTOFF, the scanner not waiting for it and no attempt in progress: P is 0, the
deviation is judged against index_tol, the third slip in a row loses the index and the captures, and boundary 0 is
captured unless it was the last one (R2, R4).
At the third slip in a row a turning drum goes to CUTOFF with ENCODER (R2, R15). Every slip of an attempt is counted in its
record (R2, R145). -/
def Obligations.IndexPulseChecks : Prop :=
  (∀ s : State, (s.drum.state = .stopped ∨ s.drum.state = .cutoff) → (s.scan.state = .idle ∨ s.scan.state = .finished) →
     attemptInProgress s = false →
     let good := (if s.enc.pos < 4096 then s.enc.pos else 8192 - s.enc.pos) ≤ s.tables.drum.indexTol
     let slips := s.enc.slipRun + 1
     ∃ t, exec .indexPulse s = .next t ∧ Only [.enc, .panel] s t ∧ t.enc.pos = 0 ∧
       (s.enc.indexFound = false → t.enc.indexFound = true ∧ t.enc.slipRun = 0) ∧
       (s.enc.indexFound = true → s.enc.pos ≤ 8191 → good → t.enc.indexFound = true ∧ t.enc.slipRun = 0) ∧
       (s.enc.indexFound = true → s.enc.pos ≤ 8191 → ¬ good → slips < 3 →
         t.enc.indexFound = true ∧ t.enc.slipRun = slips) ∧
       (s.enc.indexFound = true → s.enc.pos ≤ 8191 → ¬ good → 3 ≤ slips →
         t.enc.indexFound = false ∧ t.enc.slipRun = 0 ∧ t.enc.curCap = none ∧ t.enc.prevCap = none ∧
           t.enc.lastBoundary = none) ∧
       (t.enc.indexFound = true → s.enc.lastBoundary ≠ some 0 →
         t.enc.curCap = some s.now ∧ t.enc.prevCap = s.enc.curCap ∧ t.enc.lastBoundary = some 0) ∧
       (t.enc.indexFound = true → s.enc.lastBoundary = some 0 →
         t.enc.curCap = s.enc.curCap ∧ t.enc.prevCap = s.enc.prevCap ∧ t.enc.lastBoundary = some 0)) ∧
  (∀ s : State,
     (s.drum.state = .spinup ∨ s.drum.state = .tracking ∨ s.drum.state = .locked ∨ s.drum.state = .braking) →
     s.enc.indexFound = true → s.enc.pos ≤ 8191 → ¬ IndexGood s → 2 ≤ s.enc.slipRun →
     ∃ t, exec .indexPulse s = .next t ∧ t.drum.state = .cutoff ∧ t.drum.lastFault = .encoder ∧ t.enc.pos = 0 ∧
       t.enc.indexFound = false ∧ t.enc.slipRun = 0 ∧ t.enc.curCap = none ∧ t.enc.prevCap = none ∧
       t.enc.lastBoundary = none) ∧
  (∀ (s : State) (slot : Nat) (r : PicRecord) (a : Attempt), s.pics.onDrum = some slot → s.rec? slot = some r →
     r.state = .sending → r.attempts.getLast? = some a → s.enc.indexFound = true → s.enc.pos ≤ 8191 →
     ∃ t, exec .indexPulse s = .next t ∧
       (¬ IndexGood s → (t.rec? slot).bind (fun r => r.attempts.getLast?.map (·.indexSlips)) =
         some (satInc 65535 a.indexSlips)) ∧
       (IndexGood s → (t.rec? slot).bind (fun r => r.attempts.getLast?.map (·.indexSlips)) = some a.indexSlips))

/-- A window event in TRACKING or LOCKED that is not too fast is regulated: integrator, saturation memory and pending duty by
the stages of R25 to R30 (R11); an attempt in progress that it does not end goes on. With demand the stall deadline is 4W on
(R21), and the event steps the lock: TRACKING locks when lock_count windows in a row lie within lock_band, LOCKED is left at
the second window in a row beyond unlock_band (R11, R31). With no attempt in progress and none about to start, it changes
nothing else. Where a sample falls on the same count or index, that the error is taken with the fill before it is the
model's choice (log 7; R24 leaves the order open). -/
def Obligations.WindowEventRegulates : Prop :=
  ∀ (c : Instr) (s : State) (b : Nat) (prev : Tick) (period : Nat), WindowAt c s b prev period →
    (s.drum.state = .tracking ∨ s.drum.state = .locked) → (standardInForce s).w ≤ 2 * period →
    let p := s.tables.drum
    let e := clampedError (eRawOf period s)
    let i := integrate s.reg.memory s.reg.integ e
    let raw := ((standardInForce s).dff : Int) + correction p e i
    let far := (eRawOf period s).natAbs
    ∃ t, exec c s = .next t ∧ t.enc.curCap = some s.now ∧ t.enc.prevCap = some prev ∧ t.enc.lastBoundary = some b ∧
      (Unscanned c s → s.drum.unlocked < 31 → attemptInProgress s = true → attemptInProgress t = true) ∧
      ((attemptInProgress s = true → attemptInProgress t = true) →
        t.reg.integ = i ∧ t.reg.memory = memoryAfter p raw ∧ t.drum.pendingDuty = dutyWritten p raw ∧
        (demand s = true →
          t.drum.stallDeadline = some (s.now + BitVec.ofNat 32 (4 * (standardInForce s).w)) ∧
          (s.drum.state = .tracking → s.reg.lockCount < 255 →
            (p.lockBand < far → 1 ≤ p.lockCount → t.drum.state = .tracking ∧ t.reg.lockCount = 0) ∧
            (far ≤ p.lockBand → s.reg.lockCount + 1 < p.lockCount →
              t.drum.state = .tracking ∧ t.reg.lockCount = s.reg.lockCount + 1) ∧
            (far ≤ p.lockBand → p.lockCount ≤ s.reg.lockCount + 1 →
              t.drum.state = .locked ∧ t.reg.lockCount = 0 ∧ t.reg.unlockCount = 0)) ∧
          (s.drum.state = .locked →
            (far ≤ p.unlockBand → t.drum.state = .locked ∧ t.reg.unlockCount = 0) ∧
            (p.unlockBand < far → s.reg.unlockCount = 0 → t.drum.state = .locked ∧ t.reg.unlockCount = 1) ∧
            (p.unlockBand < far → 1 ≤ s.reg.unlockCount →
              t.drum.state = .tracking ∧ t.reg.lockCount = 0 ∧ t.reg.unlockCount = 0)))) ∧
      (Unscanned c s → demand s = true → attemptInProgress s = false →
        attemptReady (s.setDrum { s.drum with state := .locked }) = false → Only [.enc, .drum, .reg, .panel] s t)

/-- In SPINUP a window event with a period of at most 2W starts TRACKING with the regulator cleared, and a longer one changes
the captures alone (R10, R32); in TRACKING and LOCKED a period below W/2 puts the drum in CUTOFF with OVERSPEED (R11,
R15), whatever sample falls on the same count or index (the drum's part first, the model's choice: log 7). -/
def Obligations.WindowEventsAtTheEdges : Prop :=
  ∀ (c : Instr) (s : State) (b : Nat) (prev : Tick) (period : Nat), WindowAt c s b prev period →
    (s.drum.state = .spinup → Unscanned c s → demand s = true → period ≤ 2 * (standardInForce s).w →
      ∃ t, exec c s = .next t ∧ Only [.enc, .drum, .reg, .panel] s t ∧
        t.drum.state = .tracking ∧ t.drum.spinupTimer = none ∧ t.drum.pendingDuty = s.drum.pendingDuty ∧
        t.drum.stallDeadline = some (s.now + BitVec.ofNat 32 (4 * (standardInForce s).w)) ∧
        t.reg = { integ := 0, memory := .neither, lockCount := 0, unlockCount := 0 }) ∧
    (s.drum.state = .spinup → Unscanned c s → 2 * (standardInForce s).w < period →
      ∃ t, exec c s = .next t ∧ Only [.enc, .panel] s t ∧ t.enc.curCap = some s.now ∧ t.enc.prevCap = some prev) ∧
    ((s.drum.state = .tracking ∨ s.drum.state = .locked) → 2 * period < (standardInForce s).w →
      ∃ t, exec c s = .next t ∧ t.drum.state = .cutoff ∧ t.drum.lastFault = .overspeed)

/-- The unlocked windows of an attempt (R12): a regulated window event that leaves the drum in TRACKING is counted by the drive
and as a lock-lost window of the attempt's record (R145), and the 32nd ends the attempt with DRUM, the drum braking unless
the SPIN latch holds it (R14); one that locks the drum clears the count, and one that leaves it in LOCKED keeps it. -/
def Obligations.UnlockedWindows : Prop :=
  ∀ (c : Instr) (s : State) (b : Nat) (prev : Tick) (period slot : Nat) (r : PicRecord) (a : Attempt), Links s →
    WindowAt c s b prev period → Unscanned c s → (s.drum.state = .tracking ∨ s.drum.state = .locked) →
    (standardInForce s).w ≤ 2 * period → s.pics.onDrum = some slot → s.rec? slot = some r → r.state = .sending →
    r.attempts.getLast? = some a →
    let p := s.tables.drum
    let far := (eRawOf period s).natAbs
    let count := if far ≤ p.lockBand then satInc 255 s.reg.lockCount else 0
    let stays := (s.drum.state = .tracking ∧ count < p.lockCount) ∨
      (s.drum.state = .locked ∧ p.unlockBand < far ∧ 1 ≤ s.reg.unlockCount)
    ∃ t, exec c s = .next t ∧
      (stays → (t.rec? slot).bind (fun r => r.attempts.getLast?.map (·.lockLost)) = some (satInc 65535 a.lockLost)) ∧
      (stays → s.drum.unlocked < 31 → t.drum.state = .tracking ∧ t.drum.unlocked = s.drum.unlocked + 1 ∧
        attemptInProgress t = true) ∧
      (stays → 31 ≤ s.drum.unlocked → Ended .drum s t ∧ FinishedAs slot .failed .drum s t ∧
        t.drum.state = if s.drum.spinLatch = true then .tracking else .braking) ∧
      (¬ stays → t.drum.state = .locked ∧ t.pics = s.pics ∧ (s.drum.state = .tracking → t.drum.unlocked = 0) ∧
        (s.drum.state = .locked → t.drum.unlocked = s.drum.unlocked))

/-- Stages 1 to 4 (R25 to R28): the trim is 0 while the cadence is not running, else its quotient rounded toward zero
and held within ±TL; e_raw is the period less W + T, and e is e_raw within ±8,191; the integrator is held by its memory and
clamped; the correction is the floor of its quotient.
The duty written lies between duty_min and duty_max, and is the sum of D_FF and the correction where that lies there
(R29). The saturation memory is HIGH at duty_max and above, else LOW at duty_min and below, else NEITHER (R30). -/
def Obligations.RegulatorStages : Prop :=
  ((∀ s : State, cadenceRunning s = true ↔
     s.sender.state = .phasing ∨ s.sender.state = .picture ∨ s.sender.state = .drain) ∧
   (∀ (fill : Nat) (p : DrumProfile), trim false fill p = 0 ∧
     (trim true fill p).natAbs = min p.tl ((((fill : Int) - 128) * p.g).natAbs / 16) ∧
     (128 ≤ fill → 0 ≤ trim true fill p) ∧ (fill ≤ 128 → trim true fill p ≤ 0)) ∧
   (∀ (s : State) (period : Nat), eRawOf period s + ((standardInForce s).w : Int) +
     trim (cadenceRunning s) s.store.entries.length s.tables.drum = period) ∧
   (∀ eRaw : Int, clampedError eRaw = max (-8191) (min 8191 eRaw)) ∧
   (∀ i e : Int, integrate .high i e = (if 0 ≤ e then i else max (-524287) (min 524287 (i + e))) ∧
     integrate .low i e = (if e ≤ 0 then i else max (-524287) (min 524287 (i + e))) ∧
     integrate .neither i e = (if e = 0 then i else max (-524287) (min 524287 (i + e)))) ∧
   (∀ (p : DrumProfile) (e i : Int),
     4096 * correction p e i ≤ 64 * p.kp * e + p.ki * i ∧ 64 * p.kp * e + p.ki * i < 4096 * correction p e i + 4096)) ∧
  (∀ (p : DrumProfile) (raw : Int), p.dutyMin ≤ p.dutyMax →
     p.dutyMin ≤ dutyWritten p raw ∧ dutyWritten p raw ≤ p.dutyMax ∧
       ((p.dutyMin : Int) ≤ raw → raw ≤ p.dutyMax → (dutyWritten p raw : Int) = raw)) ∧
  (∀ (p : DrumProfile) (raw : Int), ((p.dutyMax : Int) ≤ raw → memoryAfter p raw = .high) ∧
     (raw < p.dutyMax → raw ≤ p.dutyMin → memoryAfter p raw = .low) ∧
     (raw < p.dutyMax → (p.dutyMin : Int) < raw → memoryAfter p raw = .neither))

/-- A change of standard in force while TRACKING or LOCKED (R7, R13, R33): a GRANT under the SPIN latch of another standard
puts the drum in TRACKING, clears the integrator and both lock counters, and keeps the saturation memory, the duty and the
stall deadline; one of the same standard leaves the drive and the regulator as they were. In BRAKING the change of standard
has no effect on the regulator, and on the drive none but the demand that the grant brings, by which it spins up (R8, R14). -/
def Obligations.StandardChangeRelocks : Prop :=
  ∀ (s : State) (o : Order) (slot : Nat) (r : PicRecord), HeadOrder .grant o s →
    let n := wordAt o.payload 0
    let q := portOfByte (o.payload.getD 2 0)
    let k := byteAt o.payload 3
    1 ≤ n → n ≤ 9999 → k ≤ 3 → 1 ≤ byteAt o.payload 4 → byteAt o.payload 4 ≤ 3 → byteAt o.payload 5 ≤ 1 →
    1 ≤ byteAt o.payload 6 → s.pics.onDrum = some slot → s.rec? slot = some r → r.state = .loaded →
    (∀ x ∈ s.pics.records, x.number = some n → x.state = .empty) → (s.port q).cause = .none →
    s.tables.scan.startOffset + r.lines * s.tables.scan.stepsPerLine ≤ s.tables.scan.travelLimit →
    let same := standardNumber s = k
    ((s.drum.state = .tracking ∨ s.drum.state = .locked) → s.drum.spinLatch = true → s.lamp.state ≠ .warm →
      ∃ t, exec .grant s = .next t ∧ Answered o (ackOf o 0) s t ∧
        (¬ same → t.drum = { s.drum with state := .tracking } ∧
          t.reg = { s.reg with integ := 0, lockCount := 0, unlockCount := 0 }) ∧
        (same → t.drum = s.drum ∧ t.reg = s.reg)) ∧
    (s.drum.state = .braking → s.drum.spinLatch = false →
      ∃ t, exec .grant s = .next t ∧ Answered o (ackOf o 0) s t ∧ t.reg = s.reg ∧ t.drum = { s.drum with
        state := .spinup, pendingDuty := s.tables.drum.dutyMin, activeDuty := s.tables.drum.dutyMin
        modeReq := some .drive, spinupTimer := some (s.tables.drum.spinupLimit * 100000), rampTimer := some 10000
        brakingTimer := none, silenceTimer := none })

/-- A ramp tick in SPINUP moves the pending duty toward D_FF, clamped to the duty range, by ramp_step and not past it (R9).
At a cycle end the active duty takes the pending duty and a requested bridge mode takes effect (R19, R20); that the duty is
transferred in BRAKING and OFF too is the model's reading of R20 (log 27).
The bridge gates are never on together, and both are off with the bridge OFF (R19). -/
def Obligations.DutyReachesTheBridge : Prop :=
  (∀ s : State, s.drum.state = .spinup → s.drum.rampTimer.isSome = true → s.tables.drum.dutyMin ≤ s.tables.drum.dutyMax →
     let p := s.tables.drum
     let target := max p.dutyMin (min p.dutyMax (standardInForce s).dff)
     ∃ t, exec .rampTick s = .next t ∧ Only [.drum] s t ∧ t.drum.rampTimer = some 10000 ∧
       (s.drum.pendingDuty ≤ target → t.drum.pendingDuty = min target (s.drum.pendingDuty + p.rampStep)) ∧
       (target ≤ s.drum.pendingDuty → t.drum.pendingDuty = max target (s.drum.pendingDuty - p.rampStep))) ∧
  (∀ s : State, ∃ t, exec .cycleEnd s = .next t ∧ Only [.drum] s t ∧
     t.drum = { s.drum with
       activeDuty := s.drum.pendingDuty, mode := s.drum.modeReq.getD s.drum.mode, modeReq := none, cycleCount := 0 }) ∧
  (∀ (s : State) (c : Nat), ¬ (highGate s c = true ∧ lowGate s c = true) ∧
     (s.drum.mode = .off → highGate s c = false ∧ lowGate s c = false))

/-- The spin-up timer's expiry in SPINUP, the stall deadline in TRACKING and LOCKED, and the cover's opening outside STOPPED
and CUTOFF each put the drum in CUTOFF (R10, R15, R16, R21).
The cover's opening in STOPPED and CUTOFF, and its closing in CUTOFF and in STOPPED without demand, change the level
alone (R16); in STOPPED with demand and no pending profile the closing starts the drum (R8, R9). -/
def Obligations.CoverAndDrumFaults : Prop :=
  (∀ s : State, attemptInProgress s = false →
     (s.drum.state = .spinup → s.drum.spinupTimer.isSome = true → ∃ t, exec .spinupTimerExpiry s = .next t ∧
       CutOff .stall s t ∧ Only [.drum, .head, .lamp, .panel] s t) ∧
     ((s.drum.state = .tracking ∨ s.drum.state = .locked) → s.drum.stallDeadline.isSome = true →
       ∃ t, exec .stallDeadline s = .next t ∧ CutOff .stall s t ∧ Only [.drum, .head, .lamp, .panel] s t) ∧
     (s.drum.state ≠ .stopped → s.drum.state ≠ .cutoff →
       ∃ t, exec (.coverChange false) s = .next t ∧ CutOff .cover s t ∧ t.pins.coverClosed = false ∧
         Only [.drum, .head, .lamp, .pins, .panel] s t)) ∧
  ((∀ s : State, s.drum.state = .stopped ∨ s.drum.state = .cutoff →
     ∃ t, exec (.coverChange false) s = .next t ∧ Only [.pins, .panel] s t ∧
       t.pins = { s.pins with coverClosed := false }) ∧
   (∀ s : State, s.drum.state = .cutoff ∨ (s.drum.state = .stopped ∧ demand s = false) →
     ∃ t, exec (.coverChange true) s = .next t ∧ Only [.pins, .panel] s t ∧
       t.pins = { s.pins with coverClosed := true }) ∧
   (∀ s : State, s.drum.state = .stopped → demand s = true → s.pins.coverClosed = false → s.tables.drumPending = none →
     ∃ t, exec (.coverChange true) s = .next t ∧ t.drum.state = .spinup ∧ t.drum.modeReq = some .drive ∧
       t.drum.pendingDuty = s.tables.drum.dutyMin ∧ t.drum.activeDuty = s.tables.drum.dutyMin ∧
       t.drum.spinupTimer = some (s.tables.drum.spinupLimit * 100000) ∧ t.drum.rampTimer = some 10000 ∧
       t.enc.reverseRun = 0))

/-- A drum fault in TRACKING or LOCKED during an attempt, STALL, REVERSE, ENCODER, OVERSPEED or COVER, puts the drum in CUTOFF
and ends the attempt with DRUM: the sender goes to its stop tone, the scanner to IDLE, the store is flushed, the record is
FINISHED FAILED (R15, R93, R146, R147). Lost lock (R12) has its own statement. Where the scanner takes the same count or
index, that the drum's part comes first, so that the entry it would give is not flushed and the outcome is DRUM, is the
model's choice (log 7).
A step past travel_limit is not made and faults the head (R54, R57): in SCANNING it ends the attempt with HEAD (R146, R147),
in POSITIONING it leaves the record as it was. -/
def Obligations.FaultsEndAttempts : Prop :=
  (∀ (s : State) (c : Instr) (f : DrumFault) (b : Nat) (prev : Tick) (period slot : Nat), Links s →
     s.pics.onDrum = some slot → onDrumState s = .sending → (s.drum.state = .tracking ∨ s.drum.state = .locked) →
     (c = .stallDeadline ∧ f = .stall ∧ s.drum.stallDeadline.isSome = true) ∨
       (c = .encoderCount .reverse ∧ f = .reverse ∧ s.enc.reverseRun = 31) ∨
       (c = .indexPulse ∧ f = .encoder ∧ s.enc.indexFound = true ∧ s.enc.pos ≤ 8191 ∧ ¬ IndexGood s ∧
         2 ≤ s.enc.slipRun) ∨
       (f = .overspeed ∧ WindowAt c s b prev period ∧ 2 * period < (standardInForce s).w) ∨
       (c = .coverChange false ∧ f = .cover) →
     ∃ t, exec c s = .next t ∧ t.drum.state = .cutoff ∧ t.drum.lastFault = f ∧ t.head.state = .fault ∧
       Ended .drum s t ∧ FinishedAs slot .failed .drum s t) ∧
  (∀ (s : State) (slot : Nat), s.head.stepTimer.isSome = true → s.tables.scan.travelLimit < s.head.pos + 1 →
     (s.head.state = .scanning → 1 ≤ s.head.owed → Links s → s.pics.onDrum = some slot → onDrumState s = .sending →
       ∃ t, exec .stepTimerExpiry s = .next t ∧ t.head.state = .fault ∧ t.head.pos = s.head.pos ∧ t.head.owed = 0 ∧
         Ended .head s t ∧ FinishedAs slot .failed .head s t) ∧
     (s.head.state = .positioning → attemptInProgress s = false →
       ∃ t, exec .stepTimerExpiry s = .next t ∧ Only [.head, .lamp, .panel] s t ∧
         t.head = { s.head with state := .fault, owed := 0, stepTimer := none }))

/-- With no demand, the braking timer's and the window silence timer's expiry put the drum in STOPPED with the bridge OFF, and
a pending drum profile comes into force with its cycle length (R8, R14). A window event in BRAKING restarts the window
silence timer at 10 times the braking W, or with a longer period than that puts the drum in STOPPED (R14). -/
def Obligations.BrakingEndsInStopped : Prop :=
  (∀ s : State, s.drum.state = .braking → demand s = false →
     (s.drum.brakingTimer.isSome = true → ∃ t, exec .brakingTimerExpiry s = .next t ∧
       t.drum.state = .stopped ∧ t.drum.mode = .off ∧ t.drum.silenceTimer = none ∧ Only [.drum, .tables, .panel] s t ∧
       ∀ p, s.tables.drumPending = some p →
         t.tables.drum = p ∧ t.tables.drumPending = none ∧ t.drum.cycleLen = 2 ^ p.cycleExp) ∧
     (s.drum.silenceTimer.isSome = true → ∃ t, exec .windowSilenceTimerExpiry s = .next t ∧
       t.drum.state = .stopped ∧ t.drum.mode = .off ∧ t.drum.brakingTimer = none ∧ Only [.drum, .tables, .panel] s t ∧
       ∀ p, s.tables.drumPending = some p →
         t.tables.drum = p ∧ t.tables.drumPending = none ∧ t.drum.cycleLen = 2 ^ p.cycleExp)) ∧
  (∀ (c : Instr) (s : State) (b : Nat) (prev : Tick) (period : Nat), WindowAt c s b prev period → Unscanned c s →
    s.drum.state = .braking → demand s = false →
    (period ≤ 10 * s.drum.brakingW → ∃ t, exec c s = .next t ∧ Only [.enc, .drum, .panel] s t ∧
      t.drum = { s.drum with silenceTimer := some (10 * s.drum.brakingW) } ∧ t.enc.lastBoundary = some b) ∧
    (10 * s.drum.brakingW < period → ∃ t, exec c s = .next t ∧ Only [.enc, .drum, .tables, .panel] s t ∧
      t.drum.state = .stopped ∧ t.drum.mode = .off ∧ t.drum.brakingTimer = none ∧ t.drum.silenceTimer = none))

/-! ### Scanner, converter, tone path, lamp, head (03, 04) -/

/-- A completed conversion goes to its requester and the next one starts (R49): a discarded result goes nowhere (R50); a
white-patch reading joins the sum of the revolution (R47) and makes its entry ready, a PICTURE reading passes the tone path
and gives its entry the level (R42, R60). The entry is offered to the line store, and after it those behind it that are
ready, up to the next one that waits for a conversion of its own (R42); an offer that brings the fill to 128 in PREFILL
starts the cadence (R88).
An entry offered to a store with a place joins its tail, with the carried mark placed on it; a full store counts an
overrun and keeps a mark it lost (R65, R66, R67). -/
def Obligations.ConversionGoesOut : Prop :=
  (∀ (s : State) (r : BitVec 12),
     (∀ use, s.conv.current = some (.photocell use true) →
       ∃ t, exec (.conversionComplete r) s = .next t ∧ Only [.conv, .panel] s t ∧ Passed s t) ∧
     (∀ (e : WaitEntry) (ready stuck : List WaitEntry), s.scan.waiting = e :: ready ++ stuck →
       (∀ x ∈ ready, x.white = false ∧ x.level ≠ none) →
       (∀ x ∈ stuck.take 1, x.white = true ∨ x.level = none) → s.scan.signalDue = false →
       let offered (l : Nat) := ready.foldl (fun x w => offerEntry ⟨w.kind, w.level.getD 0, w.first⟩ x)
         (offerEntry ⟨e.kind, l, e.first⟩ s.store)
       let goes (l : Nat) (t : State) := Only [.scan, .store, .conv, .sender, .panel] s t ∧ Passed s t ∧
         t.store = offered l ∧ t.sender =
           if s.sender.state = .prefill ∧ s.sender.cadenceOn = false ∧ 128 ≤ (offered l).entries.length then
             { s.sender with cadenceOn := true, acc := 0 }
           else s.sender
       (∀ l, s.conv.current = some (.photocell .white false) → e.level = some l → e.white = true →
         s.scan.state = .running → lastSampleTaken s = false →
         ∃ t, exec (.conversionComplete r) s = .next t ∧ goes l t ∧ t.scan = { s.scan with
           whiteSum := s.scan.whiteSum + r.toNat, whiteCount := s.scan.whiteCount + 1, waiting := stuck }) ∧
       (s.conv.current = some (.photocell .picture false) → e.level = none → e.white = false →
         ∃ t, exec (.conversionComplete r) s = .next t ∧ goes (tonePath s r.toNat) t ∧
           t.scan = { s.scan with waiting := stuck }))) ∧
  (∀ (e : Entry) (x : LineStore),
     (256 ≤ x.entries.length → offerEntry e x =
       { x with overruns := satInc 65535 x.overruns, carry := x.carry || e.first }) ∧
     (x.entries.length < 256 → x.carry = false → offerEntry e x =
       { x with entries := x.entries ++ [e], accepted := satInc 4294967295 x.accepted }) ∧
     (x.entries.length < 256 → x.carry = true → offerEntry e x =
       { x with
         entries := x.entries ++ [{ e with
           first := true, kind := if e.kind = .gap ∧ e.first = false then .picture else e.kind }]
         carry := false, accepted := satInc 4294967295 x.accepted }))

/-- The tone path: the normalised reading (R61) is 0 up to the dark level, the floor of its quotient between dark and white,
4,095 from the white reference on; the tone level (R62) is the table entry itself at f = 0, between the entries it was
interpolated from always, and T[i] plus the rounded fraction d × f / 256. -/
def Obligations.TonePath : Prop :=
  (∀ r d w : Nat, d < w →
     (r ≤ d → normalise r d w = 0) ∧ (w ≤ r → normalise r d w = 4095) ∧
       (d ≤ r → r < w →
         normalise r d w * (w - d) ≤ (r - d) * 4096 ∧ (r - d) * 4096 < (normalise r d w + 1) * (w - d))) ∧
  (∀ (table : List Nat) (n : Nat),
     let lo := table.getD (n / 256) 0
     let hi := table.getD (n / 256 + 1) 0
     let f := n % 256
     min lo hi ≤ toneLevel table n ∧ toneLevel table n ≤ max lo hi ∧ (f = 0 → toneLevel table n = lo) ∧
       256 * ((toneLevel table n : Int) - lo) ≤ ((hi : Int) - lo) * f + 128 ∧
       ((hi : Int) - lo) * f + 128 < 256 * ((toneLevel table n : Int) - lo) + 256)

/-- The first index pulse in ARMED starts the run, with the drum turning and the attempt going on: revolution 1 opens with
sample 0, a phasing entry that marks the line start, and the white reference's flag and sums are cleared (R39, R41, R43). A
white patch at position 0 asks for its reading, and the entry waits for it (R41, R42). -/
def Obligations.ScannerStarts : Prop :=
  ∀ s : State, QuietIndex s → s.scan.state = .armed → s.scan.waiting = [] → s.scan.signalDue = false →
    s.store.entries.length < 127 → s.store.carry = false → 1 ≤ (carryingLine s).nPhase →
    0 < (carryingLine s).phasingWidth → 0 < s.tables.scan.whiteEnd →
    let level := if (carryingLine s).polarity = .blackOnWhite then 0 else 255
    let begun := { s.scan with
      state := .running, rev := 1, k := 1, whiteSum := 0, whiteCount := 0, whiteSet := false }
    ∃ t, exec .indexPulse s = .next t ∧ Only [.enc, .drum, .reg, .pics, .scan, .store, .conv, .panel] s t ∧
      attemptInProgress t = true ∧ t.enc.pos = 0 ∧
      (0 < s.tables.scan.whiteStart → t.conv = s.conv ∧ t.scan = begun ∧ t.store = { s.store with
        entries := s.store.entries ++ [⟨.phasing, level, true⟩], accepted := satInc 4294967295 s.store.accepted }) ∧
      (s.tables.scan.whiteStart = 0 → s.conv.current = none →
        t.conv = { s.conv with current := some (.photocell .white false) } ∧ t.store = s.store ∧
          t.scan = { begun with waiting := [⟨.phasing, some level, true, true⟩] })

/-- A count onto a sample position takes the sample (R40, R41): in a phasing revolution a PHASING entry, in a picture
revolution a PICTURE entry inside the window and a GAP entry outside it. An entry that needs a conversion, inside the window
or in the white patch, requests it and waits for it; any other is offered at once (R42). The entry that brings the fill to
128 in PREFILL starts the cadence with its accumulator at 0 (R88). -/
def Obligations.SamplesTaken : Prop :=
  ∀ (s : State) (k : Nat), SampleAt s k → s.conv.current = none →
    let p := s.enc.pos + 1
    let sc := s.tables.scan
    let lp := carryingLine s
    let white := sc.whiteStart ≤ p ∧ p < sc.whiteEnd
    let window := sc.windowStart ≤ p ∧ p < sc.windowEnd
    let phasing := s.scan.rev ≤ lp.nPhase
    let plain : Entry := if phasing then ⟨.phasing, phasingLevel lp p, false⟩ else ⟨.gap, lp.gapLevel, false⟩
    let starts := s.sender.state = .prefill ∧ s.sender.cadenceOn = false ∧ 127 ≤ s.store.entries.length
    let kept (t : State) := t.store = s.store ∧ t.sender = s.sender
    ∃ t, exec (.encoderCount .forward) s = .next t ∧ Only [.enc, .scan, .store, .conv, .sender, .panel] s t ∧
      t.enc.pos = p ∧ t.scan.k = k + 1 ∧ t.scan.state = .running ∧
      (phasing ∨ ¬ window → ¬ white → t.scan.waiting = [] ∧ t.conv = s.conv ∧ t.store = { s.store with
        entries := s.store.entries ++ [plain], accepted := satInc 4294967295 s.store.accepted } ∧
        (starts → t.sender = { s.sender with cadenceOn := true, acc := 0 }) ∧ (¬ starts → t.sender = s.sender)) ∧
      (phasing ∨ ¬ window → white → kept t ∧ t.scan.waiting = [⟨plain.kind, some plain.level, false, true⟩] ∧
        t.conv = { s.conv with current := some (.photocell .white false) }) ∧
      (¬ phasing → window → ¬ white → kept t ∧ t.scan.waiting = [⟨.picture, none, false, false⟩] ∧
        t.conv = { s.conv with current := some (.photocell .picture false) })

/-- An index pulse in RUNNING closes the revolution (R43): the white reference is updated from its white-patch readings (R47).
A span below 512, or no update by the end of the last phasing revolution, faults the lamp and ends the attempt with LAMP
(R48, R146, R147); where the same pulse starts a burst that would owe more than 255 steps (window_end 8,192), that LAMP comes
before HEAD is the model's choice (log 7, the scanner before the head; R48 leaves the order open). Otherwise, before the last revolution, the next one opens with sample 0: a phasing entry, or the
line-start entry, converted when window_start is 0; with a white patch at position 0 the entry waits for its reading (R41,
R42). -/
def Obligations.RevolutionCloses : Prop :=
  ∀ (s : State) (slot : Nat), Links s → QuietIndex s → s.scan.state = .running → s.pics.onDrum = some slot →
    let lp := carryingLine s
    let next := s.scan.rev + 1
    (Dims s → ∃ t, exec .indexPulse s = .next t ∧ t.lamp = { state := .fault, warmTimer := none } ∧
      t.scan.wRef = closingWhite s ∧ Ended .lamp s t ∧ FinishedAs slot .failed .lamp s t) ∧
    (¬ Dims s → s.scan.rev ≠ lp.nPhase + onDrumLines s → s.scan.waiting = [] → s.scan.signalDue = false →
      s.head.owed + s.tables.scan.stepsPerLine ≤ 255 → s.head.pos < s.tables.scan.travelLimit →
      ∃ t, exec .indexPulse s = .next t ∧
        Only [.enc, .drum, .reg, .pics, .scan, .store, .conv, .head, .sender, .panel] s t ∧
        attemptInProgress t = true ∧ t.scan.state = .running ∧ t.scan.rev = next ∧ t.scan.k = 1 ∧
        t.scan.whiteSum = 0 ∧ t.scan.whiteCount = 0 ∧ t.scan.wRef = closingWhite s ∧
        t.scan.whiteSet = (s.scan.whiteSet || decide (0 < s.scan.whiteCount)) ∧
        (let patch := s.tables.scan.whiteStart = 0 ∧ 0 < s.tables.scan.whiteEnd
         let opens (kind : EntryKind) (level : Nat) :=
           (¬ patch → t.scan.waiting = [] ∧ t.store = offerEntry ⟨kind, level, true⟩ s.store) ∧
           (patch → t.scan.waiting = [⟨kind, some level, true, true⟩] ∧ t.store = s.store)
         (next ≤ lp.nPhase → opens .phasing (phasingLevel lp 0)) ∧
         (lp.nPhase < next → 0 < s.tables.scan.windowStart → opens .picture lp.gapLevel) ∧
         (lp.nPhase < next → s.tables.scan.windowStart = 0 → 0 < s.tables.scan.windowEnd → ¬ patch →
           t.scan.waiting = [⟨.picture, none, true, false⟩] ∧ t.store = s.store)))

/-- The run finishes (R43, R44) at the index pulse that closes its last revolution, or at that revolution's last sample, in the
white patch at the sample's reading (log 14): the last update is made and the scanner is FINISHED. Once its final entry has
been offered, at the finish or at the conversion that entry waits for, last entry written moves the sender to DRAIN with the
cadence on (R71, R88, R92), the head rewinds (R55, R56) and the lamp's demand ends (R46); until then head and lamp are as
they were (log 38). A last update that leaves a span below 512 faults the lamp instead, and the attempt ends with LAMP
(R44, R48). -/
def Obligations.RunFinishes : Prop :=
  ∀ (s : State) (slot : Nat), Links s → attemptInProgress s = true → s.pics.onDrum = some slot →
    s.store.carry = false →
    let lp := carryingLine s
    let sc := s.tables.scan
    let last := s.scan.state = .running ∧ s.scan.signalDue = false ∧ s.scan.rev = lp.nPhase + onDrumLines s ∧
      1 ≤ onDrumLines s
    let dark := 0 < s.scan.whiteCount ∧ closingWhite s < sc.darkLevel + 512
    let headGoes := s.head.state = .scanning ∧ 2 ≤ s.head.pos + sc.rewindMargin ∧ s.drum.state ≠ .cutoff
    let signals (t : State) := attemptInProgress t = true ∧ t.scan.state = .finished ∧ t.scan.signalDue = false ∧
      t.scan.waiting = [] ∧ t.store.lastWritten = true ∧
      (s.sender.state = .prefill → t.sender.state = .drain ∧ t.sender.cadenceOn = true) ∧
      (s.sender.state = .phasing ∨ s.sender.state = .picture → t.sender = { s.sender with state := .drain }) ∧
      (s.pins.homeAsserted = true → t.head = { s.head with
        state := .parked, pos := 0, owed := 0, stepTimer := none, rewindCount := 0
        rewindLimit := s.head.pos + sc.rewindMargin }) ∧
      (s.pins.homeAsserted = false → t.head = { s.head with
        state := .rewinding, pos := s.head.pos - 1, owed := 0, rewindCount := 1
        rewindLimit := s.head.pos + sc.rewindMargin, stepTimer := some sc.fastStepInterval }) ∧
      (s.lamp.state = .warm ∨ s.lamp.state = .warming → t.lamp = { state := .off, warmTimer := none })
    let waits (t : State) := attemptInProgress t = true ∧ t.scan.state = .finished ∧ t.scan.signalDue = true ∧
      t.store = s.store ∧ t.sender = s.sender ∧ t.head = s.head ∧ t.lamp = s.lamp
    let dims (t : State) := t.lamp = { state := .fault, warmTimer := none } ∧ t.scan.state = .idle ∧
      t.store.lastWritten = false ∧ t.sender.state = .stopTone ∧ t.sender.held = some .lamp ∧
      FinishedAs slot .failed .lamp s t
    (last → QuietIndex s → (dark → ∃ t, exec .indexPulse s = .next t ∧ dims t) ∧
      (¬ dark → s.scan.waiting = [] → headGoes → ∃ t, exec .indexPulse s = .next t ∧ signals t ∧
        t.scan.wRef = closingWhite s ∧ t.store = { s.store with lastWritten := true }) ∧
      (¬ dark → s.scan.waiting ≠ [] → s.scan.waiting.all (fun e => e.white || e.level.isNone) = true →
        ∃ t, exec .indexPulse s = .next t ∧ waits t ∧ t.scan.waiting = s.scan.waiting ∧
          t.scan.wRef = closingWhite s)) ∧
    (let p := s.enc.pos + 1
     let window := sc.windowStart ≤ p ∧ p < sc.windowEnd
     let white := sc.whiteStart ≤ p ∧ p < sc.whiteEnd
     last → s.scan.waiting = [] → s.scan.k + 1 = samplesPerRev s → 1 ≤ s.scan.k → p = samplePos s s.scan.k →
     p < 8192 → p % 512 ≠ 0 →
     (dark → ¬ white → ∃ t, exec (.encoderCount .forward) s = .next t ∧ dims t) ∧
     (¬ dark → ¬ white → ¬ window → headGoes → ∃ t, exec (.encoderCount .forward) s = .next t ∧ signals t ∧
       t.scan.wRef = closingWhite s ∧
       t.store = { offerEntry ⟨.gap, lp.gapLevel, false⟩ s.store with lastWritten := true }) ∧
     (¬ dark → ¬ white → window → ∃ t, exec (.encoderCount .forward) s = .next t ∧ waits t ∧
       t.scan.waiting = [⟨.picture, none, false, false⟩] ∧ t.scan.wRef = closingWhite s) ∧
     (white → ¬ window → p ≠ sc.windowStart → p ≠ sc.windowEnd → s.conv.current = none →
       ∃ t, exec (.encoderCount .forward) s = .next t ∧ Only [.enc, .scan, .conv, .panel] s t ∧
         t.scan = { s.scan with k := s.scan.k + 1, waiting := [⟨.gap, some lp.gapLevel, false, true⟩] } ∧
         t.conv = { s.conv with current := some (.photocell .white false) })) ∧
    (∀ (e : WaitEntry) (r : BitVec 12), s.scan.waiting = [e] → s.conv.photoWaiting = [] → headGoes →
     (∀ l, last → s.conv.current = some (.photocell .white false) → e.level = some l → e.white = true →
       s.scan.k = samplesPerRev s → sc.whiteStart ≤ samplePos s (s.scan.k - 1) →
       samplePos s (s.scan.k - 1) < sc.whiteEnd →
       let read := s.setScan { s.scan with whiteSum := s.scan.whiteSum + r.toNat, whiteCount := s.scan.whiteCount + 1 }
       (closingWhite read < sc.darkLevel + 512 → ∃ t, exec (.conversionComplete r) s = .next t ∧ dims t) ∧
       (sc.darkLevel + 512 ≤ closingWhite read → ∃ t, exec (.conversionComplete r) s = .next t ∧ signals t ∧
         t.scan.wRef = closingWhite read ∧
         t.store = { offerEntry ⟨e.kind, l, e.first⟩ s.store with lastWritten := true })) ∧
     (s.scan.state = .finished → s.scan.signalDue = true →
       (∀ l, s.conv.current = some (.photocell .white false) → e.level = some l → e.white = true →
         ∃ t, exec (.conversionComplete r) s = .next t ∧ signals t ∧ t.scan.wRef = s.scan.wRef ∧
           t.store = { offerEntry ⟨e.kind, l, e.first⟩ s.store with lastWritten := true }) ∧
       (s.conv.current = some (.photocell .picture false) → e.level = none → e.white = false →
         ∃ t, exec (.conversionComplete r) s = .next t ∧ signals t ∧ t.scan.wRef = s.scan.wRef ∧
           t.store = { offerEntry ⟨e.kind, tonePath s r.toNat, e.first⟩ s.store with lastWritten := true })))

/-- The head at the edges of the window, between window boundaries. A count onto window_end
in a picture revolution but the last starts a line burst: its steps are owed, the first made at once when none was (R52);
more than 255 owed fault the head and end the attempt with HEAD (R53, R57, R147). A count onto window_start in the picture
revolutions 2 to L with steps owed is a head-late line of the attempt (R53, R145), also where window_start is the last sample
of revolution L, which the run finishes with (R43, R44). Outside those revolutions the head is as it was. The index pulse takes the place of those counts when window_end is 8,192 or window_start is 0. That a second count
onto the same edge in one revolution acts again is the model's choice (log 13). -/
def Obligations.BurstsAndLateLines : Prop :=
  ∀ (s : State) (slot : Nat) (r : PicRecord) (a : Attempt), Links s → s.pics.onDrum = some slot →
    s.rec? slot = some r → r.state = .sending → r.attempts.getLast? = some a → s.scan.state = .running →
    s.head.state = .scanning →
    let sc := s.tables.scan
    let lp := carryingLine s
    let lines := onDrumLines s
    let late (t : State) := (t.rec? slot).bind (fun r => r.attempts.getLast?.map (·.headLate))
    let burst (t : State) :=
      (s.head.owed = 0 → t.head = { s.head with
        pos := s.head.pos + 1, owed := sc.stepsPerLine - 1, stepTimer := some sc.stepInterval }) ∧
      (1 ≤ s.head.owed → t.head = { s.head with owed := s.head.owed + sc.stepsPerLine })
    let fits := s.head.owed + sc.stepsPerLine ≤ 255 ∧ s.head.pos < sc.travelLimit
    let ended (t : State) := t.head.state = .fault ∧ t.head.pos = s.head.pos ∧ t.scan.state = .idle ∧
      t.sender.state = .stopTone ∧ t.sender.held = some .head ∧ FinishedAs slot .failed .head s t
    (let p := s.enc.pos + 1
     let inBurst := lp.nPhase < s.scan.rev ∧ s.scan.rev < lp.nPhase + lines
     let inLate := lp.nPhase + 2 ≤ s.scan.rev ∧ s.scan.rev ≤ lp.nPhase + lines
     p < 8192 → p % 512 ≠ 0 → sc.windowStart ≠ sc.windowEnd →
     (s.scan.k + 1 < samplesPerRev s →
       (p = sc.windowEnd → inBurst → fits → ∃ t, exec (.encoderCount .forward) s = .next t ∧
         Only [.enc, .scan, .store, .conv, .sender, .head, .panel] s t ∧ burst t) ∧
       (p = sc.windowEnd → inBurst → 255 < s.head.owed + sc.stepsPerLine →
         ∃ t, exec (.encoderCount .forward) s = .next t ∧ ended t) ∧
       (p = sc.windowEnd → ¬ inBurst → ∃ t, exec (.encoderCount .forward) s = .next t ∧ t.head = s.head) ∧
       (p = sc.windowStart → inLate → ∃ t, exec (.encoderCount .forward) s = .next t ∧
         Only [.enc, .scan, .store, .conv, .sender, .pics, .panel] s t ∧
         (1 ≤ s.head.owed → late t = some (satInc 65535 a.headLate)) ∧
         (s.head.owed = 0 → late t = some a.headLate)) ∧
       (p = sc.windowStart → ¬ inLate → ∃ t, exec (.encoderCount .forward) s = .next t ∧ t.head = s.head ∧
         late t = some a.headLate)) ∧
     (p = sc.windowStart → inLate → s.scan.rev = lp.nPhase + lines → s.scan.k + 1 = samplesPerRev s → 1 ≤ s.scan.k →
       p = samplePos s s.scan.k → p < sc.windowEnd → ¬ (sc.whiteStart ≤ p ∧ p < sc.whiteEnd) →
       (0 < s.scan.whiteCount → sc.darkLevel + 512 ≤ closingWhite s) →
       ∃ t, exec (.encoderCount .forward) s = .next t ∧ t.scan.state = .finished ∧ t.head = s.head ∧
         attemptInProgress t = true ∧ (1 ≤ s.head.owed → late t = some (satInc 65535 a.headLate)) ∧
         (s.head.owed = 0 → late t = some a.headLate))) ∧
    (QuietIndex s → ¬ Dims s → s.scan.rev ≠ lp.nPhase + lines →
     (sc.windowEnd = 8192 → lp.nPhase < s.scan.rev → s.scan.rev < lp.nPhase + lines →
       (fits → ∃ t, exec .indexPulse s = .next t ∧ attemptInProgress t = true ∧ burst t) ∧
       (255 < s.head.owed + sc.stepsPerLine → ∃ t, exec .indexPulse s = .next t ∧ ended t)) ∧
     (sc.windowStart = 0 → sc.windowEnd ≠ 8192 → lp.nPhase + 1 ≤ s.scan.rev → s.scan.rev < lp.nPhase + lines →
       ∃ t, exec .indexPulse s = .next t ∧ t.head = s.head ∧
         (1 ≤ s.head.owed → late t = some (satInc 65535 a.headLate)) ∧
         (s.head.owed = 0 → late t = some a.headLate)))

/-- The lamp is WARM when its warm-up timer expires in WARMING (R46). The home sensor parks a rewinding head, and outside
REWINDING its level changes nothing else (R56).
The steps of the head within its travel: a positioning step out, READY at start_offset (R51); an owed step of a line,
the timer running on while steps are owed (R52); a rewind step in, with no attempt in progress, the step that reaches the
limit faulting the head (R56). A lamp or a head that completes an attempt's conditions starts it in the same event (R142),
which has its own statement. -/
def Obligations.HeadAndLamp : Prop :=
  (∀ s : State, s.lamp.state = .warming → s.lamp.warmTimer.isSome = true →
     attemptReady (s.setLamp { state := .warm, warmTimer := none }) = false →
     ∃ t, exec .lampWarmTimerExpiry s = .next t ∧ Only [.lamp, .panel] s t ∧
       t.lamp = { state := .warm, warmTimer := none }) ∧
  ((∀ s : State, s.head.state = .rewinding → onDrumState s ≠ .granted →
     (attemptInProgress s = true ∨ s.tables.scanPending = none) →
     ∃ t, exec (.homeSensorAssert true) s = .next t ∧ Only [.head, .pins, .panel] s t ∧
       t.head = { s.head with state := .parked, pos := 0, stepTimer := none }) ∧
   (∀ (s : State) (level : Bool), level = false ∨ s.head.state ≠ .rewinding →
     ∃ t, exec (.homeSensorAssert level) s = .next t ∧ Only [.pins, .panel] s t ∧
       t.pins = { s.pins with homeAsserted := level })) ∧
  (∀ s : State, s.head.stepTimer.isSome = true →
     (s.head.state = .positioning → s.head.pos + 1 ≤ s.tables.scan.travelLimit →
       ∃ t, exec .stepTimerExpiry s = .next t ∧
         (s.head.pos + 1 ≠ s.tables.scan.startOffset ∨
           attemptReady (s.setHead { s.head with state := .ready, pos := s.head.pos + 1 }) = false →
           Only [.head, .panel] s t) ∧
         (s.head.pos + 1 = s.tables.scan.startOffset →
           attemptReady (s.setHead { s.head with state := .ready, pos := s.head.pos + 1 }) = false →
           t.head = { s.head with state := .ready, pos := s.head.pos + 1, stepTimer := none }) ∧
         (s.head.pos + 1 ≠ s.tables.scan.startOffset →
           t.head = { s.head with
             pos := s.head.pos + 1, stepTimer := some s.tables.scan.fastStepInterval })) ∧
     (s.head.state = .scanning → 1 ≤ s.head.owed → s.head.pos + 1 ≤ s.tables.scan.travelLimit →
       ∃ t, exec .stepTimerExpiry s = .next t ∧ Only [.head, .panel] s t ∧
         t.head = { s.head with
           pos := s.head.pos + 1, owed := s.head.owed - 1
           stepTimer := if s.head.owed = 1 then none else some s.tables.scan.stepInterval }) ∧
     (s.head.state = .rewinding → attemptInProgress s = false → s.head.rewindCount + 1 < s.head.rewindLimit →
       ∃ t, exec .stepTimerExpiry s = .next t ∧ Only [.head, .panel] s t ∧
         t.head = { s.head with
           pos := s.head.pos - 1, rewindCount := s.head.rewindCount + 1
           stepTimer := some s.tables.scan.fastStepInterval }) ∧
     (s.head.state = .rewinding → attemptInProgress s = false → s.head.rewindLimit ≤ s.head.rewindCount + 1 →
       ∃ t, exec .stepTimerExpiry s = .next t ∧ Only [.head, .lamp, .panel] s t ∧ t.head.state = .fault ∧
         t.head.owed = 0 ∧ t.head.stepTimer = none ∧ t.head.pos = s.head.pos - 1))

/-- The record's leaving GRANTED and the attempt's end rewind the head (R55, R56), as at an ABORT: from POSITIONING, READY and
SCANNING the owed steps are cleared and the limit is H + rewind_margin; an asserted home sensor parks the head at once, a
pending scan profile then being applied (R124, R125); a limit of 0 faults it where it stands, a limit of 1 at its first
step; else the first step is made at once. A head that is parked, rewinding or in FAULT is left as it was. -/
def Obligations.HeadRewinds : Prop :=
  ∀ s : State, onDrumState s = .granted ∨ (onDrumState s = .sending ∧ Links s) →
    let limit := s.head.pos + s.tables.scan.rewindMargin
    let out := s.head.state = .positioning ∨ s.head.state = .ready ∨ s.head.state = .scanning
    ∃ t, exec .abort s = .next t ∧
      (out → s.pins.homeAsserted = true →
        t.head = { state := .parked, pos := 0, owed := 0, stepTimer := none, rewindCount := 0, rewindLimit := limit } ∧
        ∀ p, s.tables.scanPending = some p → t.tables.scan = p ∧ t.tables.scanPending = none) ∧
      (out → s.pins.homeAsserted = false → limit = 0 → t.head =
        { state := .fault, pos := s.head.pos, owed := 0, stepTimer := none, rewindCount := 0, rewindLimit := 0 }) ∧
      (out → s.pins.homeAsserted = false → limit = 1 → t.head =
        { state := .fault, pos := s.head.pos - 1, owed := 0, stepTimer := none, rewindCount := 1, rewindLimit := 1 }) ∧
      (out → s.pins.homeAsserted = false → 2 ≤ limit → t.head =
        { state := .rewinding, pos := s.head.pos - 1, owed := 0, rewindCount := 1, rewindLimit := limit
          stepTimer := some s.tables.scan.fastStepInterval }) ∧
      (¬ out → t.head = s.head)

/-! ### Picture sender and line ports (05) -/

/-- The carrier amplitude (R91): A_black plus the rounded fraction of the span, A_black at level 0, A_white at level 255,
between the two always; it is what the line carries of the level last taken (R90). -/
def Obligations.CarrierAmplitudeBetweenEnds : Prop :=
  (∀ (lp : LineProfile) (level : Nat), level ≤ 255 →
    let a := amplitude lp level
    let q := ((lp.aWhite : Int) - lp.aBlack) * level
    min lp.aBlack lp.aWhite ≤ a ∧ a ≤ max lp.aBlack lp.aWhite ∧ (level = 0 → a = lp.aBlack) ∧
      (level = 255 → a = lp.aWhite) ∧ 255 * ((a : Int) - lp.aBlack) ≤ q + 127 ∧
      q + 127 < 255 * ((a : Int) - lp.aBlack) + 255) ∧
  ∀ s : State, s.sender.state = .phasing ∨ s.sender.state = .picture ∨ s.sender.state = .drain →
    toneOut s = some ((carryingLine s).carrierFreq, amplitude (carryingLine s) s.sender.lastLevel)

/-- A cadence event with entries in the store takes the oldest, sends its level, moves the stage by its kind and counts a
line at a marked PICTURE entry; rev_ticks leaves the accumulator (R68, R89, R90), which stops at 0 there (the model's
choice, log 3).
A cadence event that finds the store empty is an underrun while the last entry is not written, the one that passes
underrun_limit marking the picture skewed (R69, R74); once it is written, in DRAIN, it completes the attempt: the stop
tone, and the record AWAITING its receipts (R92, R93, R147, R148). -/
def Obligations.CadenceEvents : Prop :=
  (∀ (s : State) (e : Entry) (rest : List Entry), s.sender.cadenceOn = true → s.store.entries = e :: rest →
     ∃ t, exec .cadenceEvent s = .next t ∧ Only [.store, .sender, .panel] s t ∧
       t.store = { s.store with entries := rest, sent := satInc 4294967295 s.store.sent } ∧
       t.sender = { s.sender with
         acc := s.sender.acc - revTicks s, lastLevel := e.level, state := t.sender.state
         linesSent := t.sender.linesSent } ∧
       t.sender.linesSent =
         (if e.kind = .picture ∧ e.first = true then satInc 4000 s.sender.linesSent else s.sender.linesSent) ∧
       (e.kind = .gap ∨ s.sender.state = .drain → t.sender.state = s.sender.state) ∧
       (s.sender.state = .prefill ∨ s.sender.state = .phasing ∨ s.sender.state = .picture →
         (e.kind = .phasing → t.sender.state = .phasing) ∧ (e.kind = .picture → t.sender.state = .picture))) ∧
  (∀ s : State, s.sender.cadenceOn = true → s.store.entries = [] →
     (s.store.lastWritten = false → ∃ t, exec .cadenceEvent s = .next t ∧ Only [.store, .sender, .pics, .panel] s t ∧
       t.sender = { s.sender with acc := s.sender.acc - revTicks s } ∧
       t.store = { s.store with
         underruns := satInc 65535 s.store.underruns
         skewReported := s.store.skewReported ||
           decide ((carryingLine s).underrunLimit < satInc 65535 s.store.underruns) } ∧
       (∀ slot r, (carryingLine s).underrunLimit < satInc 65535 s.store.underruns → s.store.skewReported = false →
         s.pics.onDrum = some slot → s.rec? slot = some r → t.rec? slot = some { r with skewed := true }) ∧
       (satInc 65535 s.store.underruns ≤ (carryingLine s).underrunLimit ∨ s.store.skewReported = true →
         t.pics = s.pics)) ∧
     (s.store.lastWritten = true → s.sender.state = .drain → Links s →
       ∃ t, exec .cadenceEvent s = .next t ∧ t.sender.state = .stopTone ∧ t.sender.cadenceOn = false ∧
         t.sender.held = some .complete ∧
         t.sender.stageTimer = some ((carryingLine s).stopTime * 100000) ∧ t.scan.state = .idle ∧
         onDrumState t = .awaiting ∧
         t.pics.receiptTimer = some (((onDrumGrant s).map (·.wait)).getD 0 * 1000000)))

/-- An attempt starts (R142, R144): the port is chosen by the grant and its policy, the other one where that is in FAULT
(R143); a new attempt record, the port CARRYING, the start tone, an empty store, the head SCANNING, no unlocked
window (`Begun`). It starts at ATTEMPT_START, and within the event that completes its conditions: the lamp's warm-up, the
head's step onto start_offset, the window event that locks the drum (R142). -/
def Obligations.AttemptStarts : Prop :=
  ∀ (s : State) (slot : Nat) (r : PicRecord) (g : Grant) (p : PortId), Waiting slot r g p s → s.sender.state = .free →
    let sub := decide (p ≠ preferredPort r g)
    (s.drum.state = .locked → s.head.state = .ready → s.lamp.state = .warm →
      ∃ t, exec .attemptStart s = .next t ∧ Only [.drum, .head, .store, .sender, .pics, .panel, portPart p] s t ∧
        Begun slot r p sub s t ∧ t.drum = { s.drum with unlocked := 0 } ∧
        t.head = { s.head with state := .scanning, owed := 0 }) ∧
    (s.drum.state = .locked → s.head.state = .ready → s.lamp.state = .warming → s.lamp.warmTimer.isSome = true →
      ∃ t, exec .lampWarmTimerExpiry s = .next t ∧ Begun slot r p sub s t ∧ t.lamp.state = .warm) ∧
    (s.drum.state = .locked → s.lamp.state = .warm → s.head.state = .positioning → s.head.stepTimer.isSome = true →
      s.head.pos + 1 = s.tables.scan.startOffset → s.tables.scan.startOffset ≤ s.tables.scan.travelLimit →
      ∃ t, exec .stepTimerExpiry s = .next t ∧ Begun slot r p sub s t ∧ t.head.pos = s.head.pos + 1) ∧
    (∀ (c : Instr) (b : Nat) (prev : Tick) (period : Nat), WindowAt c s b prev period → Unscanned c s →
      s.drum.state = .tracking → s.head.state = .ready → s.lamp.state = .warm →
      (standardInForce s).w ≤ 2 * period → (eRawOf period s).natAbs ≤ s.tables.drum.lockBand →
      s.reg.lockCount < 255 → s.tables.drum.lockCount ≤ s.reg.lockCount + 1 →
      ∃ t, exec c s = .next t ∧ Begun slot r p sub s t ∧ t.drum.state = .locked)

/-- The start tone's end: PREFILL, and the scanner ARMED (R39, R87).
The stop tone's end (R95, R96): the DONE with tag 0 alone on the port's list and REPORTING, its payload the attempt's
numbers (R118), read from the sender's copy of the attempt (the model's, log 33); in MUTE no DONE, the port IDLE and the
sender FREE.
A line-up (R97, R98): it starts when its port is IDLE and the sender FREE, sends white and then black for lineup_time
each, and ends with the port IDLE and the sender FREE. -/
def Obligations.TonesAndLineups : Prop :=
  ((∀ s : State, s.sender.state = .startTone → s.sender.stageTimer.isSome = true → s.scan.state = .idle →
      ∃ t, exec .startToneTimerExpiry s = .next t ∧ Only [.scan, .sender] s t ∧
        t.sender = { s.sender with state := .prefill, stageTimer := none } ∧ t.scan = { s.scan with state := .armed }) ∧
   (∀ (s : State) (p : PortId), s.sender.state = .stopTone → s.sender.stageTimer.isSome = true →
      s.sender.port = some p → (s.port p).list = [] → s.tables.linePending = none →
      (s.station.mute = true → onDrumState s ≠ .granted → s.sender.lineupReq = none →
        ∃ t, exec .stopToneTimerExpiry s = .next t ∧ Only [.sender, portPart p, .panel] s t ∧ t.sender =
           { s.sender with state := .free, port := none, stageTimer := none, held := none, closing := none } ∧
        (t.port p).activity = .idle ∧ (t.port p).list = []) ∧
      (∀ n a o, s.station.mute = false → (s.port p.other).reportDue = false → s.sender.closing = some (n, a) →
        s.sender.held = some o → ∃ t, exec .stopToneTimerExpiry s = .next t ∧ Only [.sender, portPart p, .panel] s t ∧
          t.sender = { s.sender with state := .doneOut, stageTimer := none } ∧ (t.port p).activity = .reporting ∧
          (t.port p).list = [.report ⟨.done, 0,
            [BitVec.ofNat 8 n, BitVec.ofNat 8 (n / 256), BitVec.ofNat 8 a.number, BitVec.ofNat 8 o.code,
              if p = .a then 0 else 1] ++ le2 s.sender.linesSent ++ le2 s.store.underruns ++ le2 s.store.overruns ++
              le2 a.indexSlips ++ le2 a.headLate ++ le2 a.duration ++ le2 a.lockLost ++ le2 s.store.flushed ++
              [if a.substituted = true then 1 else 0]⟩]))) ∧
  (∀ (s : State) (p : PortId),
     (s.sender.state = .free → s.sender.lineupReq = some p → (s.port p).cause = .none → (s.port p).activity = .idle →
       ∃ t, exec .lineupStart s = .next t ∧ Only [.sender, portPart p] s t ∧ (t.port p).activity = .carrying ∧
         t.sender = { s.sender with
           state := .lineupWhite, port := some p, lineupReq := none
           stageTimer := some ((lineOf s p).lineupTime * 100000) }) ∧
     (s.sender.state = .lineupWhite → s.sender.stageTimer.isSome = true → s.sender.port = some p →
       ∃ t, exec .lineupWhiteTimerExpiry s = .next t ∧ Only [.sender] s t ∧
         t.sender = { s.sender with
           state := .lineupBlack, stageTimer := some ((lineOf s p).lineupTime * 100000) }) ∧
     (s.sender.state = .lineupBlack → s.sender.stageTimer.isSome = true → s.sender.port = some p →
       (s.port p).activity = .carrying → s.tables.linePending = none → onDrumState s ≠ .granted →
       s.sender.lineupReq = none →
       ∃ t, exec .lineupBlackTimerExpiry s = .next t ∧ Only [.sender, portPart p, .panel] s t ∧
         (t.port p).activity = .idle ∧ t.sender = { s.sender with state := .free, port := none, stageTimer := none }))

/-- The loop sense (R82): a loss while CARRYING starts the loop-loss timer at loss_time, a return stops it, and outside
CARRYING a loss starts nothing.
The LOOP fault of a port that carries an attempt (R82, R94, R147): cause LOOP, activity IDLE, the sender FREE and
detached, the attempt ended with LINE; the record is GRANTED again while attempts remain and the other port is fit,
FINISHED with LINES while attempts remain and it is not, and with LINE once none remains. A head PARKED at H = 0, as it
always is (R51, R56; Footing), then has its way to READY before it, so that no attempt starts in the same event.
The LOOP fault in the stop tone sends no DONE: the sender is FREE and detached, and the attempt keeps its outcome (R95); during
a line-up it ends the line-up (R98). A pending LINE copy of the port comes into force then (R125).
The break tone (R83): while the port carries an attempt it starts a timer of 200 ms, its absence stops the timer, and
the timer's expiry ends the attempt with BROKEN, the record AWAITING its receipts (R93, R147). That a tone already there at
the attempt's start is not found is the model's choice (log 23). -/
def Obligations.LoopAndBreak : Prop :=
  (∀ (s : State) (p : PortId),
     ((s.port p).loopCurrent = true → ∃ t, exec (.loopCurrentLost p) s = .next t ∧ Only [portPart p] s t ∧
       t.port p = { s.port p with
         loopCurrent := false
         loopTimer := if (s.port p).activity = .carrying then some ((lineOf s p).lossTime * 1000)
           else (s.port p).loopTimer }) ∧
     ∃ t, exec (.loopCurrentReturn p) s = .next t ∧ Only [portPart p] s t ∧
       t.port p = { s.port p with loopCurrent := true, loopTimer := none }) ∧
  (∀ (s : State) (p : PortId) (slot : Nat) (r : PicRecord) (g : Grant), Links s → s.pics.onDrum = some slot →
     s.rec? slot = some r → r.grant = some g → r.state = .sending → (s.port p).activity = .carrying →
     (s.port p).loopTimer.isSome = true → s.sender.lineupReq = none →
     let dropped (t : State) := (t.port p).cause = .loop ∧ (t.port p).activity = .idle ∧ t.sender.state = .free ∧
       t.sender.port = none ∧ t.sender.cadenceOn = false ∧ t.scan.state = .idle ∧ t.store.entries = []
     (Footing s → r.attempts.length < g.allowed → (s.port p.other).cause = .none → s.tables.scanPending = none →
       2 ≤ s.tables.scan.startOffset →
       ∃ t, exec (.loopLossTimerExpiry p) s = .next t ∧ dropped t ∧ onDrumState t = .granted) ∧
     (r.attempts.length < g.allowed → (s.port p.other).cause ≠ .none →
       ∃ t, exec (.loopLossTimerExpiry p) s = .next t ∧ dropped t ∧ FinishedAs slot .failed .lines s t) ∧
     (g.allowed ≤ r.attempts.length →
       ∃ t, exec (.loopLossTimerExpiry p) s = .next t ∧ dropped t ∧ FinishedAs slot .failed .line s t)) ∧
  (∀ (s : State) (p : PortId), (s.port p).activity = .carrying → (s.port p).loopTimer.isSome = true →
     s.sender.port = some p → onDrumState s ≠ .granted → s.sender.lineupReq = none →
     let faulted (t : State) := Only [.sender, .tables, portPart p, .panel] s t ∧
       (s.tables.linePending = none → t.tables = s.tables) ∧
       (∀ lp, s.tables.linePending = some (p, lp) → lineOf t p = lp ∧ t.tables.linePending = none) ∧
       t.port p = { s.port p with
         cause := .loop, activity := .idle, loopTimer := none, breakTimer := none, rx := rxIdle }
     (s.sender.state = .stopTone → ∃ t, exec (.loopLossTimerExpiry p) s = .next t ∧ faulted t ∧ t.sender = { s.sender with
       state := .free, port := none, stageTimer := none, held := none, closing := none }) ∧
     (s.sender.state = .lineupWhite ∨ s.sender.state = .lineupBlack →
       ∃ t, exec (.loopLossTimerExpiry p) s = .next t ∧ faulted t ∧
         t.sender = { s.sender with state := .free, port := none, stageTimer := none })) ∧
  (∀ (s : State) (p : PortId),
     ((s.port p).activity = .carrying → s.sender.state.sendingAttempt = true → (s.port p).breakTimer = none →
       ∃ t, exec (.breakTonePresent p) s = .next t ∧ Only [portPart p] s t ∧
         t.port p = { s.port p with breakTimer := some 200000 }) ∧
     ((s.port p).activity ≠ .carrying ∨ s.sender.state.sendingAttempt = false →
       exec (.breakTonePresent p) s = .next s) ∧
     (∃ t, exec (.breakToneAbsent p) s = .next t ∧ Only [portPart p] s t ∧
       t.port p = { s.port p with breakTimer := none }) ∧
     (Links s → attemptInProgress s = true → (s.port p).activity = .carrying → (s.port p).breakTimer.isSome = true →
       ∃ t, exec (.breakTimerExpiry p) s = .next t ∧ t.sender.state = .stopTone ∧ t.sender.held = some .broken ∧
         t.sender.port = some p ∧ (t.port p).breakTimer = none ∧ onDrumState t = .awaiting))

/-- A formed report at the head starts at the turnaround timer's end, a reservation holds it back (R79). The answer of an
order, a CLOCK say, that comes with the timer at rest starts at once, unless another order waits: that one is eligible
and is executed first (R79, R108, log 35).
The end of a report whose every byte echoed right is a good one: its item leaves the list, the turnaround timer runs for
20 ms, the consecutive count is cleared (R79 to R81). A report one of whose echoes is another byte, a framing error or
absent is a failed one: counted, the second in a row faulting the port with ECHO (R80, R81), at its end or at once when
ECHO_FAILURE tells of the first wrong echo; echoes that are all right so far change nothing. The end of a DONE frees the
sender (R96). That the echoes come with the two commands is the model's (log 11).
What a REPORTING port has on its line is a preamble of exactly 16 mark bits and then, without gaps, the report's bytes:
sync, destination 63, the station code, kind, tag, length, payload and CRC, each byte in 10 bits: space, its bits least
significant first, mark (R79, R114). A port that is not REPORTING has no report on its line. -/
def Obligations.ReportsStartAndEnd : Prop :=
  (∀ (s : State) (p : PortId) (n : Nat), (s.port p).turn = .running n → (s.port p).activity = .answerDue →
     (s.port p.other).reportDue = false →
     (∀ r rest, (s.port p).list = .report r :: rest →
       (s.orders = [] ∨ ∃ q, (s.port q).activity = .reporting ∨ (s.port q).rx.state ≠ .hunting) →
       ∃ t, exec (.turnaroundTimerExpiry p) s = .next t ∧ Only [portPart p] s t ∧
         t.port p = { s.port p with turn := .stopped, activity := .reporting, rx := rxIdle }) ∧
     (∀ rest, (s.port p).list = .reservation :: rest →
       ∃ t, exec (.turnaroundTimerExpiry p) s = .next t ∧ Only [portPart p] s t ∧
         t.port p = { s.port p with turn := .stopped })) ∧
  (∀ (s : State) (o : Order) (rest : List RepItem), HeadOrder .clock o s → o.broadcast = false → o.reserved = true →
     (s.port o.port).list = .reservation :: rest → (s.port o.port).activity = .answerDue →
     (s.port o.port).turn = .stopped → ∃ t, exec .clock s = .next t ∧
       (s.orders.tail = [] → (t.port o.port).activity = .reporting) ∧
       (s.orders.tail ≠ [] → (t.port o.port).activity = .answerDue)) ∧
  (∀ (s : State) (p : PortId), (s.port p).activity = .reporting → onDrumState s ≠ .granted →
     s.sender.lineupReq = none →
     let x := s.port p
     let sent := bytesSent p s
     let ends (t : State) := Only [portPart p, .sender, .panel] s t ∧
       (s.sender.state = .doneOut → s.sender.port = some p →
         t.sender = { s.sender with
           state := .free, port := none, stageTimer := none, held := none, closing := none }) ∧
       (s.sender.state ≠ .doneOut ∨ s.sender.port ≠ some p → t.sender = s.sender)
     let gone := { x with
       list := x.list.tail, activity := if x.list.tail = [] then .idle else .answerDue, turn := .running 20000
       rx := rxIdle }
     let failed (t : State) := ends t ∧ t.port p = { gone with
       echoFailures := satInc 65535 x.echoFailures, consecEcho := satInc 255 x.consecEcho
       cause := if x.consecEcho = 1 ∧ x.cause = .none then .echo else x.cause }
     (∃ t, exec (.reportEnd ⟨p, sent.map .byte⟩) s = .next t ∧ ends t ∧ t.port p = { gone with consecEcho := 0 }) ∧
     (∀ echoes, echoes ≠ sent.map .byte → ∃ t, exec (.reportEnd ⟨p, echoes⟩) s = .next t ∧ failed t) ∧
     (∀ before b after e more, sent = before ++ b :: after → e ≠ .byte b →
       ∃ t, exec (.echoFailure ⟨p, before.map .byte ++ e :: more⟩) s = .next t ∧ failed t) ∧
     (∀ before after, sent = before ++ after →
       ∃ t, exec (.echoFailure ⟨p, before.map .byte⟩) s = .next t ∧ Only [.panel] s t)) ∧
  (∀ (s : State) (p : PortId) (r : Report) (rest : List RepItem), (s.port p).activity = .reporting →
     (s.port p).list = .report r :: rest →
     let body := [63, BitVec.ofNat 8 s.station.code.toNat, r.kind.code, r.tag, BitVec.ofNat 8 r.payload.length] ++ r.payload
     let sent := bytesSent p s
     sent = [0xA7, 0x3C] ++ body ++ le2 (crcOf body).toNat ∧
     ∃ bits, reportOnLine p s = some bits ∧ bits.length = 16 + 10 * sent.length ∧
       (∀ i, i < 16 → bits[i]? = some .mark) ∧
       (∀ i b, sent[i]? = some b →
         bits[16 + 10 * i]? = some .space ∧ bits[16 + 10 * i + 9]? = some .mark ∧
         ∀ j, j < 8 → bits[16 + 10 * i + 1 + j]? = some (if b.getLsbD j then .mark else .space))) ∧
  (∀ (s : State) (p : PortId), (s.port p).activity ≠ .reporting → reportOnLine p s = none)

/-! ### Receivers and order unit (06) -/

/-- A block's bytes, heard after its preamble, are taken as that block: destination, source, kind, tag and payload
(R100 to R102; 11, section 11.1). -/
def Obligations.BlockRoundTrip : Prop :=
  ∀ (dest src kind tag : Byte) (payload : List Byte) (rx : Receiver), payload.length ≤ 96 →
    rx.state = .syncing → rx.bytes = [] →
    rxFeed rx (blockBytes dest src kind tag payload) =
      .good { dest := dest.toNat, src := src.toNat, kind := kind, tag := tag, payload := payload }

/-- A reception starts at a start bit after 16 bit times of mark, holding a turnaround timer that runs (R79, R100); it ends
without a count at a failed sync, a framing error or a gap while SYNCING (R100), and with a block error counted at a
framing, length, CRC or gap error while RECEIVING (R101). A report that is due at its start goes out all the same (R101).
A block whose CRC bytes are wrong is a block error and reaches no one (R102); a good block with another source than 63,
or that is neither a broadcast nor addressed to the station's code, only ends its reception, and in MUTE no address
is the station's (R103). That a reception holds the timer, and that a block's bytes come with its command, are the model's
readings (log 10, log 19). -/
def Obligations.ReceptionsStartAndEnd : Prop :=
  (∀ (s : State) (p : PortId), (s.port p).activity = .idle ∨ (s.port p).activity = .answerDue →
     let x := s.port p
     (∀ marks, x.rx.state = .hunting → 16 ≤ marks → (∀ q, (s.port q).reportDue = false) →
       ∃ t, exec (.receptionStart p marks) s = .next t ∧ Only [portPart p] s t ∧
         t.port p = { x with
           rx := { rxIdle with state := .syncing, markRun := 16 }
           turn := if x.turn = .stopped then .stopped else .held }) ∧
     (∀ marks, x.rx.state = .hunting → 16 ≤ marks → ∃ t, exec (.receptionStart p marks) s = .next t ∧
       ∀ q, (s.port q).reportDue = true → (t.port q).activity = .reporting) ∧
     (∀ marks, x.rx.state = .hunting → marks < 16 →
       ∃ t, exec (.receptionStart p marks) s = .next t ∧ Only [portPart p] s t ∧
         t.port p = { x with rx := { x.rx with markRun := 0 } }) ∧
     (x.rx.state = .syncing → ∃ t, exec (.syncFailed p) s = .next t ∧ Only [portPart p] s t ∧
       t.port p = { x with rx := rxIdle, turn := .running 20000 }) ∧
     (x.rx.state = .syncing → ∀ err, ∃ t, exec (.blockError p err) s = .next t ∧ Only [portPart p] s t ∧
       t.port p = { x with rx := rxIdle, turn := .running 20000 }) ∧
     (x.rx.state = .syncing → ∃ t, exec (.gapTimerExpiry p) s = .next t ∧ Only [portPart p] s t ∧
       t.port p = { x with rx := rxIdle, turn := .running 20000 }) ∧
     (x.rx.state = .receiving → ∀ err, ∃ t, exec (.blockError p err) s = .next t ∧ Only [portPart p] s t ∧
       t.port p = { x with rx := rxIdle, turn := .running 20000, blockErrors := satInc 65535 x.blockErrors }) ∧
     (x.rx.state = .receiving → ∃ t, exec (.gapTimerExpiry p) s = .next t ∧ Only [portPart p] s t ∧
       t.port p = { x with rx := rxIdle, turn := .running 20000, blockErrors := satInc 65535 x.blockErrors })) ∧
  (∀ (s : State) (p : PortId) (dest src kind tag : Byte) (payload : List Byte), Hearing p s → payload.length ≤ 96 →
     let body := [dest, src, kind, tag, BitVec.ofNat 8 payload.length] ++ payload
     (∀ lo hi : Byte, lo.toNat + 256 * hi.toNat ≠ (crcOf body).toNat →
       ∃ t, exec (.blockTake p ([0xA7, 0x3C] ++ body ++ [lo, hi])) s = .next t ∧ Only [portPart p, .panel] s t ∧
         t.port p = { s.port p with
           rx := rxIdle, turn := .running 20000, blockErrors := satInc 65535 (s.port p).blockErrors }) ∧
     (src ≠ 63 ∨ (dest ≠ 0 ∧ (s.station.mute = true ∨ dest.toNat ≠ s.station.code.toNat)) →
       ∃ t, exec (.blockTake p (blockBytes dest src kind tag payload)) s = .next t ∧ Only [portPart p, .panel] s t ∧
         t.port p = { s.port p with rx := rxIdle, turn := .running 20000 }))

/-- An order the acceptance table takes joins the order queue with its reservation on the arrival port's list; a list that
holds 8 drops the reservation (R78, R106, R107); a broadcast LOAD, CLOCK or RESTART joins without one (R105). The flag that
ties an order to its reservation is the model's (log 24).
What an addressed block is answered with at once, on its port's list (R106, R107): REFUSE for an unknown kind or one
the acceptance table refuses, BUSY where the table or a full queue says so, STATUS for a POLL at a full queue.
A RESTART at a full queue is executed at its take (R107, R112): no order is left, the SPIN latch is clear, and an addressed
one leaves its ACK alone on the arrival port's list, a broadcast one an empty list; a report being sent goes on (R85).
A broadcast of another kind than LOAD, CLOCK and RESTART is ignored, and one that the acceptance table does not take or that
finds the queue full is dropped: the reception's end is all (R105, R107).
A queued order whose payload fails the length check of its kind is refused with BAD TABLE DATA (R109, R179). -/
def Obligations.OrdersTaken : Prop :=
  (∀ (s : State) (p : PortId) (k : OrderKind) (tag : Byte) (payload : List Byte), Hearing p s →
     payload.length ≤ 96 → acceptEntry s k = .take → s.orders.length < 4 →
     (s.station.mute = false → 1 ≤ s.station.code.toNat →
       ∃ t, exec (.blockTake p (blockBytes (BitVec.ofNat 8 s.station.code.toNat) 63 k.code tag payload)) s = .next t ∧
         Only [.orders, portPart p, .panel] s t ∧
         t.orders = s.orders ++ [
           { port := p, broadcast := false, kind := k, tag := tag, payload := payload
             reserved := decide ((s.port p).list.length < 8) }] ∧
         ((s.port p).list.length < 8 → t.port p = { s.port p with
           list := (s.port p).list ++ [.reservation], activity := .answerDue, rx := rxIdle, turn := .running 20000 }) ∧
         (8 ≤ (s.port p).list.length →
           t.port p = { s.port p with rx := rxIdle, turn := .running 20000 })) ∧
     (k = .load ∨ k = .clock ∨ k = .restart →
       ∃ t, exec (.blockTake p (blockBytes 0 63 k.code tag payload)) s = .next t ∧
         Only [.orders, portPart p, .panel] s t ∧
         t.orders = s.orders ++ [
           { port := p, broadcast := true, kind := k, tag := tag, payload := payload, reserved := false }] ∧
         t.port p = { s.port p with rx := rxIdle, turn := .running 20000 })) ∧
  (∀ (s : State) (p : PortId) (tag : Byte) (payload : List Byte), Hearing p s → payload.length ≤ 96 →
     (s.port p).list.length < 8 → s.station.mute = false → 1 ≤ s.station.code.toNat →
     let bytes (kind : Byte) := blockBytes (BitVec.ofNat 8 s.station.code.toNat) 63 kind tag payload
     (∀ kind : Byte, kind = 0 ∨ 0x0B < kind.toNat →
       ∃ t, exec (.blockTake p (bytes kind)) s = .next t ∧ AtOnce p ⟨.refuse, tag, [tag, kind, 4]⟩ s t) ∧
     (∀ k, acceptEntry s k = .refuse →
       ∃ t, exec (.blockTake p (bytes k.code)) s = .next t ∧ AtOnce p ⟨.refuse, tag, [tag, k.code, 1]⟩ s t) ∧
     (∀ k, acceptEntry s k = .busy →
       ∃ t, exec (.blockTake p (bytes k.code)) s = .next t ∧ AtOnce p ⟨.busy, tag, [tag, k.code, 2]⟩ s t) ∧
     (∀ k, acceptEntry s k = .take → 4 ≤ s.orders.length → k ≠ .poll → k ≠ .restart →
       ∃ t, exec (.blockTake p (bytes k.code)) s = .next t ∧ AtOnce p ⟨.busy, tag, [tag, k.code, 3]⟩ s t) ∧
     (4 ≤ s.orders.length → payload = [] →
       ∃ t, exec (.blockTake p (bytes OrderKind.poll.code)) s = .next t ∧
         AtOnce p ⟨.status, tag, statusPayload p s⟩ s t)) ∧
  (∀ (s : State) (p : PortId) (tag : Byte), Hearing p s → 4 ≤ s.orders.length →
     attemptInProgress s = false → s.sender.state.inLineup = false → onDrumState s ≠ .granted →
     let cleared (t : State) := t.orders = [] ∧ t.drum.spinLatch = false ∧ t.sender = { s.sender with lineupReq := none } ∧
       ∀ q, (t.port q).blockErrors = 0 ∧ (t.port q).echoFailures = 0 ∧ (t.port q).consecEcho = 0 ∧
         ((s.port q).activity = .reporting → (t.port q).activity = .reporting ∧
           (t.port q).list = (s.port q).list.take 1)
     (s.station.mute = false → 1 ≤ s.station.code.toNat →
       ∃ t, exec (.blockTake p (blockBytes (BitVec.ofNat 8 s.station.code.toNat) 63 OrderKind.restart.code tag [])) s =
           .next t ∧ cleared t ∧ (t.port p).cause = .none ∧ (t.port p).activity = .answerDue ∧
         (t.port p).turn = .running 20000 ∧ (t.port p).list = [.report ⟨.ack, tag, [tag, OrderKind.restart.code, 0]⟩]) ∧
     ∃ t, exec (.blockTake p (blockBytes 0 63 OrderKind.restart.code tag [])) s = .next t ∧ cleared t ∧
       (t.port p).cause = .none ∧ (t.port p).activity = .idle ∧ (t.port p).list = []) ∧
  (∀ (s : State) (p : PortId) (kind tag : Byte) (payload : List Byte), Hearing p s → payload.length ≤ 96 →
     let spread := kind = OrderKind.load.code ∨ kind = OrderKind.clock.code ∨ kind = OrderKind.restart.code
     ¬ spread ∨ (kind ≠ OrderKind.restart.code ∧ 4 ≤ s.orders.length) ∨
       (∃ k ∈ [OrderKind.load, .clock], kind = k.code ∧ acceptEntry s k ≠ .take) →
     ∃ t, exec (.blockTake p (blockBytes 0 63 kind tag payload)) s = .next t ∧ Only [portPart p, .panel] s t ∧
       t.port p = { s.port p with rx := rxIdle, turn := .running 20000 }) ∧
  (∀ (s : State) (o : Order), s.orders.head? = some o → lengthOk o.kind o.payload = false →
     (∀ p, (s.port p).activity ≠ .reporting ∧ (s.port p).rx.state = .hunting) →
     ∃ t, exec (orderCommand o.kind) s = .next t ∧ Refused o .badTableData s t)

/-- A POLL is answered with the STATUS of the station as it stands once the POLL has left the queue, and changes nothing
else (R110, R117). The STATUS is 71 bytes, each item at its offset (11, section 11.2), its own arrival port reading
ANSWER_DUE in place of IDLE (R117). -/
def Obligations.PollAnswersStatus : Prop :=
  (∀ (s : State) (o : Order), HeadOrder .poll o s →
    ∃ t, exec .poll s = .next t ∧ Only [.orders, .portA, .portB] s t ∧
      Answered o ⟨.status, o.tag, statusPayload o.port { s with orders := s.orders.tail }⟩ s t) ∧
  (∀ (s : State) (p : PortId), Ranges s →
    let b := statusPayload p s
    let portAt (q : PortId) (i : Nat) := byteAt b (i + 1) = (s.port q).cause.code ∧
      wordAt b (i + 2) = (s.port q).blockErrors ∧ wordAt b (i + 4) = (s.port q).echoFailures ∧
      ((s.port q).cause ≠ .none → byteAt b i = 4) ∧
      ((s.port q).cause = .none → (q = p → (s.port q).activity ≠ .idle) → byteAt b i = (s.port q).activity.code) ∧
      ((s.port q).cause = .none → q = p → (s.port q).activity = .idle → byteAt b i = 1)
    b.length = 71 ∧ byteAt b 0 = 0x46 ∧ byteAt b 1 = 1 ∧ byteAt b 2 = s.station.code.toNat ∧
      byteAt b 3 = (condition s).code ∧ byteAt b 4 = s.drum.state.code ∧ byteAt b 5 = s.drum.lastFault.code ∧
      byteAt b 6 = s.head.state.code ∧ byteAt b 7 = s.lamp.state.code ∧ byteAt b 8 = s.sender.state.code ∧
      (s.sender.port = some .a → byteAt b 9 = 0) ∧ (s.sender.port = some .b → byteAt b 9 = 1) ∧
      (s.sender.port = none → byteAt b 9 = 2) ∧ portAt .a 10 ∧ portAt .b 16 ∧ byteAt b 22 = s.orders.length ∧
      (byteAt b 23 = if s.drum.state = .locked ∧ s.head.state = .ready ∧ s.lamp.state = .warm then 1 else 0) ∧
      (∀ j r, s.rec? j = some r → byteAt b (24 + 4 * j) = r.state.code ∧
        wordAt b (25 + 4 * j) = r.number.getD 0 ∧ byteAt b (27 + 4 * j) = r.slip.code) ∧
      byteAt b 56 = s.slips.queue.length ∧ byteAt b 57 = s.slips.printer.code ∧
      byteAt b 58 = s.slips.owed.countP (fun o => o.final || o.late) ∧
      (∀ k n, s.tables.counts[k]? = some n → byteAt b (59 + k) = n) ∧
      (∀ k, (wordAt b 68).testBit k = true ↔
        (k = 0 ∧ s.tables.tonePending ≠ none) ∨ (k = 1 ∧ s.tables.standardPending ≠ none) ∨
        (k = 2 ∧ s.tables.drumPending ≠ none) ∨ (k = 3 ∧ s.tables.scanPending ≠ none) ∨
        (k = 4 ∧ s.tables.linePending ≠ none)) ∧
      (byteAt b 70 = if s.clock.isSet = true then 1 else 0)) ∧
  (∀ s : State, (condition s = .faulted ↔ s.drum.state = .cutoff ∨ s.head.state = .fault) ∧
    (condition s = .sending ↔ s.drum.state ≠ .cutoff ∧ s.head.state ≠ .fault ∧ s.sender.state ≠ .free))

/-- A GRANT of a LOADED record that passes the checks of R140 is applied (R141): the record GRANTED with its number and
grant part, the lists empty; a drum at rest spins up (R8), a parked head makes its first step (R51), the lamp warms
(R46).
The first check of R140 that fails refuses a GRANT with its reason, and nothing else happens.
A GRANT of a GRANTED record (R140, R141): refused for another number, acknowledged with no effect when it repeats the grant,
refused when no attempt would be left, else the grant part alone is replaced. -/
def Obligations.GrantJudged : Prop :=
  (∀ (s : State) (o : Order) (slot : Nat) (r : PicRecord), HeadOrder .grant o s →
     let n := wordAt o.payload 0
     let q := portOfByte (o.payload.getD 2 0)
     s.drum.state ≠ .cutoff → 1 ≤ n → n ≤ 9999 → byteAt o.payload 3 ≤ 3 → 1 ≤ byteAt o.payload 4 →
     byteAt o.payload 4 ≤ 3 → byteAt o.payload 5 ≤ 1 → 1 ≤ byteAt o.payload 6 →
     s.pics.onDrum = some slot → s.rec? slot = some r → r.state = .loaded →
     (∀ x ∈ s.pics.records, x.number = some n → x.state = .empty) → (s.port q).cause = .none →
     s.lamp.state ≠ .warm → s.tables.scan.startOffset + r.lines * s.tables.scan.stepsPerLine ≤ s.tables.scan.travelLimit →
     ∃ t, exec .grant s = .next t ∧ Answered o (ackOf o 0) s t ∧
       t.rec? slot = some { r with
         state := .granted, number := some n
         grant := some
           { port := q, standard := byteAt o.payload 3, allowed := byteAt o.payload 4
             policy := if byteAt o.payload 5 = 0 then .same else .alternate, wait := byteAt o.payload 6 }
         attempts := [], receipts := [], dropped := 0, skewed := false } ∧
       (s.drum.state = .stopped → s.drum.spinLatch = false → s.pins.coverClosed = true → s.tables.drumPending = none →
         t.drum.state = .spinup) ∧
       (s.head.state = .parked → s.head.pos = 0 → 2 ≤ s.tables.scan.startOffset →
         t.head.state = .positioning ∧ t.head.pos = 1 ∧
           t.head.stepTimer = some s.tables.scan.fastStepInterval ∧
           (s.scan.state ≠ .finished → t.lamp.state = .warming))) ∧
  (∀ (s : State) (o : Order), HeadOrder .grant o s →
     let n := wordAt o.payload 0
     let fields := 1 ≤ n ∧ n ≤ 9999 ∧ byteAt o.payload 3 ≤ 3 ∧ 1 ≤ byteAt o.payload 4 ∧ byteAt o.payload 4 ≤ 3 ∧
       byteAt o.payload 5 ≤ 1 ∧ 1 ≤ byteAt o.payload 6
     (s.drum.state = .cutoff → ∃ t, exec .grant s = .next t ∧ Refused o .drumCutoff s t) ∧
     (s.drum.state ≠ .cutoff → ¬ fields → ∃ t, exec .grant s = .next t ∧ Refused o .badTableData s t) ∧
     (s.drum.state ≠ .cutoff → fields → onDrumState s = .empty ∨ onDrumState s = .finished →
       ∃ t, exec .grant s = .next t ∧ Refused o .noPicture s t) ∧
     (s.drum.state ≠ .cutoff → fields → onDrumState s = .sending ∨ onDrumState s = .awaiting →
       ∃ t, exec .grant s = .next t ∧ Refused o .wrongState s t) ∧
     (∀ slot r, s.drum.state ≠ .cutoff → fields → s.pics.onDrum = some slot → s.rec? slot = some r →
       r.state = .loaded → numberElsewhere s slot n = true →
       ∃ t, exec .grant s = .next t ∧ Refused o .numberInUse s t) ∧
     (∀ slot r, s.drum.state ≠ .cutoff → fields → s.pics.onDrum = some slot → s.rec? slot = some r →
       r.state = .loaded → numberElsewhere s slot n = false →
       (s.port (portOfByte (o.payload.getD 2 0))).cause ≠ .none →
       ∃ t, exec .grant s = .next t ∧ Refused o .portFault s t) ∧
     (∀ slot r, s.drum.state ≠ .cutoff → fields → s.pics.onDrum = some slot → s.rec? slot = some r →
       r.state = .loaded → numberElsewhere s slot n = false →
       (s.port (portOfByte (o.payload.getD 2 0))).cause = .none →
       s.tables.scan.travelLimit < s.tables.scan.startOffset + r.lines * s.tables.scan.stepsPerLine →
       ∃ t, exec .grant s = .next t ∧ Refused o .pictureTooLong s t)) ∧
  (∀ (s : State) (o : Order) (slot : Nat) (r : PicRecord), HeadOrder .grant o s →
     let n := wordAt o.payload 0
     let q := portOfByte (o.payload.getD 2 0)
     let fields := 1 ≤ n ∧ n ≤ 9999 ∧ byteAt o.payload 3 ≤ 3 ∧ 1 ≤ byteAt o.payload 4 ∧ byteAt o.payload 4 ≤ 3 ∧
       byteAt o.payload 5 ≤ 1 ∧ 1 ≤ byteAt o.payload 6
     let g : Grant :=
       { port := q, standard := byteAt o.payload 3, allowed := byteAt o.payload 4
         policy := if byteAt o.payload 5 = 0 then .same else .alternate, wait := byteAt o.payload 6 }
     let long := s.tables.scan.travelLimit < s.tables.scan.startOffset + r.lines * s.tables.scan.stepsPerLine
     s.drum.state ≠ .cutoff → fields → s.pics.onDrum = some slot → s.rec? slot = some r → r.state = .granted →
     (r.number ≠ some n → ∃ t, exec .grant s = .next t ∧ Refused o .wrongState s t) ∧
     (r.number = some n → r.grant = some g → ∃ t, exec .grant s = .next t ∧ Answered o (ackOf o 0) s t ∧
       Only [.orders, .portA, .portB, .panel] s t) ∧
     (r.number = some n → r.grant ≠ some g →
       (numberElsewhere s slot n = true → ∃ t, exec .grant s = .next t ∧ Refused o .numberInUse s t) ∧
       (numberElsewhere s slot n = false →
         ((s.port q).cause ≠ .none → ∃ t, exec .grant s = .next t ∧ Refused o .portFault s t) ∧
         ((s.port q).cause = .none → long → ∃ t, exec .grant s = .next t ∧ Refused o .pictureTooLong s t) ∧
         ((s.port q).cause = .none → ¬ long → byteAt o.payload 4 ≤ r.attempts.length →
           ∃ t, exec .grant s = .next t ∧ Refused o .noAttemptsLeft s t) ∧
         ((s.port q).cause = .none → ¬ long → r.attempts.length < byteAt o.payload 4 → s.lamp.state ≠ .warm →
           ∃ t, exec .grant s = .next t ∧ Answered o (ackOf o 0) s t ∧
             Only [.orders, .portA, .portB, .pics, .drum, .reg, .panel] s t ∧
             t.pics = { s.pics with records := s.pics.records.set slot { r with grant := some g } }))))

/-- A CANCEL (R153): refused for a number no record carries and for a FINISHED record; it finishes a GRANTED or AWAITING
record CANCELLED, and ends the attempt in progress with CANCELLED (R146, R147). The entry to FINISHED requests the record's
FINAL slip, which joins the slip queue or is owed at a full one, and the slip status says so (R155, R158, R160). -/
def Obligations.CancelJudged : Prop :=
  ∀ (s : State) (o : Order), HeadOrder .cancel o s →
    let n := wordAt o.payload 0
    (slotOfNumber s n = none → ∃ t, exec .cancel s = .next t ∧ Refused o .unknownPicture s t) ∧
    (∀ slot r, slotOfNumber s n = some slot → s.rec? slot = some r → r.state = .finished →
      ∃ t, exec .cancel s = .next t ∧ Refused o .wrongState s t) ∧
    (∀ slot r, slotOfNumber s n = some slot → s.rec? slot = some r → r.state = .granted ∨ r.state = .awaiting →
      ∃ t, exec .cancel s = .next t ∧ Answered o (ackOf o 0) s t ∧ FinishedAs slot .cancelled .none s t) ∧
    (∀ slot r, Links s → slotOfNumber s n = some slot → s.rec? slot = some r → r.state = .sending →
      s.pics.onDrum = some slot →
      ∃ t, exec .cancel s = .next t ∧ Answered o (ackOf o 0) s t ∧ Ended .cancelled s t ∧
        FinishedAs slot .cancelled .none s t)

/-- The ABORT key on the on-drum record (R154): a notice for none and for a FINISHED one, a LOADED one emptied, a GRANTED or
AWAITING one FINISHED ABORTED, an attempt ended with ABORTED (R146, R147).
The receipt timer's expiry in AWAITING finishes the record with NO_RECEIPT, and the lamp's and drum's demand with it
(R148). Each entry to FINISHED requests the record's FINAL slip, which joins the slip queue or is owed at a full one
(R155, R158, R160). -/
def Obligations.AbortAndReceiptTimer : Prop :=
  (∀ s : State,
     (s.pics.onDrum = none → ∃ t, exec .abort s = .next t ∧ Noticed .abort .noPicture s t) ∧
     (onDrumState s = .finished → ∃ t, exec .abort s = .next t ∧ Noticed .abort .wrongState s t) ∧
     (∀ slot, s.pics.onDrum = some slot → onDrumState s = .loaded →
       ∃ t, exec .abort s = .next t ∧ t.pics.onDrum = none ∧ t.rec? slot = some recEmpty ∧
         ∀ j, j ≠ slot → t.rec? j = s.rec? j) ∧
     (∀ slot, s.pics.onDrum = some slot → onDrumState s = .granted ∨ onDrumState s = .awaiting →
       ∃ t, exec .abort s = .next t ∧ t.pics.onDrum = some slot ∧ FinishedAs slot .aborted .none s t) ∧
     (∀ slot, Links s → s.pics.onDrum = some slot → onDrumState s = .sending →
       ∃ t, exec .abort s = .next t ∧ Ended .aborted s t ∧ FinishedAs slot .aborted .none s t)) ∧
  (∀ (s : State) (slot : Nat), s.pics.onDrum = some slot → onDrumState s = .awaiting →
     s.pics.receiptTimer.isSome = true →
     ∃ t, exec .receiptTimerExpiry s = .next t ∧ FinishedAs slot .noReceipt .none s t ∧
       demand t = s.drum.spinLatch ∧ lampDemand t = false)

/-- One item of a RECEIPT merged into a GRANTED record (R149, R150): a new code is appended while fewer than 32 are held, a
held code takes the new outcome in its place, and what is not kept is counted and sets TRUNCATED.
A RECEIPT without items and with more-follows clear resolves an AWAITING record (R151): GRANTED again when a required
receiver asked for a resend, attempts are left and a port is fit, FINISHED with LINES when none is; else DELIVERED when
every required receiver has GOOD or POOR, and PARTIAL otherwise. With more-follows set it changes nothing, and a number no
record carries is refused (R150).
Items merged by the RECEIPT that resolves the record count in its resolution (R151).
One item merged into a FINISHED record asks for a LATE slip when it changed the record (R152), and only then (R149): a
repeated outcome, or an item dropped with the dropped count at its largest value, changes nothing; a new code, another
outcome for a held one, and a raised dropped count do. The LATE slip joins the slip queue or is owed at a full one, unless
it waits already (R158); the final outcome stays. -/
def Obligations.ReceiptJudged : Prop :=
  (∀ (s : State) (o : Order) (slot : Nat) (r : PicRecord) (n0 n1 more c w : Byte) (out : ReceiptOutcome),
     HeadOrder .receipt o s → o.payload = [n0, n1, more, 1, c, w] → slotOfNumber s (wordAt o.payload 0) = some slot →
     s.rec? slot = some r → r.state = .granted →
     (1 ≤ c.toNat → c.toNat ≤ 62 → ReceiptOutcome.ofCode w.toNat = some out →
       ((∀ i ∈ r.receipts, i.code ≠ c.toNat) → r.receipts.length < 32 →
         ∃ t, exec .receipt s = .next t ∧ Answered o (ackOf o 0) s t ∧
           t.rec? slot = some { r with receipts := r.receipts ++ [⟨c.toNat, out⟩] }) ∧
       ((∀ i ∈ r.receipts, i.code ≠ c.toNat) → 32 ≤ r.receipts.length →
         ∃ t, exec .receipt s = .next t ∧ Answered o (ackOf o 2) s t ∧
           t.rec? slot = some { r with dropped := satInc 65535 r.dropped }) ∧
       (∀ before after old, r.receipts = before ++ ⟨c.toNat, old⟩ :: after →
         (∀ i ∈ before ++ after, i.code ≠ c.toNat) →
         ∃ t, exec .receipt s = .next t ∧ Answered o (ackOf o 0) s t ∧
           t.rec? slot = some { r with receipts := before ++ ⟨c.toNat, out⟩ :: after })) ∧
     (c.toNat = 0 ∨ 62 < c.toNat ∨ 3 < w.toNat →
       ∃ t, exec .receipt s = .next t ∧ Answered o (ackOf o 2) s t ∧
         t.rec? slot = some { r with dropped := satInc 65535 r.dropped })) ∧
  (∀ (s : State) (o : Order) (n0 n1 more : Byte), HeadOrder .receipt o s → o.payload = [n0, n1, more, 0] →
     (slotOfNumber s (wordAt o.payload 0) = none →
       ∃ t, exec .receipt s = .next t ∧ Refused o .unknownPicture s t) ∧
     ∀ slot r, slotOfNumber s (wordAt o.payload 0) = some slot → s.rec? slot = some r →
       (r.state = .sending → ∃ t, exec .receipt s = .next t ∧ Refused o .wrongState s t) ∧
       (r.state = .awaiting → more.getLsbD 0 = true →
         ∃ t, exec .receipt s = .next t ∧ Answered o (ackOf o 0) s t ∧
           Only [.orders, .portA, .portB, .panel] s t) ∧
       (r.state = .awaiting → more.getLsbD 0 = false →
         let resend := (∃ c ∈ requiredCodes s, outcomeFor r c = some .resend) ∧
           r.attempts.length < (r.grant.map (·.allowed)).getD 0
         let all := ∀ c ∈ requiredCodes s, outcomeFor r c = some .good ∨ outcomeFor r c = some .poor
         ∃ t, exec .receipt s = .next t ∧ Answered o (ackOf o 0) s t ∧ t.pics.receiptTimer = none ∧
           (t.rec? slot).map (·.receipts) = some r.receipts ∧
           (resend → (s.portA.cause = .none ∨ s.portB.cause = .none) → s.lamp.state ≠ .warm →
             (t.rec? slot).map (·.state) = some .granted ∧ t.pics.finishOrder = s.pics.finishOrder) ∧
           (resend → s.portA.cause ≠ .none → s.portB.cause ≠ .none → FinishedAs slot .failed .lines s t) ∧
           (¬ resend → all → FinishedAs slot .delivered .none s t) ∧
           (¬ resend → ¬ all → FinishedAs slot .partly .none s t))) ∧
  (∀ (s : State) (o : Order) (slot : Nat) (r : PicRecord) (n0 n1 more c w : Byte) (out : ReceiptOutcome),
     HeadOrder .receipt o s → o.payload = [n0, n1, more, 1, c, w] → slotOfNumber s (wordAt o.payload 0) = some slot →
     s.rec? slot = some r → r.state = .awaiting → more.getLsbD 0 = false → 1 ≤ c.toNat → c.toNat ≤ 62 →
     ReceiptOutcome.ofCode w.toNat = some out → r.receipts.length < 32 → (r.receipts.map (·.code)).Nodup →
     let held (x : Nat) := if x = c.toNat then some out else outcomeFor r x
     let resend := (∃ x ∈ requiredCodes s, held x = some .resend) ∧
       r.attempts.length < (r.grant.map (·.allowed)).getD 0
     let all := ∀ x ∈ requiredCodes s, held x = some .good ∨ held x = some .poor
     ∃ t, exec .receipt s = .next t ∧ Answered o (ackOf o 0) s t ∧ t.pics.receiptTimer = none ∧
       (∃ q, t.rec? slot = some q ∧ ∀ x, outcomeFor q x = held x) ∧
       (resend → (s.portA.cause = .none ∨ s.portB.cause = .none) → s.lamp.state ≠ .warm →
         (t.rec? slot).map (·.state) = some .granted ∧ t.pics.finishOrder = s.pics.finishOrder) ∧
       (resend → s.portA.cause ≠ .none → s.portB.cause ≠ .none → FinishedAs slot .failed .lines s t) ∧
       (¬ resend → all → FinishedAs slot .delivered .none s t) ∧
       (¬ resend → ¬ all → FinishedAs slot .partly .none s t)) ∧
  (∀ (s : State) (o : Order) (slot : Nat) (r : PicRecord) (n0 n1 more c w : Byte),
     HeadOrder .receipt o s → o.payload = [n0, n1, more, 1, c, w] → slotOfNumber s (wordAt o.payload 0) = some slot →
     s.rec? slot = some r → r.state = .finished →
     let late (flags : Byte) (receipts : List ReceiptItem) (dropped : Nat) := ∃ t, exec .receipt s = .next t ∧
       Answered o (ackOf o flags) s t ∧ Only [.orders, .portA, .portB, .pics, .slips, .conv, .panel] s t ∧
       (∃ q, t.rec? slot = some q ∧ q.receipts = receipts ∧ q.dropped = dropped ∧ q.state = .finished ∧
         q.final = r.final) ∧
       (⟨slot, .late⟩ ∉ waitingRequests s.slips → SlipAsked slot .late s t) ∧
       (⟨slot, .late⟩ ∈ waitingRequests s.slips → t.slips = s.slips)
     let nothing (flags : Byte) := ∃ t, exec .receipt s = .next t ∧ Answered o (ackOf o flags) s t ∧
       Only [.orders, .portA, .portB, .panel] s t
     (∀ out, ReceiptOutcome.ofCode w.toNat = some out → 1 ≤ c.toNat → c.toNat ≤ 62 →
       (⟨c.toNat, out⟩ ∈ r.receipts → (r.receipts.map (·.code)).Nodup → nothing 0) ∧
       (∀ before after old, r.receipts = before ++ ⟨c.toNat, old⟩ :: after →
         (∀ i ∈ before ++ after, i.code ≠ c.toNat) → old ≠ out →
         late 0 (before ++ ⟨c.toNat, out⟩ :: after) r.dropped) ∧
       ((∀ i ∈ r.receipts, i.code ≠ c.toNat) → r.receipts.length < 32 →
         late 0 (r.receipts ++ [⟨c.toNat, out⟩]) r.dropped) ∧
       ((∀ i ∈ r.receipts, i.code ≠ c.toNat) → 32 ≤ r.receipts.length →
         (r.dropped < 65535 → late 2 r.receipts (r.dropped + 1)) ∧ (r.dropped = 65535 → nothing 2))) ∧
     (c.toNat = 0 ∨ 62 < c.toNat ∨ 3 < w.toNat →
       (r.dropped < 65535 → late 2 r.receipts (r.dropped + 1)) ∧ (r.dropped = 65535 → nothing 2)))

/-- A LOAD at the table store (R121 to R134): an entry outside its table and a content that fails its checks are refused; an
accepted one is clamped (R123), the ACK telling of it, counts at its kind, and becomes the live copy when its table, or its
entry, is not in use, else the pending copy (R124). A live STANDARD entry that changes the standard in force of a turning
drum relocks it (R13, R33); a live drum profile brings its cycle length (R19). That ROSTER code 0 empties its entry whatever
else the content holds is the model's reading (log 34). -/
def Obligations.LoadJudged : Prop :=
  ∀ (s : State) (o : Order), HeadOrder .load o s →
    let kind := byteAt o.payload 0
    let i := byteAt o.payload 1
    let c := o.payload.drop 2
    let refused (x : Reason) := ∃ t, exec .load s = .next t ∧ Refused o x s t
    let answered (clamped : Prop) (t : State) :=
      (clamped → Answered o (ackOf o 1) s t) ∧ (¬ clamped → Answered o (ackOf o 0) s t)
    let stored (t : State) (x : Tables) :=
      t.tables = { x with counts := s.tables.counts.modify (kind - 1) fun n => (n + 1) % 256 }
    let quiet (t : State) := Only [.orders, .portA, .portB, .tables, .panel] s t
    (∀ k, TableKind.ofCode kind = some k → entryCount k ≤ i → refused .badIndex) ∧
    (kind = 1 → i = 0 → ∃ t, exec .load s = .next t ∧ answered False t ∧ quiet t ∧
      (attemptInProgress s = false → stored t { s.tables with tone := c.map (·.toNat) }) ∧
      (attemptInProgress s = true → stored t { s.tables with tonePending := some (c.map (·.toNat)) })) ∧
    (∀ e, kind = 2 → i < 4 → e = { w := wordAt c 0, pitch := byteAt c 2, dff := wordAt c 3 } →
      (¬ standardOk e → refused .badTableData) ∧
      (standardOk e → ∃ t, exec .load s = .next t ∧ answered False t ∧
        (attemptInProgress s = true ∧ standardNumber s = i →
          quiet t ∧ stored t { s.tables with standardPending := some (i, e) }) ∧
        (attemptInProgress s = false ∨ standardNumber s ≠ i →
          stored t { s.tables with standards := s.tables.standards.set i e } ∧
          (standardNumber s ≠ i ∨ (s.drum.state ≠ .tracking ∧ s.drum.state ≠ .locked) → quiet t) ∧
          (standardNumber s = i → i < s.tables.standards.length → (s.drum.state = .tracking ∨ s.drum.state = .locked) →
            demand s = true → (standardInForce s).w ≠ e.w ∨ (standardInForce s).dff ≠ e.dff →
            t.drum = { s.drum with state := .tracking } ∧
              t.reg = { s.reg with integ := 0, lockCount := 0, unlockCount := 0 })))) ∧
    (∀ p, kind = 3 → i = 0 → p = rawDrum c → (drumOk p = false → refused .badTableData) ∧
      (drumOk p = true →
        let hi := min p.dutyMax (2 ^ p.cycleExp)
        let taken := { p with dutyMax := hi, dutyMin := min p.dutyMin hi }
        ∃ t, exec .load s = .next t ∧ answered (p.dutyMax ≠ hi ∨ p.dutyMin ≠ min p.dutyMin hi) t ∧
          (s.drum.state = .stopped → t.drum = { s.drum with cycleLen := 2 ^ p.cycleExp } ∧
            Only [.orders, .portA, .portB, .tables, .drum, .panel] s t ∧ stored t { s.tables with drum := taken }) ∧
          (s.drum.state ≠ .stopped → quiet t ∧ stored t { s.tables with drumPending := some taken }))) ∧
    (kind = 4 → i = 0 → (scanOk (rawScan c) = false → refused .badTableData) ∧
      (scanOk (rawScan c) = true → ∃ t, exec .load s = .next t ∧ answered False t ∧ quiet t ∧
        (s.head.state = .parked ∧ attemptInProgress s = false → stored t { s.tables with scan := rawScan c }) ∧
        (s.head.state ≠ .parked ∨ attemptInProgress s = true →
          stored t { s.tables with scanPending := some (rawScan c) }))) ∧
    (kind = 5 → i < 2 → (1 < byteAt c 3 → refused .badTableData) ∧
      (∀ pol, Polarity.ofCode (byteAt c 3) = some pol →
        let p := rawLine c pol
        let taken := { p with
          aWhite := min p.aWhite 1023, aBlack := min p.aBlack 1023, startAmp := min p.startAmp 1023
          stopAmp := min p.stopAmp 1023, carrierFreq := max 1200 (min p.carrierFreq 2400)
          lossTime := max p.lossTime 10 }
        (lineOk p = false → refused .badTableData) ∧
        (lineOk p = true → ∃ t, exec .load s = .next t ∧ answered (taken ≠ p) t ∧ quiet t ∧
          (i = 0 → (s.port .a).activity ≠ .carrying → stored t { s.tables with lineA := taken }) ∧
          (i = 1 → (s.port .b).activity ≠ .carrying → stored t { s.tables with lineB := taken }) ∧
          (i = 0 → (s.port .a).activity = .carrying → stored t { s.tables with linePending := some (.a, taken) }) ∧
          (i = 1 → (s.port .b).activity = .carrying →
            stored t { s.tables with linePending := some (.b, taken) })))) ∧
    (kind = 6 → i = 0 → ((∃ b ∈ c, 2 < b.toNat) → refused .badTableData) ∧
      (∀ a : List Accept, c.map (fun b => Accept.ofCode b.toNat) = a.map some →
        (a.take 3 ≠ [.take, .take, .take] ∨ (a.drop 27).take 3 ≠ [.take, .take, .take] → refused .badTableData) ∧
        (a.take 3 = [.take, .take, .take] → (a.drop 27).take 3 = [.take, .take, .take] →
          ∃ t, exec .load s = .next t ∧ answered False t ∧ quiet t ∧ stored t { s.tables with accept := a }))) ∧
    (kind = 7 → i < 32 →
      let code := byteAt c 0
      let name := (c.drop 1).take 8
      let good := code ≤ 62 ∧ name.all isText = true ∧ byteAt c 9 ≤ 1 ∧
        ∀ j, j < 32 → j ≠ i → (s.tables.roster.getD j rosterEmpty).code ≠ code
      (code ≠ 0 → ¬ good → refused .badTableData) ∧
      (code = 0 → ∃ t, exec .load s = .next t ∧ answered False t ∧ quiet t ∧
        stored t { s.tables with roster := s.tables.roster.set i ⟨0, List.replicate 8 32, false⟩ }) ∧
      (code ≠ 0 → good → ∃ t, exec .load s = .next t ∧ answered False t ∧ quiet t ∧
        stored t { s.tables with roster := s.tables.roster.set i ⟨code, name, decide (byteAt c 9 = 1)⟩ })) ∧
    (kind = 8 → i < 12 →
      let good := c.length ≤ 32 ∧ ∀ b ∈ c, (32 ≤ b.toNat ∧ b.toNat ≤ 126) ∨ (128 ≤ b.toNat ∧ b.toNat ≤ 141)
      (¬ good → refused .badTableData) ∧
      (good → ∃ t, exec .load s = .next t ∧ answered False t ∧ quiet t ∧
        stored t { s.tables with template := s.tables.template.set i c })) ∧
    (∀ x, kind = 9 → i = 0 → x = rawStrobe c → (strobeOk x = false → refused .badTableData) ∧
      (strobeOk x = true →
        let taken := { x with bands := x.bands.map fun b => ⟨b.threshold, max 100 (min b.base 4000)⟩ }
        ∃ t, exec .load s = .next t ∧ answered (taken ≠ x) t ∧ quiet t ∧
          stored t { s.tables with strobe := taken }))

/-- The pending copies come into force at the end of their tables' use (R124, R125), the load counts unchanged: TONE and
STANDARD at the attempt's end, SCAN there too when the head is PARKED; SCAN when the home sensor parks the head with no
attempt in progress, before a GRANTED record's head positions by it; LINE when its port leaves CARRYING, the other port's
profile untouched. DRUM at the entry to STOPPED has its statement with the braking (R8). -/
def Obligations.PendingCopiesApplied : Prop :=
  (∀ s : State, Links s → onDrumState s = .sending → ∃ t, exec .abort s = .next t ∧
     t.tables.counts = s.tables.counts ∧
     t.tables.tone = s.tables.tonePending.getD s.tables.tone ∧ t.tables.tonePending = none ∧
     t.tables.standardPending = none ∧ (s.tables.standardPending = none → t.tables.standards = s.tables.standards) ∧
     (∀ k e, s.tables.standardPending = some (k, e) → t.tables.standards = s.tables.standards.set k e) ∧
     (s.head.state = .parked → t.tables.scan = s.tables.scanPending.getD s.tables.scan ∧
       t.tables.scanPending = none) ∧
     (s.head.state = .rewinding →
       t.tables.scan = s.tables.scan ∧ t.tables.scanPending = s.tables.scanPending)) ∧
  (∀ (s : State) (p : ScanProfile), s.head.state = .rewinding → attemptInProgress s = false →
     s.tables.scanPending = some p → ∃ t, exec (.homeSensorAssert true) s = .next t ∧
       t.tables = { s.tables with scan := p, scanPending := none } ∧
       (onDrumState s ≠ .granted → t.head.state = .parked ∧ t.head.pos = 0) ∧
       (onDrumState s = .granted → 2 ≤ p.startOffset → 1 ≤ p.travelLimit →
         t.head.state = .positioning ∧ t.head.pos = 1 ∧ t.head.stepTimer = some p.fastStepInterval)) ∧
  (∀ (s : State) (q p : PortId) (lp : LineProfile), s.tables.linePending = some (q, lp) →
     s.sender.state = .stopTone → s.sender.stageTimer.isSome = true → s.sender.port = some p →
     ∃ t, exec .stopToneTimerExpiry s = .next t ∧ t.tables.counts = s.tables.counts ∧
       (q = p → lineOf t p = lp ∧ lineOf t p.other = lineOf s p.other ∧ t.tables.linePending = none) ∧
       (q ≠ p → t.tables = s.tables))

/-- CLOCK sets the station clock or is refused (R175), LINEUP places its request, which starts at once on an IDLE port, or is
refused (R97), LINE CLEAR clears the fault of the ports it names, their other counts kept, or is refused (R84). -/
def Obligations.ClockAndLineOrders : Prop :=
  (∀ (s : State) (o : Order), HeadOrder .clock o s →
    let f := clockFields o.payload
    let valid := 1 ≤ f.month ∧ f.month ≤ 12 ∧ 1 ≤ f.day ∧ f.day ≤ daysInMonth f.month f.year ∧ f.year ≤ 99 ∧
      f.hour ≤ 23 ∧ f.minute ≤ 59 ∧ f.second ≤ 59
    (valid → ∃ t, exec .clock s = .next t ∧ Answered o (ackOf o 0) s t ∧
      Only [.orders, .portA, .portB, .clock, .panel] s t ∧
      t.clock = { day := f.day, month := f.month, year := f.year, hour := f.hour, minute := f.minute
                  second := f.second, sub := 0, isSet := true }) ∧
    (¬ valid → ∃ t, exec .clock s = .next t ∧ Refused o .badTableData s t)) ∧
  (∀ (s : State) (o : Order), HeadOrder .lineup o s →
    let p := portOfByte (o.payload.getD 0 0)
    (s.sender.state ≠ .free ∨ s.sender.lineupReq ≠ none →
      ∃ t, exec .lineup s = .next t ∧ Refused o .wrongState s t) ∧
    (s.sender.state = .free → s.sender.lineupReq = none → (s.port p).cause ≠ .none →
      ∃ t, exec .lineup s = .next t ∧ Refused o .portFault s t) ∧
    (s.sender.state = .free → s.sender.lineupReq = none → (s.port p).cause = .none →
      ∃ t, exec .lineup s = .next t ∧ Answered o (ackOf o 0) s t ∧
        Only [.orders, .portA, .portB, .sender, .panel] s t ∧
        ((s.port p).activity ≠ .idle → t.sender = { s.sender with lineupReq := some p }) ∧
        ((s.port p).activity = .idle → (t.port p).activity = .carrying ∧ t.sender = { s.sender with
          state := .lineupWhite, port := some p, stageTimer := some ((lineOf s p).lineupTime * 100000) }))) ∧
  (∀ (s : State) (o : Order), HeadOrder .lineClear o s →
    ((∀ p, clearNames o.payload p = false) → ∃ t, exec .lineClear s = .next t ∧ Refused o .badIndex s t) ∧
    (∀ q, clearNames o.payload q = true → ∃ t, exec .lineClear s = .next t ∧ Answered o (ackOf o 0) s t ∧
      (onDrumState s ≠ .granted → s.sender.lineupReq = none → Only [.orders, .portA, .portB, .panel] s t) ∧
      ∀ p, (t.port p).blockErrors = (s.port p).blockErrors ∧ (t.port p).echoFailures = (s.port p).echoFailures ∧
        (clearNames o.payload p = true → (t.port p).cause = .none ∧ (t.port p).consecEcho = 0) ∧
        (clearNames o.payload p = false →
          (t.port p).cause = (s.port p).cause ∧ (t.port p).consecEcho = (s.port p).consecEcho)))

/-- MECH CLEAR and RESET MECH (R17, R58): refused in CUTOFF with the cover open; else a drum in CUTOFF without demand is
STOPPED, its last fault kept, and a head in FAULT rewinds under the long limit, its first step made. -/
def Obligations.MechRequests : Prop :=
  ∀ (s : State) (c : Instr) (r : Option Order), (c = .resetMech ∧ r = none) ∨
      (c = .mechClear ∧ ∃ o, r = some o ∧ HeadOrder .mechClear o s) →
    (s.drum.state = .cutoff → s.pins.coverClosed = false → ∃ t, exec c s = .next t ∧
      (∀ o, r = some o → Refused o .coverOpen s t) ∧ (r = none → Noticed .resetMech .coverOpen s t)) ∧
    ((s.drum.state = .cutoff → s.pins.coverClosed = true ∧ demand s = false) → s.head.state = .fault →
      s.pins.homeAsserted = false → 2 ≤ s.tables.scan.travelLimit + s.tables.scan.rewindMargin →
      ∃ t, exec c s = .next t ∧ (∀ o, r = some o → Answered o (ackOf o 0) s t) ∧
        (s.drum.state = .cutoff → t.drum.state = .stopped) ∧ (s.drum.state ≠ .cutoff → t.drum = s.drum) ∧
        t.drum.lastFault = s.drum.lastFault ∧ t.head.state = .rewinding ∧ t.head.rewindCount = 1 ∧
        t.head.rewindLimit = s.tables.scan.travelLimit + s.tables.scan.rewindMargin ∧
        t.head.pos = s.head.pos - 1 ∧ t.head.stepTimer = some s.tables.scan.fastStepInterval) ∧
    (s.drum.state ≠ .cutoff → s.head.state ≠ .fault → ∃ t, exec c s = .next t ∧
      (∀ o, r = some o → Answered o (ackOf o 0) s t) ∧ Only [.orders, .portA, .portB, .panel] s t)

/-- A RESTART (R85, R98, R112, R178). It changes: the queue is empty, the SPIN latch clear and a drum that lost its demand
brakes, each port's counts are 0, a port that does not carry is without fault and its report list empty but for the RESTART's
own ACK; a waiting line-up request is cleared; an attempt in progress ends RESTARTED, its record FINISHED ABORTED; a line-up
ends, its port IDLE. A report being sent goes on: see the RESTART at a full queue (OrdersTaken).
It keeps: the duties, the cycle length and the last fault, a drum in CUTOFF, a head in FAULT and its H, every other record, the
next serial, the load counts, the tables no attempt uses, the clock, the station, a port CARRYING but for a line-up; with no
attempt in progress and none about to start, the receipt timer, the finish order, the slips, all tables and the rest too.
The flag that ties an order to its reservation is the model's (log 24). -/
def Obligations.RestartClears : Prop :=
  ∀ (s : State) (o : Order), HeadOrder .restart o s → (o.broadcast = true → o.reserved = false) →
    let own (p : PortId) := o.port = p ∧ o.broadcast = false ∧ o.reserved = true
    let dropped := s.drum.spinLatch = true ∧ demand { s with drum := { s.drum with spinLatch := false } } = false ∧
      (s.drum.state = .spinup ∨ s.drum.state = .tracking ∨ s.drum.state = .locked)
    ∃ t, exec .restart s = .next t ∧ t.orders = [] ∧ t.drum.spinLatch = false ∧ t.sender.lineupReq = none ∧
      (∀ p, (t.port p).blockErrors = 0 ∧ (t.port p).echoFailures = 0 ∧ (t.port p).consecEcho = 0 ∧
        ((s.port p).activity ≠ .carrying → (t.port p).cause = .none ∧
          (t.port p).list = if own p then [.report (ackOf o 0)] else [])) ∧
      (t.drum.pendingDuty = s.drum.pendingDuty ∧ t.drum.activeDuty = s.drum.activeDuty ∧
        t.drum.cycleLen = s.drum.cycleLen ∧ t.drum.lastFault = s.drum.lastFault ∧
        (s.drum.state = .cutoff → t.drum.state = .cutoff) ∧ (s.head.state = .fault → t.head = s.head)) ∧
      (∀ j, s.pics.onDrum ≠ some j → t.rec? j = s.rec? j) ∧ t.pics.nextSerial = s.pics.nextSerial ∧
      t.tables.counts = s.tables.counts ∧ t.tables.accept = s.tables.accept ∧ t.tables.roster = s.tables.roster ∧
      t.tables.template = s.tables.template ∧ t.tables.strobe = s.tables.strobe ∧ t.clock = s.clock ∧
      t.station = s.station ∧
      (∀ p, (s.port p).activity = .carrying → s.sender.state.inLineup = false → (t.port p).activity = .carrying) ∧
      (attemptInProgress s = false → s.sender.state.inLineup = false →
        onDrumState s ≠ .granted ∨ s.lamp.state ≠ .warm →
        Only [.orders, .portA, .portB, .drum, .sender, .panel] s t ∧ t.sender = { s.sender with lineupReq := none } ∧
        (dropped → t.drum = { s.drum with
          state := .braking, spinLatch := false, modeReq := some .brake, brakingW := (standardInForce s).w
          brakingTimer := some (s.tables.drum.brakeTime * 100000), silenceTimer := some (10 * (standardInForce s).w)
          stallDeadline := none, spinupTimer := none }) ∧
        (¬ dropped → t.drum = { s.drum with spinLatch := false })) ∧
      (∀ slot, Links s → s.pics.onDrum = some slot → onDrumState s = .sending →
        Ended .restarted s t ∧ FinishedAs slot .aborted .none s t) ∧
      (∀ p, s.sender.state.inLineup = true → s.sender.port = some p → (s.port p).activity = .carrying →
        s.tables.linePending = none → onDrumState s ≠ .granted → ¬ own p → attemptInProgress s = false →
        Only [.orders, .portA, .portB, .drum, .sender, .panel] s t ∧ (t.port p).activity = .idle ∧
        t.sender = { s.sender with state := .free, port := none, stageTimer := none, lineupReq := none })

/-- A SLIP order and the REPRINT key (R158, R161): refused for a missing record, one in another state, and a full queue;
else the request joins the queue, and with an idle printer and an empty queue its slip starts with the record's
snapshot. One that waits already is merged: acknowledged, and the queue unchanged. The record of an accepted request reads
QUEUED, or OWED while it owes a slip (R160). -/
def Obligations.ReprintsRequested : Prop :=
  (∀ (s : State) (o : Order), HeadOrder .slip o s →
    (slotOfNumber s (wordAt o.payload 0) = none → ∃ t, exec .slip s = .next t ∧ Refused o .unknownPicture s t) ∧
    ∀ slot r, slotOfNumber s (wordAt o.payload 0) = some slot → s.rec? slot = some r →
      (r.state ≠ .finished → ∃ t, exec .slip s = .next t ∧ Refused o .wrongState s t) ∧
      (r.state = .finished → 8 ≤ s.slips.queue.length → ⟨slot, .reprint⟩ ∉ waitingRequests s.slips →
        ∃ t, exec .slip s = .next t ∧ Refused o .queueFull s t) ∧
      (r.state = .finished → s.slips.queue.length < 8 → ⟨slot, .reprint⟩ ∉ waitingRequests s.slips →
        ∃ t, exec .slip s = .next t ∧ Answered o (ackOf o 0) s t ∧
          t.slips.queue = s.slips.queue ++ [⟨slot, .reprint⟩] ∧
          (t.rec? slot).map (·.slip) = some (if (owedOf s slot).isEmpty = true then .queued else .owed)) ∧
      (r.state = .finished → ⟨slot, .reprint⟩ ∈ waitingRequests s.slips →
        ∃ t, exec .slip s = .next t ∧ Answered o (ackOf o 0) s t ∧ Only [.orders, .portA, .portB, .pics, .panel] s t ∧
          t.pics = { s.pics with records := s.pics.records.set slot { r with
            slip := if (owedOf s slot).isEmpty = true then .queued else .owed } })) ∧
  (∀ s : State, s.pics.onDrum = none → ∃ t, exec .reprint s = .next t ∧ Noticed .reprint .noPicture s t) ∧
  (∀ (s : State) (slot : Nat) (r : PicRecord), s.pics.onDrum = some slot → s.rec? slot = some r →
    (r.state ≠ .finished → ∃ t, exec .reprint s = .next t ∧ Noticed .reprint .wrongState s t) ∧
    (r.state = .finished → 8 ≤ s.slips.queue.length → ⟨slot, .reprint⟩ ∉ waitingRequests s.slips →
      ∃ t, exec .reprint s = .next t ∧ Noticed .reprint .queueFull s t) ∧
    (r.state = .finished → ⟨slot, .reprint⟩ ∈ waitingRequests s.slips →
      ∃ t, exec .reprint s = .next t ∧ Only [.pics, .panel] s t ∧
        t.pics = { s.pics with records := s.pics.records.set slot { r with
          slip := if (owedOf s slot).isEmpty = true then .queued else .owed } }) ∧
    (r.state = .finished → s.slips.queue.length < 8 → ⟨slot, .reprint⟩ ∉ waitingRequests s.slips →
      ∃ t, exec .reprint s = .next t ∧ Only [.pics, .slips, .conv, .panel] s t ∧
        t.slips.queue = s.slips.queue ++ [⟨slot, .reprint⟩] ∧
        (t.rec? slot).map (·.slip) = some (if (owedOf s slot).isEmpty = true then .queued else .owed)) ∧
    (r.state = .finished → s.slips.queue = [] → s.slips.started = false → s.slips.printer = .idle →
      ∃ t, exec .reprint s = .next t ∧ Only [.pics, .slips, .conv, .panel] s t ∧
        t.slips.queue = [⟨slot, .reprint⟩] ∧ t.slips.started = true ∧ t.slips.printer = .printing ∧
        t.slips.image = snapshot s r .reprint ∧ t.slips.pos = .row 0 0))

/-! ### Slip unit (09) -/

/-- The dot-line cycle (R165): a strobe's end starts the next block's strobe or the first feed step; the second feed step
follows feed_interval later; the next dot line begins feed_interval after that, a printed one with a thermistor request and
a blank one with its feed. That the interval is the one taken at the last band choice is the model's choice (log 36).
The end of a slip (R159, R160, R167): after the last blank line of the final feed the head request leaves the queue, its
record's print count rises, and with nothing waiting or owed the printer is IDLE and the record PRINTED. With a full queue
the freed place goes to the slot earliest in the finish order that owes a slip, FINAL before LATE, and the next slip
starts (R159, R161). -/
def Obligations.SlipPrints : Prop :=
  (∀ s : State,
     (∀ a b rest, s.slips.phase = .strobing → s.slips.strobes = a :: b :: rest →
       ∃ t, exec .strobeEnd s = .next t ∧ Only [.slips] s t ∧
         t.slips = { s.slips with strobes := b :: rest, dotTimer := some b }) ∧
     (∀ a, s.slips.phase = .strobing → s.slips.strobes = [a] →
       ∃ t, exec .strobeEnd s = .next t ∧ Only [.slips] s t ∧
         t.slips = { s.slips with
           phase := .feedFirst, strobes := [], dotTimer := some s.slips.feed }) ∧
     (s.slips.phase = .feedFirst → ∃ t, exec .feedIntervalExpiry s = .next t ∧ Only [.slips, .panel] s t ∧
       t.slips = { s.slips with phase := .feedSecond, dotTimer := some s.slips.feed }) ∧
     (∀ i d, s.slips.phase = .feedSecond → s.slips.pos = .row i d → d < 23 → s.slips.thermOut = false →
       s.conv.current = none →
       ∃ t, exec .feedIntervalExpiry s = .next t ∧ Only [.slips, .conv, .panel] s t ∧
         t.slips = { s.slips with
           pos := .row i (d + 1), phase := .reading, strobes := [], dotTimer := none, thermOut := true } ∧
         t.conv = { s.conv with current := some .thermistor }) ∧
     (∀ i d, s.slips.phase = .feedSecond → s.slips.pos = .row i d → 23 ≤ d → d < 31 →
       ∃ t, exec .feedIntervalExpiry s = .next t ∧ Only [.slips, .panel] s t ∧
         t.slips = { s.slips with
           pos := .row i (d + 1), phase := .feedFirst, strobes := []
           dotTimer := some s.slips.feed })) ∧
  (∀ (s : State) (q : SlipReq) (r : PicRecord), s.slips.phase = .feedSecond → s.slips.pos = .feed 79 →
     s.slips.queue = [q] → s.rec? q.slot = some r → (∀ o ∈ s.slips.owed, o = ⟨false, false⟩) →
     ∃ t, exec .feedIntervalExpiry s = .next t ∧ Only [.slips, .pics, .panel] s t ∧
       t.slips = { s.slips with
         queue := [], started := false, printer := .idle, phase := .idle, dotTimer := none } ∧
       t.rec? q.slot = some { r with prints := satInc 255 r.prints, slip := .printed }) ∧
  (∀ (s : State) (q n : SlipReq) (rest : List SlipReq) (before after : List Nat) (j : Nat) (o : OwedSet),
     s.slips.phase = .feedSecond → s.slips.pos = .feed 79 → s.slips.queue = q :: n :: rest → rest.length = 6 →
     s.pics.finishOrder = before ++ j :: after → (∀ i ∈ before, s.slips.owed[i]? = some ⟨false, false⟩) →
     s.slips.owed[j]? = some o → (o.final = true ∨ o.late = true) →
     ∃ t, exec .feedIntervalExpiry s = .next t ∧ Only [.slips, .pics, .conv, .panel] s t ∧
       t.slips.started = true ∧ t.slips.printer = .printing ∧
       (o.final = true → t.slips.queue = n :: rest ++ [⟨j, .final⟩] ∧
         t.slips.owed = s.slips.owed.set j { o with final := false }) ∧
       (o.final = false → t.slips.queue = n :: rest ++ [⟨j, .late⟩] ∧
         t.slips.owed = s.slips.owed.set j { o with late := false }))

/-- What a slip carries (R161 to R163): the header of its kind, the expanded template lines as far as 40 lines hold them, the
trailer; a receipt line for each item; every line cut at 32 characters, its mark telling of the cut. The field values and
the words are those of the tables of R162 and R163. -/
def Obligations.SlipContents : Prop :=
  ∀ (s : State) (r : PicRecord),
    let digit (n : Nat) : Byte := BitVec.ofNat 8 (48 + n % 10)
    let two (n : Nat) := [digit (n / 10), digit n]
    let time : Option Reading → List Byte
      | some x => two x.hour ++ [58] ++ two x.minute ++ [58] ++ two x.second
      | none => [45, 45, 58, 45, 45, 58, 45, 45]
    let five (n : Nat) := [digit (n / 10000), digit (n / 1000), digit (n / 100), digit (n / 10), digit n]
    let lines := s.tables.template.flatMap (templateImage s r)
    let line (text : List Byte) : ImageLine := { text := text.take 32, cut := decide (32 < text.length) }
    let trailer := (if r.skewed = true then [line [83, 75, 69, 87, 69, 68]] else []) ++
      (if r.dropped = 0 then [] else [line (ascii ['R', 'E', 'C', 'E', 'I', 'P', 'T', 'S', ' ', 'D', 'R', 'O', 'P', 'P',
        'E', 'D', ' '] ++ five r.dropped)])
    let whole (header : List ImageLine) (kind : SlipKind) : Prop :=
      (snapshot s r kind).length ≤ 40 ∧ header <+: snapshot s r kind ∧ trailer <:+ snapshot s r kind ∧
        (header.length + lines.length + trailer.length ≤ 40 → snapshot s r kind = header ++ lines ++ trailer) ∧
        (40 ≤ header.length + lines.length + trailer.length → (snapshot s r kind).length = 40)
    whole [] .final ∧
    whole [line (ascii ['L', 'A', 'T', 'E', ' ', 'R', 'E', 'C', 'E', 'I', 'P', 'T', 'S'])] .late ∧
    (let reprint (number : List Byte) := whole [line (ascii ['R', 'E', 'P', 'R', 'I', 'N', 'T', ' '] ++ number)] .reprint
     let n := r.prints + 1
     (n ≤ 9 → reprint [digit n]) ∧ (10 ≤ n → n ≤ 99 → reprint (two n)) ∧
       (100 ≤ n → n ≤ 256 → reprint (digit (n / 100) :: two n))) ∧
    (∀ l ∈ s.tables.template, l = [] → templateImage s r l = []) ∧
    (∀ l : List Byte, l ≠ [] → (139 : Byte) ∉ l → templateImage s r l = [line (expandLine s r [] l)]) ∧
    (∀ l : List Byte, (139 : Byte) ∈ l → r.receipts = [] →
      templateImage s r l = [line (expandLine s r (padTo 16 [78, 79, 78, 69]) l)]) ∧
    (∀ l : List Byte, (139 : Byte) ∈ l → (templateImage s r l).length = max 1 r.receipts.length ∧
      ∀ (j : Nat) (i : ReceiptItem), r.receipts[j]? = some i →
        (templateImage s r l)[j]? = some (line (expandLine s r (receiptText s i) l))) ∧
    (∀ (item : List Byte) (b : Byte) (l : List Byte), b.toNat < 128 → expandLine s r item (b :: l) = b :: expandLine s r item l) ∧
    (∀ (item : List Byte) (b : Byte) (l : List Byte), 128 ≤ b.toNat →
      expandLine s r item (b :: l) = fieldText s r item b.toNat ++ expandLine s r item l) ∧
    (∀ item n, r.number = some n →
      fieldText s r item 128 = [digit (n / 1000), digit (n / 100), digit (n / 10), digit n]) ∧
    (∀ item m, r.mount = some m → m.slug.length ≤ 16 →
      fieldText s r item 129 = m.slug ++ List.replicate (16 - m.slug.length) 32 ∧
        fieldText s r item 130 = five m.serial) ∧
    (∀ item, s.clock.isSet = true → fieldText s r item 131 =
      two s.clock.day ++ [46] ++ two s.clock.month ++ [46] ++ two s.clock.year) ∧
    (∀ item (a : Attempt), r.attempts.getLast? = some a → a.duration ≤ 59999 →
      fieldText s r item 133 =
          [digit (a.duration / 6000), digit (a.duration / 600), digit (a.duration / 60), 58] ++ two (a.duration % 60) ∧
        fieldText s r item 134 = [if a.port = .a then 65 else 66] ∧ fieldText s r item 137 = five a.underruns) ∧
    (∀ item, r.attempts = [] → fieldText s r item 133 = [48, 48, 48, 58, 48, 48] ∧ fieldText s r item 134 = [45] ∧
      fieldText s r item 137 = [48, 48, 48, 48, 48]) ∧
    (∀ item, s.clock.isSet = false → fieldText s r item 131 = [45, 45, 46, 45, 45, 46, 45, 45]) ∧
    (∀ item (a : Attempt), r.attempts.getLast? = some a →
      fieldText s r item 132 = time a.startTime ∧ fieldText s r item 140 = time a.endTime ∧
        (59999 < a.duration → fieldText s r item 133 = [57, 57, 57, 58, 53, 57])) ∧
    (∀ item, r.attempts = [] → fieldText s r item 132 = time none ∧ fieldText s r item 140 = time none) ∧
    (∀ item g, r.grant = some g → fieldText s r item 135 = [digit r.attempts.length, 47, digit g.allowed]) ∧
    (∀ item f, r.final = some f → (f.outcome = .failed → f.cause ≠ .none) → fieldText s r item 141 = time f.time ∧
      fieldText s r item 136 = padTo 10 (match f.outcome, f.cause with
        | .delivered, _ => ascii ['D', 'E', 'L', 'I', 'V', 'E', 'R', 'E', 'D']
        | .partly, _ => ascii ['P', 'A', 'R', 'T', 'I', 'A', 'L']
        | .noReceipt, _ => ascii ['N', 'O', ' ', 'R', 'E', 'C', 'E', 'I', 'P', 'T']
        | .cancelled, _ => ascii ['C', 'A', 'N', 'C', 'E', 'L', 'L', 'E', 'D']
        | .aborted, _ => ascii ['A', 'B', 'O', 'R', 'T', 'E', 'D']
        | .failed, .line => ascii ['F', 'A', 'I', 'L', ' ', 'L', 'I', 'N', 'E']
        | .failed, .lines => ascii ['F', 'A', 'I', 'L', ' ', 'L', 'I', 'N', 'E', 'S']
        | .failed, .drum => ascii ['F', 'A', 'I', 'L', ' ', 'D', 'R', 'U', 'M']
        | .failed, .head => ascii ['F', 'A', 'I', 'L', ' ', 'H', 'E', 'A', 'D']
        | .failed, .lamp => ascii ['F', 'A', 'I', 'L', ' ', 'L', 'A', 'M', 'P']
        | .failed, .none => [])) ∧
    (∀ item, fieldText s r item 139 = item) ∧
    (∀ item, s.station.mute = true → fieldText s r item 138 = [45, 45]) ∧
    (∀ item, s.station.mute = false → fieldText s r item 138 = two s.station.code.toNat) ∧
    (∀ i : ReceiptItem, 1 ≤ i.code → i.code ≤ 62 →
      let word : List Byte := match i.outcome with
        | .good => [71, 79, 79, 68, 32, 32]
        | .poor => [80, 79, 79, 82, 32, 32]
        | .resend => [82, 69, 83, 69, 78, 68]
        | .silent => [83, 73, 76, 69, 78, 84]
      (∀ e before after, s.tables.roster = before ++ e :: after → e.code = i.code →
        (∀ x ∈ before ++ after, x.code ≠ i.code) →
        receiptText s i = e.name ++ [32] ++ word ++ [if e.required = true then 42 else 32]) ∧
      ((∀ e ∈ s.tables.roster, e.code ≠ i.code) →
        receiptText s i = [83, 84, 78, 32] ++ two i.code ++ [32, 32, 32] ++ word ++ [32]))

/-- A thermistor reading on the waiting dot line (R165, R166): above band 7's threshold the printer is HEAD_HOT and the cool
timer runs for 10 ms, its expiry asking for a new reading; in HEAD_HOT a reading above the resume level restarts it; a
reading that PAPER_OUT made stale is discarded (log 18).
A reading within a band strobes the line: the band is the lowest-numbered one whose threshold is at least the reading, the
first block with a dot on is strobed for its time, and a line without a dot goes to its feed (R165); the feed interval is
taken here too, the model's choice (log 36).
The strobes of a printed dot line (R134, R165): the lowest-numbered band whose threshold is at least the reading, and for
each block with a dot on, in order, its base plus load_step for each dot, within 100 to 4,000 µs. -/
def Obligations.BandsAndHotHead : Prop :=
  (∀ (s : State) (v : BitVec 12),
     (s.conv.current = some .thermistor → s.slips.phase = .reading → s.slips.thermDiscard = false →
       s.slips.printer = .printing → topThreshold s.tables.strobe < v.toNat →
       ∃ t, exec (.conversionComplete v) s = .next t ∧ Only [.slips, .conv, .panel] s t ∧ Passed s t ∧
         t.slips = { s.slips with thermOut := false, printer := .headHot, coolTimer := some 10000 }) ∧
     (s.conv.current = some .thermistor → s.slips.phase = .reading → s.slips.thermDiscard = false →
       s.slips.printer = .headHot → topThreshold s.tables.strobe - 64 < v.toNat →
       ∃ t, exec (.conversionComplete v) s = .next t ∧ Only [.slips, .conv, .panel] s t ∧ Passed s t ∧
         t.slips = { s.slips with thermOut := false, coolTimer := some 10000 }) ∧
     (s.conv.current = some .thermistor → s.slips.printer = .paperOut → s.slips.thermDiscard = true →
       ∃ t, exec (.conversionComplete v) s = .next t ∧ Only [.slips, .conv, .panel] s t ∧ Passed s t ∧
         t.slips = { s.slips with thermOut := false, thermDiscard := false }) ∧
     (s.slips.printer = .headHot → s.slips.coolTimer.isSome = true → s.slips.thermOut = false →
       s.conv.current = none →
       ∃ t, exec .coolTimerExpiry s = .next t ∧ Only [.slips, .conv] s t ∧
         t.slips = { s.slips with coolTimer := none, thermOut := true } ∧
         t.conv = { s.conv with current := some .thermistor })) ∧
  (∀ (s : State) (v : BitVec 12) (i d b : Nat) (band : Band) (l : ImageLine), s.conv.current = some .thermistor →
     s.slips.phase = .reading → s.slips.thermDiscard = false → s.slips.pos = .row i d → s.slips.image[i]? = some l →
     (s.slips.printer = .printing ∧ v.toNat ≤ topThreshold s.tables.strobe) ∨
       (s.slips.printer = .headHot ∧ v.toNat ≤ topThreshold s.tables.strobe - 64) →
     s.tables.strobe.bands[b]? = some band → v.toNat ≤ band.threshold →
     (∀ j x, j < b → s.tables.strobe.bands[j]? = some x → x.threshold < v.toNat) →
     let plan := strobePlan s.tables.strobe band.base l d
     let feed := s.tables.strobe.feedInterval
     ∃ t, exec (.conversionComplete v) s = .next t ∧ Only [.slips, .conv, .panel] s t ∧ Passed s t ∧
       (∀ first rest, plan = first :: rest → t.slips = { s.slips with
         thermOut := false, printer := .printing, feed := feed, phase := .strobing, strobes := plan
         dotTimer := some first }) ∧
       (plan = [] → t.slips = { s.slips with
         thermOut := false, printer := .printing, feed := feed, phase := .feedFirst, strobes := []
         dotTimer := some feed })) ∧
  ((∀ (t : Strobe) (v i : Nat), i < t.bands.length → v ≤ (t.bands.getD i ⟨0, 0⟩).threshold →
     (∀ j, j < i → (t.bands.getD j ⟨0, 0⟩).threshold < v) → bandBase t v = (t.bands.getD i ⟨0, 0⟩).base) ∧
   (∀ (t : Strobe) (base : Nat) (l : ImageLine) (r : Nat),
     strobePlan t base l r = (((List.range 4).filter fun b => decide (blockDots l r b ≠ 0)).map fun b =>
       max 100 (min 4000 (base + blockDots l r b * t.loadStep)))) ∧
   ∀ (l : ImageLine) (r d : Nat), l.cut = false → (l.text.getD (d / 12) 32).toNat = 32 → d / 12 < l.text.length →
     dotOn l r d = false)

/-- The paper sensor (R167): paper absent takes the printer to PAPER_OUT, whatever it was doing, its slip kept; paper present
again starts the paper timer, and at its expiry a started slip restarts from its first line with a thermistor request of
its own, or the printer is IDLE. A reading still outstanding then is kept to be discarded, and the restarted slip asks for
its own when that one has come back (log 18). -/
def Obligations.PaperHandled : Prop :=
  ∀ s : State,
    (s.slips.printer ≠ .paperOut → ∃ t, exec (.paperSensorChange false) s = .next t ∧
      Only [.slips, .pins, .panel] s t ∧ t.pins = { s.pins with paperPresent := false } ∧
      t.slips = { s.slips with
        printer := .paperOut, phase := .idle, strobes := [], dotTimer := none, coolTimer := none
        paperTimer := none, thermDiscard := s.slips.thermOut }) ∧
    (s.slips.printer = .paperOut → s.slips.paperTimer = none →
      ∃ t, exec (.paperSensorChange true) s = .next t ∧ Only [.slips, .pins, .panel] s t ∧
        t.slips = { s.slips with paperTimer := some 1000000 }) ∧
    (s.slips.printer = .paperOut → ∃ t, exec (.paperSensorChange false) s = .next t ∧
      Only [.slips, .pins, .panel] s t ∧ t.slips = { s.slips with paperTimer := none }) ∧
    (s.slips.printer = .paperOut → s.slips.paperTimer.isSome = true → s.slips.started = false → s.slips.queue = [] →
      ∃ t, exec .paperTimerExpiry s = .next t ∧ Only [.slips, .panel] s t ∧
        t.slips = { s.slips with paperTimer := none, printer := .idle }) ∧
    (s.slips.printer = .paperOut → s.slips.paperTimer.isSome = true → s.slips.started = true →
      s.slips.image ≠ [] → s.slips.thermOut = true →
      ∃ t, exec .paperTimerExpiry s = .next t ∧ Only [.slips, .panel] s t ∧
        t.slips = { s.slips with
          paperTimer := none, printer := .printing, pos := .row 0 0, phase := .reading, strobes := []
          dotTimer := none }) ∧
    (s.slips.printer = .paperOut → s.slips.paperTimer.isSome = true → s.slips.started = true →
      s.slips.image ≠ [] → s.slips.thermOut = false → s.conv.current = none →
      ∃ t, exec .paperTimerExpiry s = .next t ∧ Only [.slips, .conv, .panel] s t ∧
        t.slips = { s.slips with
          paperTimer := none, printer := .printing, pos := .row 0 0, phase := .reading, strobes := []
          dotTimer := none, thermOut := true } ∧
        t.conv = { s.conv with current := some .thermistor }) ∧
    (∀ v, s.conv.current = some .thermistor → s.slips.thermDiscard = true → s.slips.phase = .reading →
      s.slips.printer = .printing →
      ∃ t, exec (.conversionComplete v) s = .next t ∧ Only [.slips, .conv, .panel] s t ∧
        t.slips = { s.slips with thermOut := true, thermDiscard := false } ∧
        (s.conv.photoWaiting = [] → t.conv =
          { current := some .thermistor, photoWaiting := [], thermWaiting := false }) ∧
        (∀ u rest, s.conv.photoWaiting = u :: rest → t.conv =
          { current := some (.photocell u false), photoWaiting := rest, thermWaiting := true }))

/-! ### Panel, clock, power-on (08, 10) -/

/-- The SPIN and STOP keys (R9, R14, R18, R171): SPIN sets the latch and starts a drum at rest, and is refused in CUTOFF; STOP
clears it and brakes a drum that has no other demand, and is refused during an attempt. -/
def Obligations.SpinAndStopKeys : Prop :=
  ∀ s : State,
    (s.drum.state = .cutoff → ∃ t, exec .spin s = .next t ∧ Noticed .spin .drumCutoff s t) ∧
    (s.drum.state = .stopped → demand s = false → s.pins.coverClosed = true → s.tables.drumPending = none →
      ∃ t, exec .spin s = .next t ∧ Only [.enc, .drum, .panel] s t ∧ t.drum.spinLatch = true ∧
        t.drum.state = .spinup ∧ t.drum.modeReq = some .drive ∧ t.drum.pendingDuty = s.tables.drum.dutyMin ∧
        t.drum.activeDuty = s.tables.drum.dutyMin ∧
        t.drum.spinupTimer = some (s.tables.drum.spinupLimit * 100000)) ∧
    (s.drum.state ≠ .cutoff → demand s = true → ∃ t, exec .spin s = .next t ∧ Only [.drum, .panel] s t ∧
      t.drum = { s.drum with spinLatch := true }) ∧
    (attemptInProgress s = true → ∃ t, exec .stop s = .next t ∧ Noticed .stop .sending s t) ∧
    (onDrumState s = .granted ∨ onDrumState s = .awaiting → ∃ t, exec .stop s = .next t ∧
      Only [.drum, .panel] s t ∧ t.drum = { s.drum with spinLatch := false }) ∧
    (s.drum.state = .spinup ∨ s.drum.state = .tracking ∨ s.drum.state = .locked → s.drum.spinLatch = true →
      onDrumState s = .empty ∨ onDrumState s = .loaded ∨ onDrumState s = .finished →
      ∃ t, exec .stop s = .next t ∧ Only [.drum, .panel] s t ∧ t.drum.state = .braking ∧ t.drum.spinLatch = false ∧
        t.drum.modeReq = some .brake ∧ t.drum.brakingW = (standardInForce s).w ∧
        t.drum.brakingTimer = some (s.tables.drum.brakeTime * 100000) ∧
        t.drum.silenceTimer = some (10 * (standardInForce s).w) ∧ t.drum.stallDeadline = none)

/-- A panel LOAD (R138, R139): the first check that fails gives its notice; a LOADED record is edited; otherwise a record is
created with the next serial, in the lowest EMPTY slot, or with none in that of the PRINTED record, not on drum, that stands
earliest in the finish order: it is reclaimed and leaves that order. -/
def Obligations.PanelLoadJudged : Prop :=
  ∀ (s : State) (lines : BitVec 16) (slug : List Byte), 1 ≤ slug.length → slug.length ≤ 16 →
    let l := lines.toNat
    let good := slug.all isText = true ∧ 1 ≤ l ∧ l ≤ 4000
    let fits := s.tables.scan.startOffset + l * s.tables.scan.stepsPerLine ≤ s.tables.scan.travelLimit
    let inactive := onDrumState s ≠ .granted ∧ onDrumState s ≠ .sending ∧ onDrumState s ≠ .awaiting
    (¬ good → ∃ t, exec (.panelLoad lines slug) s = .next t ∧ Noticed .load .badValue s t) ∧
    (good → s.drum.state ≠ .stopped →
      ∃ t, exec (.panelLoad lines slug) s = .next t ∧ Noticed .load .drumTurning s t) ∧
    (good → s.drum.state = .stopped → ¬ inactive →
      ∃ t, exec (.panelLoad lines slug) s = .next t ∧ Noticed .load .pictureActive s t) ∧
    (good → s.drum.state = .stopped → inactive → ¬ fits →
      ∃ t, exec (.panelLoad lines slug) s = .next t ∧ Noticed .load .tooLong s t) ∧
    (good → s.drum.state = .stopped → inactive → fits → onDrumState s ≠ .loaded → slotForNew s = none →
      ∃ t, exec (.panelLoad lines slug) s = .next t ∧ Noticed .load .tableFull s t) ∧
    (∀ slot r m, good → s.drum.state = .stopped → fits → s.pics.onDrum = some slot → s.rec? slot = some r →
      r.state = .loaded → r.mount = some m →
      ∃ t, exec (.panelLoad lines slug) s = .next t ∧ Only [.pics, .panel] s t ∧ t.pics.onDrum = some slot ∧
        t.rec? slot = some { r with mount := some ⟨m.serial, slug, l⟩ } ∧ ∀ j, j ≠ slot → t.rec? j = s.rec? j) ∧
    (∀ slot r, good → s.drum.state = .stopped → inactive → fits → onDrumState s ≠ .loaded →
      s.rec? slot = some r → r.state = .empty → (∀ j q, j < slot → s.rec? j = some q → q.state ≠ .empty) →
      slot ∉ s.pics.finishOrder →
      ∃ t, exec (.panelLoad lines slug) s = .next t ∧ Only [.pics, .panel] s t ∧ t.pics = { s.pics with
        records := s.pics.records.set slot
          { recEmpty with state := .loaded, mount := some ⟨s.pics.nextSerial, slug, l⟩ }
        onDrum := some slot
        nextSerial := if s.pics.nextSerial = 65535 then 1 else s.pics.nextSerial + 1 }) ∧
    (∀ slot r before after, good → s.drum.state = .stopped → inactive → fits → onDrumState s ≠ .loaded →
      (∀ q ∈ s.pics.records, q.state ≠ .empty) → s.pics.finishOrder = before ++ slot :: after → s.rec? slot = some r →
      r.slip = .printed → s.pics.onDrum ≠ some slot → slot ∉ before ++ after →
      (∀ j ∈ before, s.pics.onDrum = some j ∨ ∃ q, s.rec? j = some q ∧ q.slip ≠ .printed) →
      ∃ t, exec (.panelLoad lines slug) s = .next t ∧ Only [.pics, .panel] s t ∧ t.pics = { s.pics with
        records := s.pics.records.set slot
          { recEmpty with state := .loaded, mount := some ⟨s.pics.nextSerial, slug, l⟩ }
        onDrum := some slot
        nextSerial := if s.pics.nextSerial = 65535 then 1 else s.pics.nextSerial + 1
        finishOrder := before ++ after })

/-- A good panel record heard byte by byte acts as the command of its kind (R170, R171), and bytes heard in one run act as
heard in two, one run whole after the other: of two good records the first has had its effect whole before the second is
taken. That PANEL_RECORD_MALFORMED feeds its bytes to the receiver is the model's choice (log 21). -/
def Obligations.PanelRecordsTaken : Prop :=
  (∀ s : State, s.panel.inRecord = false →
    let heard (bytes : List Byte) := exec (.panelRecordMalformed (bytes.map some)) s
    (∀ (lines : BitVec 16) (slug : List Byte), 1 ≤ slug.length → slug.length ≤ 16 →
      heard ([0x02, 0x11, BitVec.ofNat 8 (2 + slug.length)] ++ le2 lines.toNat ++ slug ++ [0x03]) =
        exec (.panelLoad lines slug) s) ∧
    heard [0x02, 0x12, 0, 0x03] = exec .spin s ∧ heard [0x02, 0x13, 0, 0x03] = exec .stop s ∧
    heard [0x02, 0x14, 0, 0x03] = exec .abort s ∧ heard [0x02, 0x15, 0, 0x03] = exec .reprint s ∧
    heard [0x02, 0x16, 0, 0x03] = exec .resetMech s) ∧
  (∀ (s : State) (first second : List (Option Byte)), ∃ t, exec (.panelRecordMalformed first) s = .next t ∧
    exec (.panelRecordMalformed (first ++ second)) s = exec (.panelRecordMalformed second) t)

/-- A record with a fault is discarded at it and changes nothing but the receiver (R170): an unknown kind, a length the kind
does not allow, a wrong end byte, a framing error, a gap above 20 ms.
The transmitter (R172): when its record has gone it sends the pending notice, else a STATE of the present moment if
something shown has changed, else it is free.
The items of a STATE (R173): its lamps bit by bit, the display by the first case that holds, the lines sent, the lines. -/
def Obligations.PanelLinkKept : Prop :=
  ((∀ s : State, s.panel.inRecord = false →
     let discarded (bytes : List (Option Byte)) := ∃ t, exec (.panelRecordMalformed bytes) s = .next t ∧
       Only [.panel] s t ∧ t.panel.inRecord = false ∧ t.panel.bytes = []
     (∀ b : Byte, b.toNat < 0x11 ∨ 0x16 < b.toNat → discarded [some 0x02, some b]) ∧
     (∀ b n : Byte, 0x12 ≤ b.toNat → b.toNat ≤ 0x16 → n ≠ 0 → discarded [some 0x02, some b, some n]) ∧
     (∀ n : Byte, n.toNat < 3 ∨ 18 < n.toNat → discarded [some 0x02, some 0x11, some n]) ∧
     (∀ b e : Byte, 0x12 ≤ b.toNat → b.toNat ≤ 0x16 → e ≠ 0x03 →
       discarded [some 0x02, some b, some 0, some e]) ∧
     discarded [some 0x02, none]) ∧
   (∀ s : State, s.panel.inRecord = true → ∃ t, exec .panelGapTimerExpiry s = .next t ∧ Only [.panel] s t ∧
     t.panel = { s.panel with inRecord := false, bytes := [], gapRunning := false })) ∧
  (∀ s : State,
     (∀ k n, s.panel.notice = some (k, n) → ∃ t, exec .panelRecordSent s = .next t ∧ Only [.panel] s t ∧
       t.panel = { s.panel with tx := some (.notice k n), notice := none }) ∧
     (s.panel.notice = none → s.panel.changed = true → ∃ t, exec .panelRecordSent s = .next t ∧ Only [.panel] s t ∧
       t.panel = { s.panel with
         tx := some (.state (lamps s) (display s) (linesShown s) (onDrumLines s)), changed := false }) ∧
     (s.panel.notice = none → s.panel.changed = false →
       ∃ t, exec .panelRecordSent s = .next t ∧ Only [.panel] s t ∧ t.panel = { s.panel with tx := none })) ∧
  (∀ s : State, ∃ l d n m, stateRecord s = .state l d n m ∧
     (∀ i, l.getLsbD i = true ↔
       (i = 0 ∧ s.drum.state = .locked ∧ s.head.state = .ready ∧ s.lamp.state = .warm) ∨
       (i = 1 ∧ (onDrumState s = .granted ∨ onDrumState s = .awaiting)) ∨ (i = 2 ∧ onDrumState s = .sending) ∨
       (i = 3 ∧ s.portA.cause ≠ .none) ∨ (i = 4 ∧ s.portB.cause ≠ .none) ∨ (i = 5 ∧ s.drum.state = .cutoff) ∨
       (i = 6 ∧ s.slips.printer = .paperOut) ∨ (i = 7 ∧ s.station.mute = true) ∨ (i = 8 ∧ s.clock.isSet = false)) ∧
     (s.drum.state = .cutoff → d.length = 16 ∧ d.take 7 = [67, 85, 84, 79, 70, 70, 32] ∧
       (s.drum.lastFault = .stall → d.drop 7 = [83, 84, 65, 76, 76, 32, 32, 32, 32]) ∧
       (s.drum.lastFault = .reverse → d.drop 7 = [82, 69, 86, 69, 82, 83, 69, 32, 32]) ∧
       (s.drum.lastFault = .encoder → d.drop 7 = [69, 78, 67, 79, 68, 69, 82, 32, 32]) ∧
       (s.drum.lastFault = .overspeed → d.drop 7 = [79, 86, 69, 82, 83, 80, 69, 69, 68]) ∧
       (s.drum.lastFault = .cover → d.drop 7 = [67, 79, 86, 69, 82, 32, 32, 32, 32])) ∧
     (s.drum.state ≠ .cutoff → s.head.state = .fault →
       d = [78, 69, 69, 68, 83, 32, 82, 69, 83, 69, 84, 32, 77, 69, 67, 72]) ∧
     (∀ r x, s.drum.state ≠ .cutoff → s.head.state ≠ .fault → onDrumRec s = some r → r.mount = some x →
       x.slug.length ≤ 16 → d = x.slug ++ List.replicate (16 - x.slug.length) 32 ∧ m = x.lines) ∧
     (s.drum.state ≠ .cutoff → s.head.state ≠ .fault → onDrumRec s = none → d = List.replicate 16 32 ∧ n = 0 ∧ m = 0) ∧
     (onDrumState s = .sending → n = s.sender.linesSent) ∧
     (∀ r a, onDrumRec s = some r → r.state ≠ .sending → r.attempts.getLast? = some a → n = a.linesSent))

/-- The station clock's second (R174): seconds, minutes, hours, days by the month's length, months and years carry over. -/
def Obligations.ClockCarries : Prop :=
  ∀ s : State, ClockOk s.clock → ∃ t, exec .clockSecond s = .next t ∧ Only [.clock] s t ∧
    let c := s.clock
    let d := t.clock
    d.sub = 0 ∧ d.isSet = c.isSet ∧ d.second = (c.second + 1) % 60 ∧
      d.minute = (if c.second = 59 then (c.minute + 1) % 60 else c.minute) ∧
      d.hour = (if c.second = 59 ∧ c.minute = 59 then (c.hour + 1) % 24 else c.hour) ∧
      (let midnight := c.second = 59 ∧ c.minute = 59 ∧ c.hour = 23
       let monthEnd := midnight ∧ c.day = daysInMonth c.month c.year
       (¬ midnight → d.day = c.day) ∧ (midnight → ¬ monthEnd → d.day = c.day + 1) ∧ (monthEnd → d.day = 1) ∧
       (¬ monthEnd → d.month = c.month ∧ d.year = c.year) ∧
       (monthEnd → c.month < 12 → d.month = c.month + 1 ∧ d.year = c.year) ∧
       (monthEnd → c.month = 12 → d.month = 1 ∧ d.year = (c.year + 1) % 100))

/-- Power-on (R176, R177): from any state every block takes its starting values, the straps give the code and MUTE, the paper
level the printer's state, and a STATE record is on its way. That the home and loop-current levels and the waiting commands
are kept is the model's choice (log 8, log 1). Of the values of State.reset those the spec does not give are the model's too
(log 9): the braking W, the cycle counter, the rewind limit, the elapsed ticks, the feed interval and the idle receiver's
CRC register. -/
def Obligations.PowerOnStarts : Prop :=
  ∀ (s : State) (cover paper : Bool) (straps : BitVec 7), ∃ t, exec (.powerOn cover paper straps) s = .next t ∧
    t.drum = State.reset.drum ∧ t.enc = State.reset.enc ∧ t.reg = State.reset.reg ∧ t.scan = State.reset.scan ∧
    t.lamp = State.reset.lamp ∧ t.conv = State.reset.conv ∧ t.head = State.reset.head ∧
    t.store = State.reset.store ∧ t.sender = State.reset.sender ∧ t.orders = [] ∧ t.tables = State.reset.tables ∧
    t.pics = State.reset.pics ∧ t.clock = State.reset.clock ∧ t.pending = s.pending ∧
    (∀ p, t.port p = { State.reset.port p with loopCurrent := (s.port p).loopCurrent }) ∧
    t.slips = { State.reset.slips with printer := if paper = true then .idle else .paperOut } ∧
    t.pins = { coverClosed := cover, paperPresent := paper, homeAsserted := s.pins.homeAsserted } ∧
    t.station.code = straps.extractLsb' 0 6 ∧
    (t.station.mute = false ↔ 1 ≤ (straps.extractLsb' 0 6).toNat ∧ (straps.extractLsb' 0 6).toNat ≤ 62 ∧
      ((List.range 7).countP fun i => straps.getLsbD i) % 2 = 1) ∧
    t.panel.tx = some (stateRecord t) ∧ t.panel.changed = false

/-- A step with no command waiting (log 2): the order at the head of the queue is executed when it is eligible (R108). Else
one reference tick passes: with nothing due in it, the tick count, every running timer, the cycle count, the cadence
accumulator (R89), the elapsed ticks of an attempt (R144) and the sub-second count move, and nothing else; the tick that
completes a second carries the clock (R174), and the one that completes a PWM cycle ends it (R19). That a count past a
shortened cycle length ends the cycle at the next tick is the model's choice (log 37), and that the duty is transferred in
BRAKING and OFF too is its reading of R20 (log 27). -/
def Obligations.IdleStep : Prop :=
  (∀ (s : State) (o : Order), s.pending = [] → s.orders.head? = some o →
     (∀ p, (s.port p).activity ≠ .reporting ∧ (s.port p).rx.state = .hunting) →
     step s = exec (orderCommand o.kind) s) ∧
  (∀ s : State, s.pending = [] → (s.orders = [] ∨ ∃ p, (s.port p).activity = .reporting ∨ (s.port p).rx.state ≠ .hunting) →
     NoneDue s → s.panel.tx ≠ none ∨ (s.panel.notice = none ∧ s.panel.changed = false) →
     let drum := { s.drum with
       spinupTimer := s.drum.spinupTimer.map (· - 1), rampTimer := s.drum.rampTimer.map (· - 1)
       brakingTimer := s.drum.brakingTimer.map (· - 1), silenceTimer := s.drum.silenceTimer.map (· - 1)
       cycleCount := s.drum.cycleCount + 16 }
     let ticked (t : State) := Only [.now, .drum, .lamp, .head, .portA, .portB, .sender, .pics, .slips, .clock] s t ∧
       t.now = s.now + 1 ∧ t.lamp = { s.lamp with warmTimer := s.lamp.warmTimer.map (· - 1) } ∧
       t.head = { s.head with stepTimer := s.head.stepTimer.map (· - 1) } ∧
       (∀ p, t.port p = { s.port p with
         loopTimer := (s.port p).loopTimer.map (· - 1), breakTimer := (s.port p).breakTimer.map (· - 1)
         turn := match (s.port p).turn with
           | .running n => .running (n - 1)
           | other => other }) ∧
       t.sender = { s.sender with
         stageTimer := s.sender.stageTimer.map (· - 1)
         acc := if s.sender.cadenceOn = true then s.sender.acc + samplesPerRev s else s.sender.acc } ∧
       t.pics = { s.pics with
         receiptTimer := s.pics.receiptTimer.map (· - 1)
         elapsed := if attemptInProgress s = true then s.pics.elapsed + 1 else s.pics.elapsed } ∧
       t.slips = { s.slips with
         dotTimer := s.slips.dotTimer.map (· - 1), paperTimer := s.slips.paperTimer.map (· - 1)
         coolTimer := s.slips.coolTimer.map (· - 1) }
     ∃ t, step s = .next t ∧ ticked t ∧
       (s.drum.cycleCount + 16 < s.drum.cycleLen → t.drum = drum) ∧
       (s.drum.cycleLen ≤ s.drum.cycleCount + 16 → t.drum = { drum with
         activeDuty := s.drum.pendingDuty, mode := s.drum.modeReq.getD s.drum.mode, modeReq := none, cycleCount := 0 }) ∧
       (s.clock.sub + 1 < 1000000 → t.clock = { s.clock with sub := s.clock.sub + 1 }) ∧
       (1000000 ≤ s.clock.sub + 1 → exec .clockSecond s = .next { s with clock := t.clock }))
end

