-- ==== Sys2Proof/Laws/State.lean ====
section
/-! SUPPORT. One lemma per field per named update of the state, so that no proof unfolds a record update. -/

namespace Sys2Proof.Machine

@[simp] theorem State.setNow_now (s : State) (x : Tick) : (s.setNow x).now = x := rfl
@[simp] theorem State.setNow_enc (s : State) (x : Tick) : (s.setNow x).enc = s.enc := rfl
@[simp] theorem State.setNow_drum (s : State) (x : Tick) : (s.setNow x).drum = s.drum := rfl
@[simp] theorem State.setNow_reg (s : State) (x : Tick) : (s.setNow x).reg = s.reg := rfl
@[simp] theorem State.setNow_scan (s : State) (x : Tick) : (s.setNow x).scan = s.scan := rfl
@[simp] theorem State.setNow_lamp (s : State) (x : Tick) : (s.setNow x).lamp = s.lamp := rfl
@[simp] theorem State.setNow_conv (s : State) (x : Tick) : (s.setNow x).conv = s.conv := rfl
@[simp] theorem State.setNow_head (s : State) (x : Tick) : (s.setNow x).head = s.head := rfl
@[simp] theorem State.setNow_store (s : State) (x : Tick) : (s.setNow x).store = s.store := rfl
@[simp] theorem State.setNow_portA (s : State) (x : Tick) : (s.setNow x).portA = s.portA := rfl
@[simp] theorem State.setNow_portB (s : State) (x : Tick) : (s.setNow x).portB = s.portB := rfl
@[simp] theorem State.setNow_sender (s : State) (x : Tick) : (s.setNow x).sender = s.sender := rfl
@[simp] theorem State.setNow_orders (s : State) (x : Tick) : (s.setNow x).orders = s.orders := rfl
@[simp] theorem State.setNow_tables (s : State) (x : Tick) : (s.setNow x).tables = s.tables := rfl
@[simp] theorem State.setNow_pics (s : State) (x : Tick) : (s.setNow x).pics = s.pics := rfl
@[simp] theorem State.setNow_slips (s : State) (x : Tick) : (s.setNow x).slips = s.slips := rfl
@[simp] theorem State.setNow_panel (s : State) (x : Tick) : (s.setNow x).panel = s.panel := rfl
@[simp] theorem State.setNow_clock (s : State) (x : Tick) : (s.setNow x).clock = s.clock := rfl
@[simp] theorem State.setNow_station (s : State) (x : Tick) : (s.setNow x).station = s.station := rfl
@[simp] theorem State.setNow_pins (s : State) (x : Tick) : (s.setNow x).pins = s.pins := rfl
@[simp] theorem State.setNow_pending (s : State) (x : Tick) : (s.setNow x).pending = s.pending := rfl

@[simp] theorem State.setEnc_now (s : State) (x : Encoder) : (s.setEnc x).now = s.now := rfl
@[simp] theorem State.setEnc_enc (s : State) (x : Encoder) : (s.setEnc x).enc = x := rfl
@[simp] theorem State.setEnc_drum (s : State) (x : Encoder) : (s.setEnc x).drum = s.drum := rfl
@[simp] theorem State.setEnc_reg (s : State) (x : Encoder) : (s.setEnc x).reg = s.reg := rfl
@[simp] theorem State.setEnc_scan (s : State) (x : Encoder) : (s.setEnc x).scan = s.scan := rfl
@[simp] theorem State.setEnc_lamp (s : State) (x : Encoder) : (s.setEnc x).lamp = s.lamp := rfl
@[simp] theorem State.setEnc_conv (s : State) (x : Encoder) : (s.setEnc x).conv = s.conv := rfl
@[simp] theorem State.setEnc_head (s : State) (x : Encoder) : (s.setEnc x).head = s.head := rfl
@[simp] theorem State.setEnc_store (s : State) (x : Encoder) : (s.setEnc x).store = s.store := rfl
@[simp] theorem State.setEnc_portA (s : State) (x : Encoder) : (s.setEnc x).portA = s.portA := rfl
@[simp] theorem State.setEnc_portB (s : State) (x : Encoder) : (s.setEnc x).portB = s.portB := rfl
@[simp] theorem State.setEnc_sender (s : State) (x : Encoder) : (s.setEnc x).sender = s.sender := rfl
@[simp] theorem State.setEnc_orders (s : State) (x : Encoder) : (s.setEnc x).orders = s.orders := rfl
@[simp] theorem State.setEnc_tables (s : State) (x : Encoder) : (s.setEnc x).tables = s.tables := rfl
@[simp] theorem State.setEnc_pics (s : State) (x : Encoder) : (s.setEnc x).pics = s.pics := rfl
@[simp] theorem State.setEnc_slips (s : State) (x : Encoder) : (s.setEnc x).slips = s.slips := rfl
@[simp] theorem State.setEnc_panel (s : State) (x : Encoder) : (s.setEnc x).panel = s.panel := rfl
@[simp] theorem State.setEnc_clock (s : State) (x : Encoder) : (s.setEnc x).clock = s.clock := rfl
@[simp] theorem State.setEnc_station (s : State) (x : Encoder) : (s.setEnc x).station = s.station := rfl
@[simp] theorem State.setEnc_pins (s : State) (x : Encoder) : (s.setEnc x).pins = s.pins := rfl
@[simp] theorem State.setEnc_pending (s : State) (x : Encoder) : (s.setEnc x).pending = s.pending := rfl

@[simp] theorem State.setDrum_now (s : State) (x : Drum) : (s.setDrum x).now = s.now := rfl
@[simp] theorem State.setDrum_enc (s : State) (x : Drum) : (s.setDrum x).enc = s.enc := rfl
@[simp] theorem State.setDrum_drum (s : State) (x : Drum) : (s.setDrum x).drum = x := rfl
@[simp] theorem State.setDrum_reg (s : State) (x : Drum) : (s.setDrum x).reg = s.reg := rfl
@[simp] theorem State.setDrum_scan (s : State) (x : Drum) : (s.setDrum x).scan = s.scan := rfl
@[simp] theorem State.setDrum_lamp (s : State) (x : Drum) : (s.setDrum x).lamp = s.lamp := rfl
@[simp] theorem State.setDrum_conv (s : State) (x : Drum) : (s.setDrum x).conv = s.conv := rfl
@[simp] theorem State.setDrum_head (s : State) (x : Drum) : (s.setDrum x).head = s.head := rfl
@[simp] theorem State.setDrum_store (s : State) (x : Drum) : (s.setDrum x).store = s.store := rfl
@[simp] theorem State.setDrum_portA (s : State) (x : Drum) : (s.setDrum x).portA = s.portA := rfl
@[simp] theorem State.setDrum_portB (s : State) (x : Drum) : (s.setDrum x).portB = s.portB := rfl
@[simp] theorem State.setDrum_sender (s : State) (x : Drum) : (s.setDrum x).sender = s.sender := rfl
@[simp] theorem State.setDrum_orders (s : State) (x : Drum) : (s.setDrum x).orders = s.orders := rfl
@[simp] theorem State.setDrum_tables (s : State) (x : Drum) : (s.setDrum x).tables = s.tables := rfl
@[simp] theorem State.setDrum_pics (s : State) (x : Drum) : (s.setDrum x).pics = s.pics := rfl
@[simp] theorem State.setDrum_slips (s : State) (x : Drum) : (s.setDrum x).slips = s.slips := rfl
@[simp] theorem State.setDrum_panel (s : State) (x : Drum) : (s.setDrum x).panel = s.panel := rfl
@[simp] theorem State.setDrum_clock (s : State) (x : Drum) : (s.setDrum x).clock = s.clock := rfl
@[simp] theorem State.setDrum_station (s : State) (x : Drum) : (s.setDrum x).station = s.station := rfl
@[simp] theorem State.setDrum_pins (s : State) (x : Drum) : (s.setDrum x).pins = s.pins := rfl
@[simp] theorem State.setDrum_pending (s : State) (x : Drum) : (s.setDrum x).pending = s.pending := rfl

@[simp] theorem State.setReg_now (s : State) (x : Regulator) : (s.setReg x).now = s.now := rfl
@[simp] theorem State.setReg_enc (s : State) (x : Regulator) : (s.setReg x).enc = s.enc := rfl
@[simp] theorem State.setReg_drum (s : State) (x : Regulator) : (s.setReg x).drum = s.drum := rfl
@[simp] theorem State.setReg_reg (s : State) (x : Regulator) : (s.setReg x).reg = x := rfl
@[simp] theorem State.setReg_scan (s : State) (x : Regulator) : (s.setReg x).scan = s.scan := rfl
@[simp] theorem State.setReg_lamp (s : State) (x : Regulator) : (s.setReg x).lamp = s.lamp := rfl
@[simp] theorem State.setReg_conv (s : State) (x : Regulator) : (s.setReg x).conv = s.conv := rfl
@[simp] theorem State.setReg_head (s : State) (x : Regulator) : (s.setReg x).head = s.head := rfl
@[simp] theorem State.setReg_store (s : State) (x : Regulator) : (s.setReg x).store = s.store := rfl
@[simp] theorem State.setReg_portA (s : State) (x : Regulator) : (s.setReg x).portA = s.portA := rfl
@[simp] theorem State.setReg_portB (s : State) (x : Regulator) : (s.setReg x).portB = s.portB := rfl
@[simp] theorem State.setReg_sender (s : State) (x : Regulator) : (s.setReg x).sender = s.sender := rfl
@[simp] theorem State.setReg_orders (s : State) (x : Regulator) : (s.setReg x).orders = s.orders := rfl
@[simp] theorem State.setReg_tables (s : State) (x : Regulator) : (s.setReg x).tables = s.tables := rfl
@[simp] theorem State.setReg_pics (s : State) (x : Regulator) : (s.setReg x).pics = s.pics := rfl
@[simp] theorem State.setReg_slips (s : State) (x : Regulator) : (s.setReg x).slips = s.slips := rfl
@[simp] theorem State.setReg_panel (s : State) (x : Regulator) : (s.setReg x).panel = s.panel := rfl
@[simp] theorem State.setReg_clock (s : State) (x : Regulator) : (s.setReg x).clock = s.clock := rfl
@[simp] theorem State.setReg_station (s : State) (x : Regulator) : (s.setReg x).station = s.station := rfl
@[simp] theorem State.setReg_pins (s : State) (x : Regulator) : (s.setReg x).pins = s.pins := rfl
@[simp] theorem State.setReg_pending (s : State) (x : Regulator) : (s.setReg x).pending = s.pending := rfl

@[simp] theorem State.setScan_now (s : State) (x : Scanner) : (s.setScan x).now = s.now := rfl
@[simp] theorem State.setScan_enc (s : State) (x : Scanner) : (s.setScan x).enc = s.enc := rfl
@[simp] theorem State.setScan_drum (s : State) (x : Scanner) : (s.setScan x).drum = s.drum := rfl
@[simp] theorem State.setScan_reg (s : State) (x : Scanner) : (s.setScan x).reg = s.reg := rfl
@[simp] theorem State.setScan_scan (s : State) (x : Scanner) : (s.setScan x).scan = x := rfl
@[simp] theorem State.setScan_lamp (s : State) (x : Scanner) : (s.setScan x).lamp = s.lamp := rfl
@[simp] theorem State.setScan_conv (s : State) (x : Scanner) : (s.setScan x).conv = s.conv := rfl
@[simp] theorem State.setScan_head (s : State) (x : Scanner) : (s.setScan x).head = s.head := rfl
@[simp] theorem State.setScan_store (s : State) (x : Scanner) : (s.setScan x).store = s.store := rfl
@[simp] theorem State.setScan_portA (s : State) (x : Scanner) : (s.setScan x).portA = s.portA := rfl
@[simp] theorem State.setScan_portB (s : State) (x : Scanner) : (s.setScan x).portB = s.portB := rfl
@[simp] theorem State.setScan_sender (s : State) (x : Scanner) : (s.setScan x).sender = s.sender := rfl
@[simp] theorem State.setScan_orders (s : State) (x : Scanner) : (s.setScan x).orders = s.orders := rfl
@[simp] theorem State.setScan_tables (s : State) (x : Scanner) : (s.setScan x).tables = s.tables := rfl
@[simp] theorem State.setScan_pics (s : State) (x : Scanner) : (s.setScan x).pics = s.pics := rfl
@[simp] theorem State.setScan_slips (s : State) (x : Scanner) : (s.setScan x).slips = s.slips := rfl
@[simp] theorem State.setScan_panel (s : State) (x : Scanner) : (s.setScan x).panel = s.panel := rfl
@[simp] theorem State.setScan_clock (s : State) (x : Scanner) : (s.setScan x).clock = s.clock := rfl
@[simp] theorem State.setScan_station (s : State) (x : Scanner) : (s.setScan x).station = s.station := rfl
@[simp] theorem State.setScan_pins (s : State) (x : Scanner) : (s.setScan x).pins = s.pins := rfl
@[simp] theorem State.setScan_pending (s : State) (x : Scanner) : (s.setScan x).pending = s.pending := rfl

@[simp] theorem State.setLamp_now (s : State) (x : Lamp) : (s.setLamp x).now = s.now := rfl
@[simp] theorem State.setLamp_enc (s : State) (x : Lamp) : (s.setLamp x).enc = s.enc := rfl
@[simp] theorem State.setLamp_drum (s : State) (x : Lamp) : (s.setLamp x).drum = s.drum := rfl
@[simp] theorem State.setLamp_reg (s : State) (x : Lamp) : (s.setLamp x).reg = s.reg := rfl
@[simp] theorem State.setLamp_scan (s : State) (x : Lamp) : (s.setLamp x).scan = s.scan := rfl
@[simp] theorem State.setLamp_lamp (s : State) (x : Lamp) : (s.setLamp x).lamp = x := rfl
@[simp] theorem State.setLamp_conv (s : State) (x : Lamp) : (s.setLamp x).conv = s.conv := rfl
@[simp] theorem State.setLamp_head (s : State) (x : Lamp) : (s.setLamp x).head = s.head := rfl
@[simp] theorem State.setLamp_store (s : State) (x : Lamp) : (s.setLamp x).store = s.store := rfl
@[simp] theorem State.setLamp_portA (s : State) (x : Lamp) : (s.setLamp x).portA = s.portA := rfl
@[simp] theorem State.setLamp_portB (s : State) (x : Lamp) : (s.setLamp x).portB = s.portB := rfl
@[simp] theorem State.setLamp_sender (s : State) (x : Lamp) : (s.setLamp x).sender = s.sender := rfl
@[simp] theorem State.setLamp_orders (s : State) (x : Lamp) : (s.setLamp x).orders = s.orders := rfl
@[simp] theorem State.setLamp_tables (s : State) (x : Lamp) : (s.setLamp x).tables = s.tables := rfl
@[simp] theorem State.setLamp_pics (s : State) (x : Lamp) : (s.setLamp x).pics = s.pics := rfl
@[simp] theorem State.setLamp_slips (s : State) (x : Lamp) : (s.setLamp x).slips = s.slips := rfl
@[simp] theorem State.setLamp_panel (s : State) (x : Lamp) : (s.setLamp x).panel = s.panel := rfl
@[simp] theorem State.setLamp_clock (s : State) (x : Lamp) : (s.setLamp x).clock = s.clock := rfl
@[simp] theorem State.setLamp_station (s : State) (x : Lamp) : (s.setLamp x).station = s.station := rfl
@[simp] theorem State.setLamp_pins (s : State) (x : Lamp) : (s.setLamp x).pins = s.pins := rfl
@[simp] theorem State.setLamp_pending (s : State) (x : Lamp) : (s.setLamp x).pending = s.pending := rfl

@[simp] theorem State.setConv_now (s : State) (x : Converter) : (s.setConv x).now = s.now := rfl
@[simp] theorem State.setConv_enc (s : State) (x : Converter) : (s.setConv x).enc = s.enc := rfl
@[simp] theorem State.setConv_drum (s : State) (x : Converter) : (s.setConv x).drum = s.drum := rfl
@[simp] theorem State.setConv_reg (s : State) (x : Converter) : (s.setConv x).reg = s.reg := rfl
@[simp] theorem State.setConv_scan (s : State) (x : Converter) : (s.setConv x).scan = s.scan := rfl
@[simp] theorem State.setConv_lamp (s : State) (x : Converter) : (s.setConv x).lamp = s.lamp := rfl
@[simp] theorem State.setConv_conv (s : State) (x : Converter) : (s.setConv x).conv = x := rfl
@[simp] theorem State.setConv_head (s : State) (x : Converter) : (s.setConv x).head = s.head := rfl
@[simp] theorem State.setConv_store (s : State) (x : Converter) : (s.setConv x).store = s.store := rfl
@[simp] theorem State.setConv_portA (s : State) (x : Converter) : (s.setConv x).portA = s.portA := rfl
@[simp] theorem State.setConv_portB (s : State) (x : Converter) : (s.setConv x).portB = s.portB := rfl
@[simp] theorem State.setConv_sender (s : State) (x : Converter) : (s.setConv x).sender = s.sender := rfl
@[simp] theorem State.setConv_orders (s : State) (x : Converter) : (s.setConv x).orders = s.orders := rfl
@[simp] theorem State.setConv_tables (s : State) (x : Converter) : (s.setConv x).tables = s.tables := rfl
@[simp] theorem State.setConv_pics (s : State) (x : Converter) : (s.setConv x).pics = s.pics := rfl
@[simp] theorem State.setConv_slips (s : State) (x : Converter) : (s.setConv x).slips = s.slips := rfl
@[simp] theorem State.setConv_panel (s : State) (x : Converter) : (s.setConv x).panel = s.panel := rfl
@[simp] theorem State.setConv_clock (s : State) (x : Converter) : (s.setConv x).clock = s.clock := rfl
@[simp] theorem State.setConv_station (s : State) (x : Converter) : (s.setConv x).station = s.station := rfl
@[simp] theorem State.setConv_pins (s : State) (x : Converter) : (s.setConv x).pins = s.pins := rfl
@[simp] theorem State.setConv_pending (s : State) (x : Converter) : (s.setConv x).pending = s.pending := rfl

@[simp] theorem State.setHead_now (s : State) (x : Head) : (s.setHead x).now = s.now := rfl
@[simp] theorem State.setHead_enc (s : State) (x : Head) : (s.setHead x).enc = s.enc := rfl
@[simp] theorem State.setHead_drum (s : State) (x : Head) : (s.setHead x).drum = s.drum := rfl
@[simp] theorem State.setHead_reg (s : State) (x : Head) : (s.setHead x).reg = s.reg := rfl
@[simp] theorem State.setHead_scan (s : State) (x : Head) : (s.setHead x).scan = s.scan := rfl
@[simp] theorem State.setHead_lamp (s : State) (x : Head) : (s.setHead x).lamp = s.lamp := rfl
@[simp] theorem State.setHead_conv (s : State) (x : Head) : (s.setHead x).conv = s.conv := rfl
@[simp] theorem State.setHead_head (s : State) (x : Head) : (s.setHead x).head = x := rfl
@[simp] theorem State.setHead_store (s : State) (x : Head) : (s.setHead x).store = s.store := rfl
@[simp] theorem State.setHead_portA (s : State) (x : Head) : (s.setHead x).portA = s.portA := rfl
@[simp] theorem State.setHead_portB (s : State) (x : Head) : (s.setHead x).portB = s.portB := rfl
@[simp] theorem State.setHead_sender (s : State) (x : Head) : (s.setHead x).sender = s.sender := rfl
@[simp] theorem State.setHead_orders (s : State) (x : Head) : (s.setHead x).orders = s.orders := rfl
@[simp] theorem State.setHead_tables (s : State) (x : Head) : (s.setHead x).tables = s.tables := rfl
@[simp] theorem State.setHead_pics (s : State) (x : Head) : (s.setHead x).pics = s.pics := rfl
@[simp] theorem State.setHead_slips (s : State) (x : Head) : (s.setHead x).slips = s.slips := rfl
@[simp] theorem State.setHead_panel (s : State) (x : Head) : (s.setHead x).panel = s.panel := rfl
@[simp] theorem State.setHead_clock (s : State) (x : Head) : (s.setHead x).clock = s.clock := rfl
@[simp] theorem State.setHead_station (s : State) (x : Head) : (s.setHead x).station = s.station := rfl
@[simp] theorem State.setHead_pins (s : State) (x : Head) : (s.setHead x).pins = s.pins := rfl
@[simp] theorem State.setHead_pending (s : State) (x : Head) : (s.setHead x).pending = s.pending := rfl

@[simp] theorem State.setStore_now (s : State) (x : LineStore) : (s.setStore x).now = s.now := rfl
@[simp] theorem State.setStore_enc (s : State) (x : LineStore) : (s.setStore x).enc = s.enc := rfl
@[simp] theorem State.setStore_drum (s : State) (x : LineStore) : (s.setStore x).drum = s.drum := rfl
@[simp] theorem State.setStore_reg (s : State) (x : LineStore) : (s.setStore x).reg = s.reg := rfl
@[simp] theorem State.setStore_scan (s : State) (x : LineStore) : (s.setStore x).scan = s.scan := rfl
@[simp] theorem State.setStore_lamp (s : State) (x : LineStore) : (s.setStore x).lamp = s.lamp := rfl
@[simp] theorem State.setStore_conv (s : State) (x : LineStore) : (s.setStore x).conv = s.conv := rfl
@[simp] theorem State.setStore_head (s : State) (x : LineStore) : (s.setStore x).head = s.head := rfl
@[simp] theorem State.setStore_store (s : State) (x : LineStore) : (s.setStore x).store = x := rfl
@[simp] theorem State.setStore_portA (s : State) (x : LineStore) : (s.setStore x).portA = s.portA := rfl
@[simp] theorem State.setStore_portB (s : State) (x : LineStore) : (s.setStore x).portB = s.portB := rfl
@[simp] theorem State.setStore_sender (s : State) (x : LineStore) : (s.setStore x).sender = s.sender := rfl
@[simp] theorem State.setStore_orders (s : State) (x : LineStore) : (s.setStore x).orders = s.orders := rfl
@[simp] theorem State.setStore_tables (s : State) (x : LineStore) : (s.setStore x).tables = s.tables := rfl
@[simp] theorem State.setStore_pics (s : State) (x : LineStore) : (s.setStore x).pics = s.pics := rfl
@[simp] theorem State.setStore_slips (s : State) (x : LineStore) : (s.setStore x).slips = s.slips := rfl
@[simp] theorem State.setStore_panel (s : State) (x : LineStore) : (s.setStore x).panel = s.panel := rfl
@[simp] theorem State.setStore_clock (s : State) (x : LineStore) : (s.setStore x).clock = s.clock := rfl
@[simp] theorem State.setStore_station (s : State) (x : LineStore) : (s.setStore x).station = s.station := rfl
@[simp] theorem State.setStore_pins (s : State) (x : LineStore) : (s.setStore x).pins = s.pins := rfl
@[simp] theorem State.setStore_pending (s : State) (x : LineStore) : (s.setStore x).pending = s.pending := rfl

@[simp] theorem State.setSender_now (s : State) (x : Sender) : (s.setSender x).now = s.now := rfl
@[simp] theorem State.setSender_enc (s : State) (x : Sender) : (s.setSender x).enc = s.enc := rfl
@[simp] theorem State.setSender_drum (s : State) (x : Sender) : (s.setSender x).drum = s.drum := rfl
@[simp] theorem State.setSender_reg (s : State) (x : Sender) : (s.setSender x).reg = s.reg := rfl
@[simp] theorem State.setSender_scan (s : State) (x : Sender) : (s.setSender x).scan = s.scan := rfl
@[simp] theorem State.setSender_lamp (s : State) (x : Sender) : (s.setSender x).lamp = s.lamp := rfl
@[simp] theorem State.setSender_conv (s : State) (x : Sender) : (s.setSender x).conv = s.conv := rfl
@[simp] theorem State.setSender_head (s : State) (x : Sender) : (s.setSender x).head = s.head := rfl
@[simp] theorem State.setSender_store (s : State) (x : Sender) : (s.setSender x).store = s.store := rfl
@[simp] theorem State.setSender_portA (s : State) (x : Sender) : (s.setSender x).portA = s.portA := rfl
@[simp] theorem State.setSender_portB (s : State) (x : Sender) : (s.setSender x).portB = s.portB := rfl
@[simp] theorem State.setSender_sender (s : State) (x : Sender) : (s.setSender x).sender = x := rfl
@[simp] theorem State.setSender_orders (s : State) (x : Sender) : (s.setSender x).orders = s.orders := rfl
@[simp] theorem State.setSender_tables (s : State) (x : Sender) : (s.setSender x).tables = s.tables := rfl
@[simp] theorem State.setSender_pics (s : State) (x : Sender) : (s.setSender x).pics = s.pics := rfl
@[simp] theorem State.setSender_slips (s : State) (x : Sender) : (s.setSender x).slips = s.slips := rfl
@[simp] theorem State.setSender_panel (s : State) (x : Sender) : (s.setSender x).panel = s.panel := rfl
@[simp] theorem State.setSender_clock (s : State) (x : Sender) : (s.setSender x).clock = s.clock := rfl
@[simp] theorem State.setSender_station (s : State) (x : Sender) : (s.setSender x).station = s.station := rfl
@[simp] theorem State.setSender_pins (s : State) (x : Sender) : (s.setSender x).pins = s.pins := rfl
@[simp] theorem State.setSender_pending (s : State) (x : Sender) : (s.setSender x).pending = s.pending := rfl

@[simp] theorem State.setOrders_now (s : State) (x : List Order) : (s.setOrders x).now = s.now := rfl
@[simp] theorem State.setOrders_enc (s : State) (x : List Order) : (s.setOrders x).enc = s.enc := rfl
@[simp] theorem State.setOrders_drum (s : State) (x : List Order) : (s.setOrders x).drum = s.drum := rfl
@[simp] theorem State.setOrders_reg (s : State) (x : List Order) : (s.setOrders x).reg = s.reg := rfl
@[simp] theorem State.setOrders_scan (s : State) (x : List Order) : (s.setOrders x).scan = s.scan := rfl
@[simp] theorem State.setOrders_lamp (s : State) (x : List Order) : (s.setOrders x).lamp = s.lamp := rfl
@[simp] theorem State.setOrders_conv (s : State) (x : List Order) : (s.setOrders x).conv = s.conv := rfl
@[simp] theorem State.setOrders_head (s : State) (x : List Order) : (s.setOrders x).head = s.head := rfl
@[simp] theorem State.setOrders_store (s : State) (x : List Order) : (s.setOrders x).store = s.store := rfl
@[simp] theorem State.setOrders_portA (s : State) (x : List Order) : (s.setOrders x).portA = s.portA := rfl
@[simp] theorem State.setOrders_portB (s : State) (x : List Order) : (s.setOrders x).portB = s.portB := rfl
@[simp] theorem State.setOrders_sender (s : State) (x : List Order) : (s.setOrders x).sender = s.sender := rfl
@[simp] theorem State.setOrders_orders (s : State) (x : List Order) : (s.setOrders x).orders = x := rfl
@[simp] theorem State.setOrders_tables (s : State) (x : List Order) : (s.setOrders x).tables = s.tables := rfl
@[simp] theorem State.setOrders_pics (s : State) (x : List Order) : (s.setOrders x).pics = s.pics := rfl
@[simp] theorem State.setOrders_slips (s : State) (x : List Order) : (s.setOrders x).slips = s.slips := rfl
@[simp] theorem State.setOrders_panel (s : State) (x : List Order) : (s.setOrders x).panel = s.panel := rfl
@[simp] theorem State.setOrders_clock (s : State) (x : List Order) : (s.setOrders x).clock = s.clock := rfl
@[simp] theorem State.setOrders_station (s : State) (x : List Order) : (s.setOrders x).station = s.station := rfl
@[simp] theorem State.setOrders_pins (s : State) (x : List Order) : (s.setOrders x).pins = s.pins := rfl
@[simp] theorem State.setOrders_pending (s : State) (x : List Order) : (s.setOrders x).pending = s.pending := rfl

@[simp] theorem State.setTables_now (s : State) (x : Tables) : (s.setTables x).now = s.now := rfl
@[simp] theorem State.setTables_enc (s : State) (x : Tables) : (s.setTables x).enc = s.enc := rfl
@[simp] theorem State.setTables_drum (s : State) (x : Tables) : (s.setTables x).drum = s.drum := rfl
@[simp] theorem State.setTables_reg (s : State) (x : Tables) : (s.setTables x).reg = s.reg := rfl
@[simp] theorem State.setTables_scan (s : State) (x : Tables) : (s.setTables x).scan = s.scan := rfl
@[simp] theorem State.setTables_lamp (s : State) (x : Tables) : (s.setTables x).lamp = s.lamp := rfl
@[simp] theorem State.setTables_conv (s : State) (x : Tables) : (s.setTables x).conv = s.conv := rfl
@[simp] theorem State.setTables_head (s : State) (x : Tables) : (s.setTables x).head = s.head := rfl
@[simp] theorem State.setTables_store (s : State) (x : Tables) : (s.setTables x).store = s.store := rfl
@[simp] theorem State.setTables_portA (s : State) (x : Tables) : (s.setTables x).portA = s.portA := rfl
@[simp] theorem State.setTables_portB (s : State) (x : Tables) : (s.setTables x).portB = s.portB := rfl
@[simp] theorem State.setTables_sender (s : State) (x : Tables) : (s.setTables x).sender = s.sender := rfl
@[simp] theorem State.setTables_orders (s : State) (x : Tables) : (s.setTables x).orders = s.orders := rfl
@[simp] theorem State.setTables_tables (s : State) (x : Tables) : (s.setTables x).tables = x := rfl
@[simp] theorem State.setTables_pics (s : State) (x : Tables) : (s.setTables x).pics = s.pics := rfl
@[simp] theorem State.setTables_slips (s : State) (x : Tables) : (s.setTables x).slips = s.slips := rfl
@[simp] theorem State.setTables_panel (s : State) (x : Tables) : (s.setTables x).panel = s.panel := rfl
@[simp] theorem State.setTables_clock (s : State) (x : Tables) : (s.setTables x).clock = s.clock := rfl
@[simp] theorem State.setTables_station (s : State) (x : Tables) : (s.setTables x).station = s.station := rfl
@[simp] theorem State.setTables_pins (s : State) (x : Tables) : (s.setTables x).pins = s.pins := rfl
@[simp] theorem State.setTables_pending (s : State) (x : Tables) : (s.setTables x).pending = s.pending := rfl

@[simp] theorem State.setPics_now (s : State) (x : PicTable) : (s.setPics x).now = s.now := rfl
@[simp] theorem State.setPics_enc (s : State) (x : PicTable) : (s.setPics x).enc = s.enc := rfl
@[simp] theorem State.setPics_drum (s : State) (x : PicTable) : (s.setPics x).drum = s.drum := rfl
@[simp] theorem State.setPics_reg (s : State) (x : PicTable) : (s.setPics x).reg = s.reg := rfl
@[simp] theorem State.setPics_scan (s : State) (x : PicTable) : (s.setPics x).scan = s.scan := rfl
@[simp] theorem State.setPics_lamp (s : State) (x : PicTable) : (s.setPics x).lamp = s.lamp := rfl
@[simp] theorem State.setPics_conv (s : State) (x : PicTable) : (s.setPics x).conv = s.conv := rfl
@[simp] theorem State.setPics_head (s : State) (x : PicTable) : (s.setPics x).head = s.head := rfl
@[simp] theorem State.setPics_store (s : State) (x : PicTable) : (s.setPics x).store = s.store := rfl
@[simp] theorem State.setPics_portA (s : State) (x : PicTable) : (s.setPics x).portA = s.portA := rfl
@[simp] theorem State.setPics_portB (s : State) (x : PicTable) : (s.setPics x).portB = s.portB := rfl
@[simp] theorem State.setPics_sender (s : State) (x : PicTable) : (s.setPics x).sender = s.sender := rfl
@[simp] theorem State.setPics_orders (s : State) (x : PicTable) : (s.setPics x).orders = s.orders := rfl
@[simp] theorem State.setPics_tables (s : State) (x : PicTable) : (s.setPics x).tables = s.tables := rfl
@[simp] theorem State.setPics_pics (s : State) (x : PicTable) : (s.setPics x).pics = x := rfl
@[simp] theorem State.setPics_slips (s : State) (x : PicTable) : (s.setPics x).slips = s.slips := rfl
@[simp] theorem State.setPics_panel (s : State) (x : PicTable) : (s.setPics x).panel = s.panel := rfl
@[simp] theorem State.setPics_clock (s : State) (x : PicTable) : (s.setPics x).clock = s.clock := rfl
@[simp] theorem State.setPics_station (s : State) (x : PicTable) : (s.setPics x).station = s.station := rfl
@[simp] theorem State.setPics_pins (s : State) (x : PicTable) : (s.setPics x).pins = s.pins := rfl
@[simp] theorem State.setPics_pending (s : State) (x : PicTable) : (s.setPics x).pending = s.pending := rfl

@[simp] theorem State.setSlips_now (s : State) (x : SlipUnit) : (s.setSlips x).now = s.now := rfl
@[simp] theorem State.setSlips_enc (s : State) (x : SlipUnit) : (s.setSlips x).enc = s.enc := rfl
@[simp] theorem State.setSlips_drum (s : State) (x : SlipUnit) : (s.setSlips x).drum = s.drum := rfl
@[simp] theorem State.setSlips_reg (s : State) (x : SlipUnit) : (s.setSlips x).reg = s.reg := rfl
@[simp] theorem State.setSlips_scan (s : State) (x : SlipUnit) : (s.setSlips x).scan = s.scan := rfl
@[simp] theorem State.setSlips_lamp (s : State) (x : SlipUnit) : (s.setSlips x).lamp = s.lamp := rfl
@[simp] theorem State.setSlips_conv (s : State) (x : SlipUnit) : (s.setSlips x).conv = s.conv := rfl
@[simp] theorem State.setSlips_head (s : State) (x : SlipUnit) : (s.setSlips x).head = s.head := rfl
@[simp] theorem State.setSlips_store (s : State) (x : SlipUnit) : (s.setSlips x).store = s.store := rfl
@[simp] theorem State.setSlips_portA (s : State) (x : SlipUnit) : (s.setSlips x).portA = s.portA := rfl
@[simp] theorem State.setSlips_portB (s : State) (x : SlipUnit) : (s.setSlips x).portB = s.portB := rfl
@[simp] theorem State.setSlips_sender (s : State) (x : SlipUnit) : (s.setSlips x).sender = s.sender := rfl
@[simp] theorem State.setSlips_orders (s : State) (x : SlipUnit) : (s.setSlips x).orders = s.orders := rfl
@[simp] theorem State.setSlips_tables (s : State) (x : SlipUnit) : (s.setSlips x).tables = s.tables := rfl
@[simp] theorem State.setSlips_pics (s : State) (x : SlipUnit) : (s.setSlips x).pics = s.pics := rfl
@[simp] theorem State.setSlips_slips (s : State) (x : SlipUnit) : (s.setSlips x).slips = x := rfl
@[simp] theorem State.setSlips_panel (s : State) (x : SlipUnit) : (s.setSlips x).panel = s.panel := rfl
@[simp] theorem State.setSlips_clock (s : State) (x : SlipUnit) : (s.setSlips x).clock = s.clock := rfl
@[simp] theorem State.setSlips_station (s : State) (x : SlipUnit) : (s.setSlips x).station = s.station := rfl
@[simp] theorem State.setSlips_pins (s : State) (x : SlipUnit) : (s.setSlips x).pins = s.pins := rfl
@[simp] theorem State.setSlips_pending (s : State) (x : SlipUnit) : (s.setSlips x).pending = s.pending := rfl

@[simp] theorem State.setPanel_now (s : State) (x : Panel) : (s.setPanel x).now = s.now := rfl
@[simp] theorem State.setPanel_enc (s : State) (x : Panel) : (s.setPanel x).enc = s.enc := rfl
@[simp] theorem State.setPanel_drum (s : State) (x : Panel) : (s.setPanel x).drum = s.drum := rfl
@[simp] theorem State.setPanel_reg (s : State) (x : Panel) : (s.setPanel x).reg = s.reg := rfl
@[simp] theorem State.setPanel_scan (s : State) (x : Panel) : (s.setPanel x).scan = s.scan := rfl
@[simp] theorem State.setPanel_lamp (s : State) (x : Panel) : (s.setPanel x).lamp = s.lamp := rfl
@[simp] theorem State.setPanel_conv (s : State) (x : Panel) : (s.setPanel x).conv = s.conv := rfl
@[simp] theorem State.setPanel_head (s : State) (x : Panel) : (s.setPanel x).head = s.head := rfl
@[simp] theorem State.setPanel_store (s : State) (x : Panel) : (s.setPanel x).store = s.store := rfl
@[simp] theorem State.setPanel_portA (s : State) (x : Panel) : (s.setPanel x).portA = s.portA := rfl
@[simp] theorem State.setPanel_portB (s : State) (x : Panel) : (s.setPanel x).portB = s.portB := rfl
@[simp] theorem State.setPanel_sender (s : State) (x : Panel) : (s.setPanel x).sender = s.sender := rfl
@[simp] theorem State.setPanel_orders (s : State) (x : Panel) : (s.setPanel x).orders = s.orders := rfl
@[simp] theorem State.setPanel_tables (s : State) (x : Panel) : (s.setPanel x).tables = s.tables := rfl
@[simp] theorem State.setPanel_pics (s : State) (x : Panel) : (s.setPanel x).pics = s.pics := rfl
@[simp] theorem State.setPanel_slips (s : State) (x : Panel) : (s.setPanel x).slips = s.slips := rfl
@[simp] theorem State.setPanel_panel (s : State) (x : Panel) : (s.setPanel x).panel = x := rfl
@[simp] theorem State.setPanel_clock (s : State) (x : Panel) : (s.setPanel x).clock = s.clock := rfl
@[simp] theorem State.setPanel_station (s : State) (x : Panel) : (s.setPanel x).station = s.station := rfl
@[simp] theorem State.setPanel_pins (s : State) (x : Panel) : (s.setPanel x).pins = s.pins := rfl
@[simp] theorem State.setPanel_pending (s : State) (x : Panel) : (s.setPanel x).pending = s.pending := rfl

@[simp] theorem State.setClock_now (s : State) (x : Clock) : (s.setClock x).now = s.now := rfl
@[simp] theorem State.setClock_enc (s : State) (x : Clock) : (s.setClock x).enc = s.enc := rfl
@[simp] theorem State.setClock_drum (s : State) (x : Clock) : (s.setClock x).drum = s.drum := rfl
@[simp] theorem State.setClock_reg (s : State) (x : Clock) : (s.setClock x).reg = s.reg := rfl
@[simp] theorem State.setClock_scan (s : State) (x : Clock) : (s.setClock x).scan = s.scan := rfl
@[simp] theorem State.setClock_lamp (s : State) (x : Clock) : (s.setClock x).lamp = s.lamp := rfl
@[simp] theorem State.setClock_conv (s : State) (x : Clock) : (s.setClock x).conv = s.conv := rfl
@[simp] theorem State.setClock_head (s : State) (x : Clock) : (s.setClock x).head = s.head := rfl
@[simp] theorem State.setClock_store (s : State) (x : Clock) : (s.setClock x).store = s.store := rfl
@[simp] theorem State.setClock_portA (s : State) (x : Clock) : (s.setClock x).portA = s.portA := rfl
@[simp] theorem State.setClock_portB (s : State) (x : Clock) : (s.setClock x).portB = s.portB := rfl
@[simp] theorem State.setClock_sender (s : State) (x : Clock) : (s.setClock x).sender = s.sender := rfl
@[simp] theorem State.setClock_orders (s : State) (x : Clock) : (s.setClock x).orders = s.orders := rfl
@[simp] theorem State.setClock_tables (s : State) (x : Clock) : (s.setClock x).tables = s.tables := rfl
@[simp] theorem State.setClock_pics (s : State) (x : Clock) : (s.setClock x).pics = s.pics := rfl
@[simp] theorem State.setClock_slips (s : State) (x : Clock) : (s.setClock x).slips = s.slips := rfl
@[simp] theorem State.setClock_panel (s : State) (x : Clock) : (s.setClock x).panel = s.panel := rfl
@[simp] theorem State.setClock_clock (s : State) (x : Clock) : (s.setClock x).clock = x := rfl
@[simp] theorem State.setClock_station (s : State) (x : Clock) : (s.setClock x).station = s.station := rfl
@[simp] theorem State.setClock_pins (s : State) (x : Clock) : (s.setClock x).pins = s.pins := rfl
@[simp] theorem State.setClock_pending (s : State) (x : Clock) : (s.setClock x).pending = s.pending := rfl

@[simp] theorem State.setStation_now (s : State) (x : Station) : (s.setStation x).now = s.now := rfl
@[simp] theorem State.setStation_enc (s : State) (x : Station) : (s.setStation x).enc = s.enc := rfl
@[simp] theorem State.setStation_drum (s : State) (x : Station) : (s.setStation x).drum = s.drum := rfl
@[simp] theorem State.setStation_reg (s : State) (x : Station) : (s.setStation x).reg = s.reg := rfl
@[simp] theorem State.setStation_scan (s : State) (x : Station) : (s.setStation x).scan = s.scan := rfl
@[simp] theorem State.setStation_lamp (s : State) (x : Station) : (s.setStation x).lamp = s.lamp := rfl
@[simp] theorem State.setStation_conv (s : State) (x : Station) : (s.setStation x).conv = s.conv := rfl
@[simp] theorem State.setStation_head (s : State) (x : Station) : (s.setStation x).head = s.head := rfl
@[simp] theorem State.setStation_store (s : State) (x : Station) : (s.setStation x).store = s.store := rfl
@[simp] theorem State.setStation_portA (s : State) (x : Station) : (s.setStation x).portA = s.portA := rfl
@[simp] theorem State.setStation_portB (s : State) (x : Station) : (s.setStation x).portB = s.portB := rfl
@[simp] theorem State.setStation_sender (s : State) (x : Station) : (s.setStation x).sender = s.sender := rfl
@[simp] theorem State.setStation_orders (s : State) (x : Station) : (s.setStation x).orders = s.orders := rfl
@[simp] theorem State.setStation_tables (s : State) (x : Station) : (s.setStation x).tables = s.tables := rfl
@[simp] theorem State.setStation_pics (s : State) (x : Station) : (s.setStation x).pics = s.pics := rfl
@[simp] theorem State.setStation_slips (s : State) (x : Station) : (s.setStation x).slips = s.slips := rfl
@[simp] theorem State.setStation_panel (s : State) (x : Station) : (s.setStation x).panel = s.panel := rfl
@[simp] theorem State.setStation_clock (s : State) (x : Station) : (s.setStation x).clock = s.clock := rfl
@[simp] theorem State.setStation_station (s : State) (x : Station) : (s.setStation x).station = x := rfl
@[simp] theorem State.setStation_pins (s : State) (x : Station) : (s.setStation x).pins = s.pins := rfl
@[simp] theorem State.setStation_pending (s : State) (x : Station) : (s.setStation x).pending = s.pending := rfl

@[simp] theorem State.setPins_now (s : State) (x : Pins) : (s.setPins x).now = s.now := rfl
@[simp] theorem State.setPins_enc (s : State) (x : Pins) : (s.setPins x).enc = s.enc := rfl
@[simp] theorem State.setPins_drum (s : State) (x : Pins) : (s.setPins x).drum = s.drum := rfl
@[simp] theorem State.setPins_reg (s : State) (x : Pins) : (s.setPins x).reg = s.reg := rfl
@[simp] theorem State.setPins_scan (s : State) (x : Pins) : (s.setPins x).scan = s.scan := rfl
@[simp] theorem State.setPins_lamp (s : State) (x : Pins) : (s.setPins x).lamp = s.lamp := rfl
@[simp] theorem State.setPins_conv (s : State) (x : Pins) : (s.setPins x).conv = s.conv := rfl
@[simp] theorem State.setPins_head (s : State) (x : Pins) : (s.setPins x).head = s.head := rfl
@[simp] theorem State.setPins_store (s : State) (x : Pins) : (s.setPins x).store = s.store := rfl
@[simp] theorem State.setPins_portA (s : State) (x : Pins) : (s.setPins x).portA = s.portA := rfl
@[simp] theorem State.setPins_portB (s : State) (x : Pins) : (s.setPins x).portB = s.portB := rfl
@[simp] theorem State.setPins_sender (s : State) (x : Pins) : (s.setPins x).sender = s.sender := rfl
@[simp] theorem State.setPins_orders (s : State) (x : Pins) : (s.setPins x).orders = s.orders := rfl
@[simp] theorem State.setPins_tables (s : State) (x : Pins) : (s.setPins x).tables = s.tables := rfl
@[simp] theorem State.setPins_pics (s : State) (x : Pins) : (s.setPins x).pics = s.pics := rfl
@[simp] theorem State.setPins_slips (s : State) (x : Pins) : (s.setPins x).slips = s.slips := rfl
@[simp] theorem State.setPins_panel (s : State) (x : Pins) : (s.setPins x).panel = s.panel := rfl
@[simp] theorem State.setPins_clock (s : State) (x : Pins) : (s.setPins x).clock = s.clock := rfl
@[simp] theorem State.setPins_station (s : State) (x : Pins) : (s.setPins x).station = s.station := rfl
@[simp] theorem State.setPins_pins (s : State) (x : Pins) : (s.setPins x).pins = x := rfl
@[simp] theorem State.setPins_pending (s : State) (x : Pins) : (s.setPins x).pending = s.pending := rfl

@[simp] theorem State.setPort_now (s : State) (p : PortId) (x : Port) : (s.setPort p x).now = s.now := by cases p <;> rfl
@[simp] theorem State.setPort_enc (s : State) (p : PortId) (x : Port) : (s.setPort p x).enc = s.enc := by cases p <;> rfl
@[simp] theorem State.setPort_drum (s : State) (p : PortId) (x : Port) : (s.setPort p x).drum = s.drum := by cases p <;> rfl
@[simp] theorem State.setPort_reg (s : State) (p : PortId) (x : Port) : (s.setPort p x).reg = s.reg := by cases p <;> rfl
@[simp] theorem State.setPort_scan (s : State) (p : PortId) (x : Port) : (s.setPort p x).scan = s.scan := by cases p <;> rfl
@[simp] theorem State.setPort_lamp (s : State) (p : PortId) (x : Port) : (s.setPort p x).lamp = s.lamp := by cases p <;> rfl
@[simp] theorem State.setPort_conv (s : State) (p : PortId) (x : Port) : (s.setPort p x).conv = s.conv := by cases p <;> rfl
@[simp] theorem State.setPort_head (s : State) (p : PortId) (x : Port) : (s.setPort p x).head = s.head := by cases p <;> rfl
@[simp] theorem State.setPort_store (s : State) (p : PortId) (x : Port) : (s.setPort p x).store = s.store := by cases p <;> rfl
@[simp] theorem State.setPort_sender (s : State) (p : PortId) (x : Port) : (s.setPort p x).sender = s.sender := by cases p <;> rfl
@[simp] theorem State.setPort_orders (s : State) (p : PortId) (x : Port) : (s.setPort p x).orders = s.orders := by cases p <;> rfl
@[simp] theorem State.setPort_tables (s : State) (p : PortId) (x : Port) : (s.setPort p x).tables = s.tables := by cases p <;> rfl
@[simp] theorem State.setPort_pics (s : State) (p : PortId) (x : Port) : (s.setPort p x).pics = s.pics := by cases p <;> rfl
@[simp] theorem State.setPort_slips (s : State) (p : PortId) (x : Port) : (s.setPort p x).slips = s.slips := by cases p <;> rfl
@[simp] theorem State.setPort_panel (s : State) (p : PortId) (x : Port) : (s.setPort p x).panel = s.panel := by cases p <;> rfl
@[simp] theorem State.setPort_clock (s : State) (p : PortId) (x : Port) : (s.setPort p x).clock = s.clock := by cases p <;> rfl
@[simp] theorem State.setPort_station (s : State) (p : PortId) (x : Port) : (s.setPort p x).station = s.station := by cases p <;> rfl
@[simp] theorem State.setPort_pins (s : State) (p : PortId) (x : Port) : (s.setPort p x).pins = s.pins := by cases p <;> rfl
@[simp] theorem State.setPort_pending (s : State) (p : PortId) (x : Port) : (s.setPort p x).pending = s.pending := by cases p <;> rfl

@[simp] theorem State.setPort_port_same (s : State) (p : PortId) (x : Port) : (s.setPort p x).port p = x := by
  cases p <;> rfl

theorem State.setPort_port_other (s : State) (p q : PortId) (x : Port) (h : p ≠ q) :
    (s.setPort p x).port q = s.port q := by
  cases p <;> cases q <;> first | rfl | exact absurd rfl h

@[simp] theorem State.setNow_port (s : State) (x : Tick) (p : PortId) : (s.setNow x).port p = s.port p := by cases p <;> rfl
@[simp] theorem State.setEnc_port (s : State) (x : Encoder) (p : PortId) : (s.setEnc x).port p = s.port p := by cases p <;> rfl
@[simp] theorem State.setDrum_port (s : State) (x : Drum) (p : PortId) : (s.setDrum x).port p = s.port p := by cases p <;> rfl
@[simp] theorem State.setReg_port (s : State) (x : Regulator) (p : PortId) : (s.setReg x).port p = s.port p := by cases p <;> rfl
@[simp] theorem State.setScan_port (s : State) (x : Scanner) (p : PortId) : (s.setScan x).port p = s.port p := by cases p <;> rfl
@[simp] theorem State.setLamp_port (s : State) (x : Lamp) (p : PortId) : (s.setLamp x).port p = s.port p := by cases p <;> rfl
@[simp] theorem State.setConv_port (s : State) (x : Converter) (p : PortId) : (s.setConv x).port p = s.port p := by cases p <;> rfl
@[simp] theorem State.setHead_port (s : State) (x : Head) (p : PortId) : (s.setHead x).port p = s.port p := by cases p <;> rfl
@[simp] theorem State.setStore_port (s : State) (x : LineStore) (p : PortId) : (s.setStore x).port p = s.port p := by cases p <;> rfl
@[simp] theorem State.setSender_port (s : State) (x : Sender) (p : PortId) : (s.setSender x).port p = s.port p := by cases p <;> rfl
@[simp] theorem State.setOrders_port (s : State) (x : List Order) (p : PortId) : (s.setOrders x).port p = s.port p := by cases p <;> rfl
@[simp] theorem State.setTables_port (s : State) (x : Tables) (p : PortId) : (s.setTables x).port p = s.port p := by cases p <;> rfl
@[simp] theorem State.setPics_port (s : State) (x : PicTable) (p : PortId) : (s.setPics x).port p = s.port p := by cases p <;> rfl
@[simp] theorem State.setSlips_port (s : State) (x : SlipUnit) (p : PortId) : (s.setSlips x).port p = s.port p := by cases p <;> rfl
@[simp] theorem State.setPanel_port (s : State) (x : Panel) (p : PortId) : (s.setPanel x).port p = s.port p := by cases p <;> rfl
@[simp] theorem State.setClock_port (s : State) (x : Clock) (p : PortId) : (s.setClock x).port p = s.port p := by cases p <;> rfl
@[simp] theorem State.setStation_port (s : State) (x : Station) (p : PortId) : (s.setStation x).port p = s.port p := by cases p <;> rfl
@[simp] theorem State.setPins_port (s : State) (x : Pins) (p : PortId) : (s.setPins x).port p = s.port p := by cases p <;> rfl

@[simp] theorem State.port_a (s : State) : s.port .a = s.portA := rfl
@[simp] theorem State.port_b (s : State) : s.port .b = s.portB := rfl
@[simp] theorem State.setPort_a_portA (s : State) (x : Port) : (s.setPort .a x).portA = x := rfl
@[simp] theorem State.setPort_a_portB (s : State) (x : Port) : (s.setPort .a x).portB = s.portB := rfl
@[simp] theorem State.setPort_b_portA (s : State) (x : Port) : (s.setPort .b x).portA = s.portA := rfl
@[simp] theorem State.setPort_b_portB (s : State) (x : Port) : (s.setPort .b x).portB = x := rfl

end Sys2Proof.Machine
end

