-- ==== Sys2Proof/Laws/Only.lean ====
section
/-! SUPPORT. What each operation may change: with its parts allowed, an operation keeps the others (one lemma an operation,
composed in the order the operations are). -/

namespace Sys2Proof.Machine

/-! ### The relation -/

theorem Part.same_refl (p : Part) (s : State) : p.same s s := by cases p <;> rfl

theorem Part.same_trans {p : Part} {s t u : State} (h : p.same s t) (k : p.same t u) : p.same s u := by
  cases p <;> exact Eq.trans k h

theorem Only.refl (ps : List Part) (s : State) : Only ps s s := fun p _ => p.same_refl s

theorem Only.trans {ps : List Part} {s t u : State} (h : Only ps s t) (k : Only ps t u) : Only ps s u :=
  fun p hp => Part.same_trans (h p hp) (k p hp)

theorem Only.mono {ps qs : List Part} {s t : State} (h : Only ps s t) (hs : ps ⊆ qs) : Only qs s t :=
  fun p hp => h p fun hq => hp (hs hq)

theorem portPart_mem {ps : List Part} (p : PortId) (ha : Part.portA ∈ ps) (hb : Part.portB ∈ ps) : portPart p ∈ ps := by
  cases p <;> assumption

/-! ### Reading a part that is kept -/

theorem Only.now {ps : List Part} {s t : State} (h : Only ps s t) (hp : Part.now ∉ ps) : t.now = s.now := h _ hp
theorem Only.enc {ps : List Part} {s t : State} (h : Only ps s t) (hp : Part.enc ∉ ps) : t.enc = s.enc := h _ hp
theorem Only.drum {ps : List Part} {s t : State} (h : Only ps s t) (hp : Part.drum ∉ ps) : t.drum = s.drum := h _ hp
theorem Only.reg {ps : List Part} {s t : State} (h : Only ps s t) (hp : Part.reg ∉ ps) : t.reg = s.reg := h _ hp
theorem Only.scan {ps : List Part} {s t : State} (h : Only ps s t) (hp : Part.scan ∉ ps) : t.scan = s.scan := h _ hp
theorem Only.lamp {ps : List Part} {s t : State} (h : Only ps s t) (hp : Part.lamp ∉ ps) : t.lamp = s.lamp := h _ hp
theorem Only.conv {ps : List Part} {s t : State} (h : Only ps s t) (hp : Part.conv ∉ ps) : t.conv = s.conv := h _ hp
theorem Only.head {ps : List Part} {s t : State} (h : Only ps s t) (hp : Part.head ∉ ps) : t.head = s.head := h _ hp
theorem Only.store {ps : List Part} {s t : State} (h : Only ps s t) (hp : Part.store ∉ ps) : t.store = s.store := h _ hp
theorem Only.portA {ps : List Part} {s t : State} (h : Only ps s t) (hp : Part.portA ∉ ps) : t.portA = s.portA := h _ hp
theorem Only.portB {ps : List Part} {s t : State} (h : Only ps s t) (hp : Part.portB ∉ ps) : t.portB = s.portB := h _ hp
theorem Only.sender {ps : List Part} {s t : State} (h : Only ps s t) (hp : Part.sender ∉ ps) : t.sender = s.sender := h _ hp
theorem Only.orders {ps : List Part} {s t : State} (h : Only ps s t) (hp : Part.orders ∉ ps) : t.orders = s.orders := h _ hp
theorem Only.tables {ps : List Part} {s t : State} (h : Only ps s t) (hp : Part.tables ∉ ps) : t.tables = s.tables := h _ hp
theorem Only.pics {ps : List Part} {s t : State} (h : Only ps s t) (hp : Part.pics ∉ ps) : t.pics = s.pics := h _ hp
theorem Only.slips {ps : List Part} {s t : State} (h : Only ps s t) (hp : Part.slips ∉ ps) : t.slips = s.slips := h _ hp
theorem Only.panel {ps : List Part} {s t : State} (h : Only ps s t) (hp : Part.panel ∉ ps) : t.panel = s.panel := h _ hp
theorem Only.clock {ps : List Part} {s t : State} (h : Only ps s t) (hp : Part.clock ∉ ps) : t.clock = s.clock := h _ hp
theorem Only.station {ps : List Part} {s t : State} (h : Only ps s t) (hp : Part.station ∉ ps) : t.station = s.station := h _ hp
theorem Only.pins {ps : List Part} {s t : State} (h : Only ps s t) (hp : Part.pins ∉ ps) : t.pins = s.pins := h _ hp
theorem Only.pending {ps : List Part} {s t : State} (h : Only ps s t) (hp : Part.pending ∉ ps) : t.pending = s.pending := h _ hp

theorem Only.port {ps : List Part} {s t : State} (p : PortId) (h : Only ps s t) (hp : portPart p ∉ ps) :
    t.port p = s.port p := by cases p <;> exact h _ hp

/-! ### The named updates -/

theorem setNow_only {ps : List Part} {s t : State} (x : Tick) (hp : Part.now ∈ ps) (h : Only ps s t) :
    Only ps s (t.setNow x) := by
  intro p hn
  have := h p hn
  cases p <;> first | exact this | exact absurd hp hn

theorem setEnc_only {ps : List Part} {s t : State} (x : Encoder) (hp : Part.enc ∈ ps) (h : Only ps s t) :
    Only ps s (t.setEnc x) := by
  intro p hn
  have := h p hn
  cases p <;> first | exact this | exact absurd hp hn

theorem setDrum_only {ps : List Part} {s t : State} (x : Drum) (hp : Part.drum ∈ ps) (h : Only ps s t) :
    Only ps s (t.setDrum x) := by
  intro p hn
  have := h p hn
  cases p <;> first | exact this | exact absurd hp hn

theorem setReg_only {ps : List Part} {s t : State} (x : Regulator) (hp : Part.reg ∈ ps) (h : Only ps s t) :
    Only ps s (t.setReg x) := by
  intro p hn
  have := h p hn
  cases p <;> first | exact this | exact absurd hp hn

theorem setScan_only {ps : List Part} {s t : State} (x : Scanner) (hp : Part.scan ∈ ps) (h : Only ps s t) :
    Only ps s (t.setScan x) := by
  intro p hn
  have := h p hn
  cases p <;> first | exact this | exact absurd hp hn

theorem setLamp_only {ps : List Part} {s t : State} (x : Lamp) (hp : Part.lamp ∈ ps) (h : Only ps s t) :
    Only ps s (t.setLamp x) := by
  intro p hn
  have := h p hn
  cases p <;> first | exact this | exact absurd hp hn

theorem setConv_only {ps : List Part} {s t : State} (x : Converter) (hp : Part.conv ∈ ps) (h : Only ps s t) :
    Only ps s (t.setConv x) := by
  intro p hn
  have := h p hn
  cases p <;> first | exact this | exact absurd hp hn

theorem setHead_only {ps : List Part} {s t : State} (x : Head) (hp : Part.head ∈ ps) (h : Only ps s t) :
    Only ps s (t.setHead x) := by
  intro p hn
  have := h p hn
  cases p <;> first | exact this | exact absurd hp hn

theorem setStore_only {ps : List Part} {s t : State} (x : LineStore) (hp : Part.store ∈ ps) (h : Only ps s t) :
    Only ps s (t.setStore x) := by
  intro p hn
  have := h p hn
  cases p <;> first | exact this | exact absurd hp hn

theorem setSender_only {ps : List Part} {s t : State} (x : Sender) (hp : Part.sender ∈ ps) (h : Only ps s t) :
    Only ps s (t.setSender x) := by
  intro p hn
  have := h p hn
  cases p <;> first | exact this | exact absurd hp hn

theorem setOrders_only {ps : List Part} {s t : State} (x : List Order) (hp : Part.orders ∈ ps) (h : Only ps s t) :
    Only ps s (t.setOrders x) := by
  intro p hn
  have := h p hn
  cases p <;> first | exact this | exact absurd hp hn

theorem setTables_only {ps : List Part} {s t : State} (x : Tables) (hp : Part.tables ∈ ps) (h : Only ps s t) :
    Only ps s (t.setTables x) := by
  intro p hn
  have := h p hn
  cases p <;> first | exact this | exact absurd hp hn

theorem setPics_only {ps : List Part} {s t : State} (x : PicTable) (hp : Part.pics ∈ ps) (h : Only ps s t) :
    Only ps s (t.setPics x) := by
  intro p hn
  have := h p hn
  cases p <;> first | exact this | exact absurd hp hn

theorem setSlips_only {ps : List Part} {s t : State} (x : SlipUnit) (hp : Part.slips ∈ ps) (h : Only ps s t) :
    Only ps s (t.setSlips x) := by
  intro p hn
  have := h p hn
  cases p <;> first | exact this | exact absurd hp hn

theorem setPanel_only {ps : List Part} {s t : State} (x : Panel) (hp : Part.panel ∈ ps) (h : Only ps s t) :
    Only ps s (t.setPanel x) := by
  intro p hn
  have := h p hn
  cases p <;> first | exact this | exact absurd hp hn

theorem setClock_only {ps : List Part} {s t : State} (x : Clock) (hp : Part.clock ∈ ps) (h : Only ps s t) :
    Only ps s (t.setClock x) := by
  intro p hn
  have := h p hn
  cases p <;> first | exact this | exact absurd hp hn

theorem setStation_only {ps : List Part} {s t : State} (x : Station) (hp : Part.station ∈ ps) (h : Only ps s t) :
    Only ps s (t.setStation x) := by
  intro p hn
  have := h p hn
  cases p <;> first | exact this | exact absurd hp hn

theorem setPins_only {ps : List Part} {s t : State} (x : Pins) (hp : Part.pins ∈ ps) (h : Only ps s t) :
    Only ps s (t.setPins x) := by
  intro p hn
  have := h p hn
  cases p <;> first | exact this | exact absurd hp hn

theorem setPort_only {ps : List Part} {s t : State} (q : PortId) (x : Port) (hp : portPart q ∈ ps) (h : Only ps s t) :
    Only ps s (t.setPort q x) := by
  intro p hn
  have := h p hn
  cases q <;> cases p <;> first | exact this | exact absurd hp hn

/-! ### The operations -/

theorem modRec_only {ps : List Part} {s t : State} (i : Nat) (f : PicRecord → PicRecord) (h1 : Part.pics ∈ ps) (h :
    Only ps s t) : Only ps s (modRec i f t) := by
  unfold modRec
  try dsimp only
  with_reducible repeat' (first | assumption | apply setPics_only)

theorem modOnDrum_only {ps : List Part} {s t : State} (f : PicRecord → PicRecord) (h1 : Part.pics ∈ ps) (h : Only ps
    s t) : Only ps s (modOnDrum f t) := by
  unfold modOnDrum
  try dsimp only
  with_reducible repeat' (first | assumption | apply modRec_only | split)

theorem modAttempt_only {ps : List Part} {s t : State} (f : Attempt → Attempt) (h1 : Part.pics ∈ ps) (h : Only ps s
    t) : Only ps s (modAttempt f t) := by
  unfold modAttempt
  try dsimp only
  with_reducible repeat' (first | assumption | apply modOnDrum_only)

theorem countIndexSlip_only {ps : List Part} {s t : State} (h1 : Part.pics ∈ ps) (h : Only ps s t) : Only ps s
    (countIndexSlip t) := by
  unfold countIndexSlip
  try dsimp only
  with_reducible repeat' (first | assumption | apply modAttempt_only | split)

theorem countHeadLate_only {ps : List Part} {s t : State} (h1 : Part.pics ∈ ps) (h : Only ps s t) : Only ps s
    (countHeadLate t) := by
  unfold countHeadLate
  try dsimp only
  with_reducible repeat' (first | assumption | apply modAttempt_only | split)

theorem countLockLost_only {ps : List Part} {s t : State} (h1 : Part.pics ∈ ps) (h : Only ps s t) : Only ps s
    (countLockLost t) := by
  unfold countLockLost
  try dsimp only
  with_reducible repeat' (first | assumption | apply modAttempt_only | split)

theorem requestPhoto_only {ps : List Part} {s t : State} (use : PhotoUse) (h1 : Part.conv ∈ ps) (h : Only ps s t) :
    Only ps s (requestPhoto use t) := by
  unfold requestPhoto
  try dsimp only
  with_reducible repeat' (first | assumption | apply setConv_only | split)

theorem requestTherm_only {ps : List Part} {s t : State} (h1 : Part.conv ∈ ps) (h : Only ps s t) : Only ps s
    (requestTherm t) := by
  unfold requestTherm
  try dsimp only
  with_reducible repeat' (first | assumption | apply setConv_only | split)

theorem startNextConversion_only {ps : List Part} {s t : State} (h1 : Part.conv ∈ ps) (h : Only ps s t) : Only ps s
    (startNextConversion t) := by
  unfold startNextConversion
  try dsimp only
  with_reducible repeat' (first | assumption | apply setConv_only | split)

theorem withdrawPhoto_only {ps : List Part} {s t : State} (h1 : Part.conv ∈ ps) (h : Only ps s t) : Only ps s
    (withdrawPhoto t) := by
  unfold withdrawPhoto
  try dsimp only
  with_reducible repeat' (first | assumption | apply setConv_only)

theorem applyTone_only {ps : List Part} {s t : State} (h1 : Part.tables ∈ ps) (h : Only ps s t) : Only ps s
    (applyTone t) := by
  unfold applyTone
  try dsimp only
  with_reducible repeat' (first | assumption | apply setTables_only | split)

theorem applyStandard_only {ps : List Part} {s t : State} (h1 : Part.tables ∈ ps) (h : Only ps s t) : Only ps s
    (applyStandard t) := by
  unfold applyStandard
  try dsimp only
  with_reducible repeat' (first | assumption | apply setTables_only | split)

theorem applyScan_only {ps : List Part} {s t : State} (h1 : Part.tables ∈ ps) (h : Only ps s t) : Only ps s
    (applyScan t) := by
  unfold applyScan
  try dsimp only
  with_reducible repeat' (first | assumption | apply setTables_only | split)

theorem takeDrumProfile_only {ps : List Part} {s t : State} (p : DrumProfile) (h1 : Part.drum ∈ ps) (h2 :
    Part.tables ∈ ps) (h : Only ps s t) : Only ps s (takeDrumProfile p t) := by
  unfold takeDrumProfile
  try dsimp only
  with_reducible repeat' (first | assumption | apply setTables_only | apply setDrum_only)

theorem applyDrum_only {ps : List Part} {s t : State} (h1 : Part.drum ∈ ps) (h2 : Part.tables ∈ ps) (h : Only ps s
    t) : Only ps s (applyDrum t) := by
  unfold applyDrum
  try dsimp only
  with_reducible repeat'
    first
    | assumption | apply setTables_only | apply takeDrumProfile_only | split

theorem takeLineProfile_only {ps : List Part} {s t : State} (p : PortId) (lp : LineProfile) (h1 : Part.tables ∈ ps)
    (h : Only ps s t) : Only ps s (takeLineProfile p lp t) := by
  unfold takeLineProfile
  try dsimp only
  with_reducible repeat' (first | assumption | apply setTables_only | split)

theorem applyLine_only {ps : List Part} {s t : State} (p : PortId) (h1 : Part.tables ∈ ps) (h : Only ps s t) : Only
    ps s (applyLine p t) := by
  unfold applyLine
  try dsimp only
  with_reducible repeat'
    first
    | assumption | apply setTables_only | apply takeLineProfile_only | split

theorem reportStart_only {ps : List Part} {s t : State} (p : PortId) (h1 : portPart p ∈ ps) (h : Only ps s t) : Only
    ps s (reportStart p t) := by
  unfold reportStart
  try dsimp only
  with_reducible repeat' (first | assumption | apply setPort_only | split)

theorem addItem_only {ps : List Part} {s t : State} (p : PortId) (item : RepItem) (h1 : portPart p ∈ ps) (h : Only
    ps s t) : Only ps s (addItem p item t) := by
  unfold addItem
  try dsimp only
  with_reducible repeat' (first | assumption | apply setPort_only | split)

theorem leaveCarrying_only {ps : List Part} {s t : State} (p : PortId) (activity : Activity) (h1 : portPart p ∈ ps)
    (h2 : Part.tables ∈ ps) (h : Only ps s t) : Only ps s (leaveCarrying p activity t) := by
  unfold leaveCarrying
  try dsimp only
  with_reducible repeat' (first | assumption | apply setPort_only | apply applyLine_only)

theorem enterCarrying_only {ps : List Part} {s t : State} (p : PortId) (h1 : portPart p ∈ ps) (h : Only ps s t) :
    Only ps s (enterCarrying p t) := by
  unfold enterCarrying
  try dsimp only
  with_reducible repeat' (first | assumption | apply setPort_only)

theorem askTherm_only {ps : List Part} {s t : State} (h1 : Part.conv ∈ ps) (h2 : Part.slips ∈ ps) (h : Only ps s t)
    : Only ps s (askTherm t) := by
  unfold askTherm
  try dsimp only
  with_reducible repeat' (first | assumption | apply setSlips_only | apply requestTherm_only | split)

theorem firstFeed_only {ps : List Part} {s t : State} (h1 : Part.slips ∈ ps) (h : Only ps s t) : Only ps s
    (firstFeed t) := by
  unfold firstFeed
  try dsimp only
  with_reducible repeat' (first | assumption | apply setSlips_only)

theorem beginDotLine_only {ps : List Part} {s t : State} (h1 : Part.conv ∈ ps) (h2 : Part.slips ∈ ps) (h : Only ps s
    t) : Only ps s (beginDotLine t) := by
  unfold beginDotLine
  try dsimp only
  with_reducible repeat'
    first
    | assumption | apply setSlips_only | apply askTherm_only | apply firstFeed_only | split

theorem chooseBand_only {ps : List Part} {s t : State} (reading : Nat) (h1 : Part.slips ∈ ps) (h : Only ps s t) :
    Only ps s (chooseBand reading t) := by
  unfold chooseBand
  try dsimp only
  with_reducible repeat' (first | assumption | apply setSlips_only | apply firstFeed_only | split)

theorem takeTherm_only {ps : List Part} {s t : State} (reading : Nat) (h1 : Part.conv ∈ ps) (h2 : Part.slips ∈ ps)
    (h : Only ps s t) : Only ps s (takeTherm reading t) := by
  unfold takeTherm
  try dsimp only
  with_reducible repeat'
    first
    | assumption | apply setSlips_only | apply askTherm_only | apply chooseBand_only | split

theorem startSlip_only {ps : List Part} {s t : State} (req : SlipReq) (h1 : Part.conv ∈ ps) (h2 : Part.slips ∈ ps)
    (h : Only ps s t) : Only ps s (startSlip req t) := by
  unfold startSlip
  try dsimp only
  with_reducible repeat' (first | assumption | apply setSlips_only | apply beginDotLine_only)

theorem slipEval_only {ps : List Part} {s t : State} (h1 : Part.conv ∈ ps) (h2 : Part.slips ∈ ps) (h : Only ps s t)
    : Only ps s (slipEval t) := by
  unfold slipEval
  try dsimp only
  with_reducible repeat' (first | assumption | apply startSlip_only | split)

theorem updateSlipStatus_only {ps : List Part} {s t : State} (slot : Nat) (h1 : Part.pics ∈ ps) (h : Only ps s t) :
    Only ps s (updateSlipStatus slot t) := by
  unfold updateSlipStatus
  try dsimp only
  with_reducible repeat' (first | assumption | apply modRec_only)

theorem oweSlip_only {ps : List Part} {s t : State} (slot : Nat) (kind : SlipKind) (h1 : Part.slips ∈ ps) (h : Only
    ps s t) : Only ps s (oweSlip slot kind t) := by
  unfold oweSlip
  try dsimp only
  with_reducible repeat' (first | assumption | apply setSlips_only)

theorem requestSlip_only {ps : List Part} {s t : State} (slot : Nat) (kind : SlipKind) (h1 : Part.conv ∈ ps)
    (h2 : Part.pics ∈ ps) (h3 : Part.slips ∈ ps) (h : Only ps s t) : Only ps s (requestSlip slot kind t).1 := by
  unfold requestSlip
  with_reducible repeat' (first | assumption | apply slipEval_only | apply updateSlipStatus_only | apply oweSlip_only | apply setSlips_only | split)

theorem fillOne_only {ps : List Part} {s t : State} (h1 : Part.pics ∈ ps) (h2 : Part.slips ∈ ps) (h : Only ps s t) :
    Only ps s (fillOne t) := by
  unfold fillOne
  try dsimp only
  with_reducible repeat'
    first
    | assumption | apply setSlips_only | apply updateSlipStatus_only | split

theorem fillOwed_only {ps : List Part} {s t : State} (n : Nat) (h1 : Part.pics ∈ ps) (h2 : Part.slips ∈ ps)
    (h : Only ps s t) : Only ps s (fillOwed n t) := by
  induction n generalizing t with
  | zero => exact h
  | succ n ih => exact ih (fillOne_only h1 h2 h)

theorem completeSlip_only {ps : List Part} {s t : State} (h1 : Part.conv ∈ ps) (h2 : Part.pics ∈ ps) (h3 :
    Part.slips ∈ ps) (h : Only ps s t) : Only ps s (completeSlip t) := by
  unfold completeSlip
  try dsimp only
  with_reducible repeat'
    first
    | assumption | apply setSlips_only | apply modRec_only | apply slipEval_only | apply fillOwed_only
    | apply updateSlipStatus_only | split

theorem nextDotLine_only {ps : List Part} {s t : State} (h1 : Part.conv ∈ ps) (h2 : Part.pics ∈ ps) (h3 : Part.slips
    ∈ ps) (h : Only ps s t) : Only ps s (nextDotLine t) := by
  unfold nextDotLine
  try dsimp only
  with_reducible repeat'
    first
    | assumption | apply setSlips_only | apply beginDotLine_only | apply completeSlip_only | split

theorem strobeEnd_only {ps : List Part} {s t : State} (h1 : Part.slips ∈ ps) (h : Only ps s t) : Only ps s
    (strobeEnd t) := by
  unfold strobeEnd
  try dsimp only
  with_reducible repeat' (first | assumption | apply setSlips_only | apply firstFeed_only | split)

theorem feedIntervalExpiry_only {ps : List Part} {s t : State} (h1 : Part.conv ∈ ps) (h2 : Part.pics ∈ ps) (h3 :
    Part.slips ∈ ps) (h : Only ps s t) : Only ps s (feedIntervalExpiry t) := by
  unfold feedIntervalExpiry
  try dsimp only
  with_reducible repeat' (first | assumption | apply setSlips_only | apply nextDotLine_only | split)

theorem coolTimerExpiry_only {ps : List Part} {s t : State} (h1 : Part.conv ∈ ps) (h2 : Part.slips ∈ ps) (h : Only
    ps s t) : Only ps s (coolTimerExpiry t) := by
  unfold coolTimerExpiry
  try dsimp only
  with_reducible repeat' (first | assumption | apply setSlips_only | apply askTherm_only | split)

theorem paperOut_only {ps : List Part} {s t : State} (h1 : Part.slips ∈ ps) (h : Only ps s t) : Only ps s (paperOut
    t) := by
  unfold paperOut
  try dsimp only
  with_reducible repeat' (first | assumption | apply setSlips_only)

theorem paperSensorChange_only {ps : List Part} {s t : State} (present : Bool) (h1 : Part.slips ∈ ps) (h2 :
    Part.pins ∈ ps) (h : Only ps s t) : Only ps s (paperSensorChange present t) := by
  unfold paperSensorChange
  try dsimp only
  with_reducible repeat'
    first
    | assumption | apply setPins_only | apply setSlips_only | apply paperOut_only | split

theorem paperTimerExpiry_only {ps : List Part} {s t : State} (h1 : Part.conv ∈ ps) (h2 : Part.slips ∈ ps) (h : Only
    ps s t) : Only ps s (paperTimerExpiry t) := by
  unfold paperTimerExpiry
  try dsimp only
  with_reducible repeat'
    first
    | assumption | apply setSlips_only | apply beginDotLine_only | apply slipEval_only | split

theorem parkHead_only {ps : List Part} {s t : State} (h1 : Part.head ∈ ps) (h2 : Part.tables ∈ ps) (h : Only ps s t)
    : Only ps s (parkHead t) := by
  unfold parkHead
  try dsimp only
  with_reducible repeat' (first | assumption | apply setHead_only | apply applyScan_only | split)

theorem stopHead_only {ps : List Part} {s t : State} (h1 : Part.head ∈ ps) (h : Only ps s t) : Only ps s (stopHead
    t) := by
  unfold stopHead
  try dsimp only
  with_reducible repeat' (first | assumption | apply setHead_only)

theorem rewindStep_only {ps : List Part} {s t : State} (h1 : Part.head ∈ ps) (h : Only ps s t) : Only ps s
    (rewindStep t) := by
  unfold rewindStep
  try dsimp only
  with_reducible repeat' (first | assumption | apply setHead_only | apply stopHead_only | split)

theorem enterRewind_only {ps : List Part} {s t : State} (limit : Nat) (h1 : Part.head ∈ ps) (h2 : Part.tables ∈ ps)
    (h : Only ps s t) : Only ps s (enterRewind limit t) := by
  unfold enterRewind
  try dsimp only
  with_reducible repeat'
    first
    | assumption | apply setHead_only | apply parkHead_only | apply stopHead_only
    | apply rewindStep_only | split

theorem rewindHead_only {ps : List Part} {s t : State} (h1 : Part.head ∈ ps) (h2 : Part.tables ∈ ps) (h : Only ps s
    t) : Only ps s (rewindHead t) := by
  unfold rewindHead
  try dsimp only
  with_reducible repeat' (first | assumption | apply enterRewind_only | split)

theorem stopScanner_only {ps : List Part} {s t : State} (h1 : Part.scan ∈ ps) (h2 : Part.conv ∈ ps) (h : Only ps s
    t) : Only ps s (stopScanner t) := by
  unfold stopScanner
  try dsimp only
  with_reducible repeat' (first | assumption | apply setScan_only | apply withdrawPhoto_only | split)

theorem flushStore_only {ps : List Part} {s t : State} (h1 : Part.store ∈ ps) (h : Only ps s t) : Only ps s
    (flushStore t) := by
  unfold flushStore
  try dsimp only
  with_reducible repeat' (first | assumption | apply setStore_only)

theorem closeSender_only {ps : List Part} {s t : State} (outcome : AttemptOutcome) (h1 : Part.portA ∈ ps) (h2 :
    Part.portB ∈ ps) (h3 : Part.sender ∈ ps) (h : Only ps s t) : Only ps s (closeSender outcome t) := by
  unfold closeSender
  try dsimp only
  with_reducible repeat'
    first
    | assumption | apply setSender_only | apply setPort_only | apply portPart_mem | split

theorem finishRecord_only {ps : List Part} {s t : State} (slot : Nat) (outcome : FinalOutcome) (cause : FailCause)
    (h1 : Part.conv ∈ ps) (h2 : Part.head ∈ ps) (h3 : Part.tables ∈ ps) (h4 : Part.pics ∈ ps) (h5 : Part.slips ∈ ps)
    (h : Only ps s t) : Only ps s (finishRecord slot outcome cause t) := by
  unfold finishRecord
  try dsimp only
  with_reducible repeat'
    first
    | assumption | apply setPics_only | apply modRec_only | apply rewindHead_only
    | apply requestSlip_only | split

theorem awaitReceipts_only {ps : List Part} {s t : State} (slot : Nat) (h1 : Part.pics ∈ ps) (h : Only ps s t) :
    Only ps s (awaitReceipts slot t) := by
  unfold awaitReceipts
  try dsimp only
  with_reducible repeat' (first | assumption | apply setPics_only | apply modRec_only)

theorem grantAgain_only {ps : List Part} {s t : State} (slot : Nat) (h1 : Part.conv ∈ ps) (h2 : Part.head ∈ ps) (h3
    : Part.tables ∈ ps) (h4 : Part.pics ∈ ps) (h5 : Part.slips ∈ ps) (h : Only ps s t) : Only ps s (grantAgain slot
    t) := by
  unfold grantAgain
  try dsimp only
  with_reducible repeat'
    first
    | assumption | apply setPics_only | apply finishRecord_only | apply modRec_only | split

theorem moveRecord_only {ps : List Part} {s t : State} (slot : Nat) (outcome : AttemptOutcome) (h1 : Part.conv ∈ ps)
    (h2 : Part.head ∈ ps) (h3 : Part.tables ∈ ps) (h4 : Part.pics ∈ ps) (h5 : Part.slips ∈ ps) (h : Only ps s t) :
    Only ps s (moveRecord slot outcome t) := by
  unfold moveRecord
  try dsimp only
  with_reducible repeat'
    first
    | assumption | apply awaitReceipts_only | apply grantAgain_only | apply finishRecord_only | split

theorem closeAttempt_only {ps : List Part} {s t : State} (outcome : AttemptOutcome) (h1 : Part.pics ∈ ps) (h : Only
    ps s t) : Only ps s (closeAttempt outcome t) := by
  unfold closeAttempt
  try dsimp only
  with_reducible repeat' (first | assumption | apply modAttempt_only)

theorem endAttemptUse_only {ps : List Part} {s t : State} (h1 : Part.tables ∈ ps) (h : Only ps s t) : Only ps s
    (endAttemptUse t) := by
  unfold endAttemptUse
  try dsimp only
  with_reducible repeat'
    first
    | assumption | apply applyStandard_only | apply applyTone_only | apply applyScan_only | split

theorem attemptEnd_only {ps : List Part} {s t : State} (outcome : AttemptOutcome) (h1 : Part.scan ∈ ps) (h2 :
    Part.conv ∈ ps) (h3 : Part.head ∈ ps) (h4 : Part.store ∈ ps) (h5 : Part.portA ∈ ps) (h6 : Part.portB ∈ ps) (h7 :
    Part.sender ∈ ps) (h8 : Part.tables ∈ ps) (h9 : Part.pics ∈ ps) (h10 : Part.slips ∈ ps) (h : Only ps s t) : Only
    ps s (attemptEnd outcome t) := by
  unfold attemptEnd
  try dsimp only
  with_reducible repeat'
    first
    | assumption | apply flushStore_only | apply stopScanner_only | apply closeSender_only
    | apply closeAttempt_only | apply endAttemptUse_only | apply rewindHead_only
    | apply moveRecord_only | apply portPart_mem | split

theorem raiseHeadFault_only {ps : List Part} {s t : State} (h1 : Part.scan ∈ ps) (h2 : Part.conv ∈ ps) (h3 :
    Part.head ∈ ps) (h4 : Part.store ∈ ps) (h5 : Part.portA ∈ ps) (h6 : Part.portB ∈ ps) (h7 : Part.sender ∈ ps) (h8
    : Part.tables ∈ ps) (h9 : Part.pics ∈ ps) (h10 : Part.slips ∈ ps) (h : Only ps s t) : Only ps s (raiseHeadFault
    t) := by
  unfold raiseHeadFault
  try dsimp only
  with_reducible repeat'
    first
    | assumption | apply attemptEnd_only | apply stopHead_only

theorem rewindInAttempt_only {ps : List Part} {s t : State} (h1 : Part.scan ∈ ps) (h2 : Part.conv ∈ ps) (h3 :
    Part.head ∈ ps) (h4 : Part.store ∈ ps) (h5 : Part.portA ∈ ps) (h6 : Part.portB ∈ ps) (h7 : Part.sender ∈ ps) (h8
    : Part.tables ∈ ps) (h9 : Part.pics ∈ ps) (h10 : Part.slips ∈ ps) (h : Only ps s t) : Only ps s (rewindInAttempt
    t) := by
  unfold rewindInAttempt
  try dsimp only
  with_reducible repeat'
    first
    | assumption | apply rewindHead_only | apply attemptEnd_only | apply portPart_mem | split

theorem stepOut_only {ps : List Part} {s t : State} (h1 : Part.scan ∈ ps) (h2 : Part.conv ∈ ps) (h3 : Part.head ∈
    ps) (h4 : Part.store ∈ ps) (h5 : Part.portA ∈ ps) (h6 : Part.portB ∈ ps) (h7 : Part.sender ∈ ps) (h8 :
    Part.tables ∈ ps) (h9 : Part.pics ∈ ps) (h10 : Part.slips ∈ ps) (h : Only ps s t) : Only ps s (stepOut t) := by
  unfold stepOut
  try dsimp only
  with_reducible repeat'
    first
    | assumption | apply setHead_only | apply raiseHeadFault_only | apply portPart_mem | split

theorem positionStep_only {ps : List Part} {s t : State} (h1 : Part.scan ∈ ps) (h2 : Part.conv ∈ ps) (h3 : Part.head
    ∈ ps) (h4 : Part.store ∈ ps) (h5 : Part.portA ∈ ps) (h6 : Part.portB ∈ ps) (h7 : Part.sender ∈ ps) (h8 :
    Part.tables ∈ ps) (h9 : Part.pics ∈ ps) (h10 : Part.slips ∈ ps) (h : Only ps s t) : Only ps s (positionStep t)
    := by
  unfold positionStep
  try dsimp only
  with_reducible repeat'
    first
    | assumption | apply setHead_only | apply stepOut_only | apply portPart_mem | split

theorem enterPositioning_only {ps : List Part} {s t : State} (h1 : Part.scan ∈ ps) (h2 : Part.conv ∈ ps) (h3 :
    Part.head ∈ ps) (h4 : Part.store ∈ ps) (h5 : Part.portA ∈ ps) (h6 : Part.portB ∈ ps) (h7 : Part.sender ∈ ps) (h8
    : Part.tables ∈ ps) (h9 : Part.pics ∈ ps) (h10 : Part.slips ∈ ps) (h : Only ps s t) : Only ps s
    (enterPositioning t) := by
  unfold enterPositioning
  try dsimp only
  with_reducible repeat'
    first
    | assumption | apply setHead_only | apply positionStep_only | apply portPart_mem | split

theorem headEval_only {ps : List Part} {s t : State} (s0 : State) (h1 : Part.scan ∈ ps) (h2 : Part.conv ∈ ps) (h3 :
    Part.head ∈ ps) (h4 : Part.store ∈ ps) (h5 : Part.portA ∈ ps) (h6 : Part.portB ∈ ps) (h7 : Part.sender ∈ ps) (h8
    : Part.tables ∈ ps) (h9 : Part.pics ∈ ps) (h10 : Part.slips ∈ ps) (h : Only ps s t) : Only ps s (headEval s0 t)
    := by
  unfold headEval
  try dsimp only
  with_reducible repeat' (first | assumption | apply enterPositioning_only | apply portPart_mem | split)

theorem lineBurst_only {ps : List Part} {s t : State} (h1 : Part.scan ∈ ps) (h2 : Part.conv ∈ ps) (h3 : Part.head ∈
    ps) (h4 : Part.store ∈ ps) (h5 : Part.portA ∈ ps) (h6 : Part.portB ∈ ps) (h7 : Part.sender ∈ ps) (h8 :
    Part.tables ∈ ps) (h9 : Part.pics ∈ ps) (h10 : Part.slips ∈ ps) (h : Only ps s t) : Only ps s (lineBurst t) :=
    by
  unfold lineBurst
  try dsimp only
  with_reducible repeat'
    first
    | assumption | apply setHead_only | apply raiseHeadFault_only | apply stepOut_only
    | apply portPart_mem | split

theorem checkHeadLate_only {ps : List Part} {s t : State} (h1 : Part.pics ∈ ps) (h : Only ps s t) : Only ps s
    (checkHeadLate t) := by
  unfold checkHeadLate
  try dsimp only
  with_reducible repeat' (first | assumption | apply countHeadLate_only | split)

theorem headAtCount_only {ps : List Part} {s t : State} (rev pos : Nat) (h1 : Part.scan ∈ ps) (h2 : Part.conv ∈ ps) (h3
    : Part.head ∈ ps) (h4 : Part.store ∈ ps) (h5 : Part.portA ∈ ps) (h6 : Part.portB ∈ ps) (h7 : Part.sender ∈ ps)
    (h8 : Part.tables ∈ ps) (h9 : Part.pics ∈ ps) (h10 : Part.slips ∈ ps) (h : Only ps s t) : Only ps s (headAtCount
    rev pos t) := by
  unfold headAtCount
  try dsimp only
  with_reducible repeat'
    first
    | assumption | apply lineBurst_only | apply checkHeadLate_only | apply portPart_mem | split

theorem headAtIndex_only {ps : List Part} {s t : State} (closing : Nat) (h1 : Part.scan ∈ ps) (h2 : Part.conv ∈ ps)
    (h3 : Part.head ∈ ps) (h4 : Part.store ∈ ps) (h5 : Part.portA ∈ ps) (h6 : Part.portB ∈ ps) (h7 : Part.sender ∈
    ps) (h8 : Part.tables ∈ ps) (h9 : Part.pics ∈ ps) (h10 : Part.slips ∈ ps) (h : Only ps s t) : Only ps s
    (headAtIndex closing t) := by
  unfold headAtIndex
  try dsimp only
  with_reducible repeat'
    first
    | assumption | apply lineBurst_only | apply checkHeadLate_only | apply portPart_mem | split

theorem stepTimerExpiry_only {ps : List Part} {s t : State} (h1 : Part.scan ∈ ps) (h2 : Part.conv ∈ ps) (h3 :
    Part.head ∈ ps) (h4 : Part.store ∈ ps) (h5 : Part.portA ∈ ps) (h6 : Part.portB ∈ ps) (h7 : Part.sender ∈ ps) (h8
    : Part.tables ∈ ps) (h9 : Part.pics ∈ ps) (h10 : Part.slips ∈ ps) (h : Only ps s t) : Only ps s (stepTimerExpiry
    t) := by
  unfold stepTimerExpiry
  try dsimp only
  with_reducible repeat'
    first
    | assumption | apply setHead_only | apply positionStep_only | apply stepOut_only
    | apply rewindStep_only | apply raiseHeadFault_only | apply portPart_mem | split

theorem homeSensor_only {ps : List Part} {s t : State} (level : Bool) (h1 : Part.head ∈ ps) (h2 : Part.tables ∈ ps)
    (h3 : Part.pins ∈ ps) (h : Only ps s t) : Only ps s (homeSensor level t) := by
  unfold homeSensor
  try dsimp only
  with_reducible repeat' (first | assumption | apply setPins_only | apply parkHead_only | split)

theorem lampEval_only {ps : List Part} {s t : State} (s0 : State) (h1 : Part.lamp ∈ ps) (h : Only ps s t) : Only ps
    s (lampEval s0 t) := by
  unfold lampEval
  try dsimp only
  with_reducible repeat' (first | assumption | apply setLamp_only | split)

theorem lampWarm_only {ps : List Part} {s t : State} (h1 : Part.lamp ∈ ps) (h : Only ps s t) : Only ps s (lampWarm
    t) := by
  unfold lampWarm
  try dsimp only
  with_reducible repeat' (first | assumption | apply setLamp_only | split)

theorem regulate_only {ps : List Part} {s t : State} (period : Nat) (h1 : Part.drum ∈ ps) (h2 : Part.reg ∈ ps) (h :
    Only ps s t) : Only ps s (regulate period t) := by
  unfold regulate
  try dsimp only
  with_reducible repeat' (first | assumption | apply setReg_only | apply setDrum_only)

theorem enterSpinup_only {ps : List Part} {s t : State} (h1 : Part.enc ∈ ps) (h2 : Part.drum ∈ ps) (h : Only ps s t)
    : Only ps s (enterSpinup t) := by
  unfold enterSpinup
  try dsimp only
  with_reducible repeat' (first | assumption | apply setEnc_only | apply setDrum_only)

theorem enterBraking_only {ps : List Part} {s t : State} (h1 : Part.drum ∈ ps) (h : Only ps s t) : Only ps s
    (enterBraking t) := by
  unfold enterBraking
  try dsimp only
  with_reducible repeat' (first | assumption | apply setDrum_only)

theorem enterStopped_only {ps : List Part} {s t : State} (h1 : Part.drum ∈ ps) (h2 : Part.tables ∈ ps) (h : Only ps
    s t) : Only ps s (enterStopped t) := by
  unfold enterStopped
  try dsimp only
  with_reducible repeat' (first | assumption | apply setDrum_only | apply applyDrum_only)

theorem enterCutoff_only {ps : List Part} {s t : State} (f : DrumFault) (h1 : Part.drum ∈ ps) (h2 : Part.scan ∈ ps)
    (h3 : Part.conv ∈ ps) (h4 : Part.head ∈ ps) (h5 : Part.store ∈ ps) (h6 : Part.portA ∈ ps) (h7 : Part.portB ∈ ps)
    (h8 : Part.sender ∈ ps) (h9 : Part.tables ∈ ps) (h10 : Part.pics ∈ ps) (h11 : Part.slips ∈ ps) (h : Only ps s t)
    : Only ps s (enterCutoff f t) := by
  unfold enterCutoff
  try dsimp only
  with_reducible repeat'
    first
    | assumption | apply setDrum_only | apply attemptEnd_only | apply stopHead_only
   

theorem drumFault_only {ps : List Part} {s t : State} (f : DrumFault) (h1 : Part.drum ∈ ps) (h2 : Part.scan ∈ ps)
    (h3 : Part.conv ∈ ps) (h4 : Part.head ∈ ps) (h5 : Part.store ∈ ps) (h6 : Part.portA ∈ ps) (h7 : Part.portB ∈ ps)
    (h8 : Part.sender ∈ ps) (h9 : Part.tables ∈ ps) (h10 : Part.pics ∈ ps) (h11 : Part.slips ∈ ps) (h : Only ps s t)
    : Only ps s (drumFault f t) := by
  unfold drumFault
  try dsimp only
  with_reducible repeat' (first | assumption | apply enterCutoff_only | apply portPart_mem | split)

theorem setStallDeadline_only {ps : List Part} {s t : State} (h1 : Part.drum ∈ ps) (h : Only ps s t) : Only ps s
    (setStallDeadline t) := by
  unfold setStallDeadline
  try dsimp only
  with_reducible repeat' (first | assumption | apply setDrum_only)

theorem enterTracking_only {ps : List Part} {s t : State} (h1 : Part.drum ∈ ps) (h2 : Part.reg ∈ ps) (h : Only ps s
    t) : Only ps s (enterTracking t) := by
  unfold enterTracking
  try dsimp only
  with_reducible repeat'
    first
    | assumption | apply setReg_only | apply setDrum_only | apply setStallDeadline_only

theorem decideLock_only {ps : List Part} {s t : State} (eRaw : Int) (h1 : Part.drum ∈ ps) (h2 : Part.reg ∈ ps) (h :
    Only ps s t) : Only ps s (decideLock eRaw t) := by
  unfold decideLock
  try dsimp only
  with_reducible repeat' (first | assumption | apply setReg_only | apply setDrum_only | split)

theorem countUnlocked_only {ps : List Part} {s t : State} (h1 : Part.drum ∈ ps) (h2 : Part.scan ∈ ps) (h3 :
    Part.conv ∈ ps) (h4 : Part.head ∈ ps) (h5 : Part.store ∈ ps) (h6 : Part.portA ∈ ps) (h7 : Part.portB ∈ ps) (h8 :
    Part.sender ∈ ps) (h9 : Part.tables ∈ ps) (h10 : Part.pics ∈ ps) (h11 : Part.slips ∈ ps) (h : Only ps s t) :
    Only ps s (countUnlocked t) := by
  unfold countUnlocked
  try dsimp only
  with_reducible repeat'
    first
    | assumption | apply setDrum_only | apply countLockLost_only | apply attemptEnd_only
    | apply portPart_mem | split

theorem regulatedWindow_only {ps : List Part} {s t : State} (period : Nat) (h1 : Part.drum ∈ ps) (h2 : Part.reg ∈
    ps) (h3 : Part.scan ∈ ps) (h4 : Part.conv ∈ ps) (h5 : Part.head ∈ ps) (h6 : Part.store ∈ ps) (h7 : Part.portA ∈
    ps) (h8 : Part.portB ∈ ps) (h9 : Part.sender ∈ ps) (h10 : Part.tables ∈ ps) (h11 : Part.pics ∈ ps) (h12 :
    Part.slips ∈ ps) (h : Only ps s t) : Only ps s (regulatedWindow period t) := by
  unfold regulatedWindow
  try dsimp only
  with_reducible repeat'
    first
    | assumption | apply drumFault_only | apply countUnlocked_only | apply decideLock_only
    | apply regulate_only | apply setStallDeadline_only | apply portPart_mem | split

theorem windowEvent_only {ps : List Part} {s t : State} (period : Nat) (h1 : Part.drum ∈ ps) (h2 : Part.reg ∈ ps)
    (h3 : Part.scan ∈ ps) (h4 : Part.conv ∈ ps) (h5 : Part.head ∈ ps) (h6 : Part.store ∈ ps) (h7 : Part.portA ∈ ps)
    (h8 : Part.portB ∈ ps) (h9 : Part.sender ∈ ps) (h10 : Part.tables ∈ ps) (h11 : Part.pics ∈ ps) (h12 : Part.slips
    ∈ ps) (h : Only ps s t) : Only ps s (windowEvent period t) := by
  unfold windowEvent
  try dsimp only
  with_reducible repeat'
    first
    | assumption | apply setDrum_only | apply enterTracking_only | apply regulatedWindow_only
    | apply enterStopped_only | apply portPart_mem | split

theorem takeBoundary_only {ps : List Part} {s t : State} (b : Nat) (h1 : Part.enc ∈ ps) (h2 : Part.drum ∈ ps) (h3 :
    Part.reg ∈ ps) (h4 : Part.scan ∈ ps) (h5 : Part.conv ∈ ps) (h6 : Part.head ∈ ps) (h7 : Part.store ∈ ps) (h8 :
    Part.portA ∈ ps) (h9 : Part.portB ∈ ps) (h10 : Part.sender ∈ ps) (h11 : Part.tables ∈ ps) (h12 : Part.pics ∈ ps)
    (h13 : Part.slips ∈ ps) (h : Only ps s t) : Only ps s (takeBoundary b t) := by
  unfold takeBoundary
  try dsimp only
  with_reducible repeat'
    first
    | assumption | apply setEnc_only | apply windowEvent_only | apply portPart_mem | split

theorem boundaryAt_only {ps : List Part} {s t : State} (b : Nat) (h1 : Part.enc ∈ ps) (h2 : Part.drum ∈ ps) (h3 :
    Part.reg ∈ ps) (h4 : Part.scan ∈ ps) (h5 : Part.conv ∈ ps) (h6 : Part.head ∈ ps) (h7 : Part.store ∈ ps) (h8 :
    Part.portA ∈ ps) (h9 : Part.portB ∈ ps) (h10 : Part.sender ∈ ps) (h11 : Part.tables ∈ ps) (h12 : Part.pics ∈ ps)
    (h13 : Part.slips ∈ ps) (h : Only ps s t) : Only ps s (boundaryAt b t) := by
  unfold boundaryAt
  try dsimp only
  with_reducible repeat' (first | assumption | apply takeBoundary_only | apply portPart_mem | split)

theorem countForward_only {ps : List Part} {s t : State} (h1 : Part.enc ∈ ps) (h2 : Part.drum ∈ ps) (h3 : Part.reg ∈
    ps) (h4 : Part.scan ∈ ps) (h5 : Part.conv ∈ ps) (h6 : Part.head ∈ ps) (h7 : Part.store ∈ ps) (h8 : Part.portA ∈
    ps) (h9 : Part.portB ∈ ps) (h10 : Part.sender ∈ ps) (h11 : Part.tables ∈ ps) (h12 : Part.pics ∈ ps) (h13 :
    Part.slips ∈ ps) (h : Only ps s t) : Only ps s (countForward t) := by
  unfold countForward
  try dsimp only
  with_reducible repeat'
    first
    | assumption | apply setEnc_only | apply boundaryAt_only | apply portPart_mem | split

theorem countReverse_only {ps : List Part} {s t : State} (h1 : Part.enc ∈ ps) (h2 : Part.drum ∈ ps) (h3 : Part.scan
    ∈ ps) (h4 : Part.conv ∈ ps) (h5 : Part.head ∈ ps) (h6 : Part.store ∈ ps) (h7 : Part.portA ∈ ps) (h8 : Part.portB
    ∈ ps) (h9 : Part.sender ∈ ps) (h10 : Part.tables ∈ ps) (h11 : Part.pics ∈ ps) (h12 : Part.slips ∈ ps) (h : Only
    ps s t) : Only ps s (countReverse t) := by
  unfold countReverse
  try dsimp only
  with_reducible repeat'
    first
    | assumption | apply setEnc_only | apply drumFault_only | apply portPart_mem | split

theorem loseIndex_only {ps : List Part} {s t : State} (h1 : Part.enc ∈ ps) (h2 : Part.drum ∈ ps) (h3 : Part.scan ∈
    ps) (h4 : Part.conv ∈ ps) (h5 : Part.head ∈ ps) (h6 : Part.store ∈ ps) (h7 : Part.portA ∈ ps) (h8 : Part.portB ∈
    ps) (h9 : Part.sender ∈ ps) (h10 : Part.tables ∈ ps) (h11 : Part.pics ∈ ps) (h12 : Part.slips ∈ ps) (h : Only ps
    s t) : Only ps s (loseIndex t) := by
  unfold loseIndex
  try dsimp only
  with_reducible repeat'
    first
    | assumption | apply setEnc_only | apply drumFault_only

theorem checkIndex_only {ps : List Part} {s t : State} (h1 : Part.enc ∈ ps) (h2 : Part.drum ∈ ps) (h3 : Part.scan ∈
    ps) (h4 : Part.conv ∈ ps) (h5 : Part.head ∈ ps) (h6 : Part.store ∈ ps) (h7 : Part.portA ∈ ps) (h8 : Part.portB ∈
    ps) (h9 : Part.sender ∈ ps) (h10 : Part.tables ∈ ps) (h11 : Part.pics ∈ ps) (h12 : Part.slips ∈ ps) (h : Only ps
    s t) : Only ps s (checkIndex t) := by
  unfold checkIndex
  try dsimp only
  with_reducible repeat'
    first
    | assumption | apply setEnc_only | apply countIndexSlip_only | apply loseIndex_only
    | apply portPart_mem | split

theorem evaluateDemand_only {ps : List Part} {s t : State} (h1 : Part.enc ∈ ps) (h2 : Part.drum ∈ ps) (h : Only ps s
    t) : Only ps s (evaluateDemand t) := by
  unfold evaluateDemand
  try dsimp only
  with_reducible repeat' (first | assumption | apply enterSpinup_only | apply enterBraking_only | split)

theorem drumEval_only {ps : List Part} {s t : State} (s0 : State) (h1 : Part.enc ∈ ps) (h2 : Part.drum ∈ ps) (h :
    Only ps s t) : Only ps s (drumEval s0 t) := by
  unfold drumEval
  try dsimp only
  with_reducible repeat' (first | assumption | apply evaluateDemand_only | split)

theorem standardEval_only {ps : List Part} {s t : State} (s0 : State) (h1 : Part.drum ∈ ps) (h2 : Part.reg ∈ ps) (h
    : Only ps s t) : Only ps s (standardEval s0 t) := by
  unfold standardEval
  try dsimp only
  with_reducible repeat' (first | assumption | apply setReg_only | apply setDrum_only | split)

theorem rampTick_only {ps : List Part} {s t : State} (h1 : Part.drum ∈ ps) (h : Only ps s t) : Only ps s (rampTick
    t) := by
  unfold rampTick
  try dsimp only
  with_reducible repeat' (first | assumption | apply setDrum_only | split)

theorem spinupTimerExpiry_only {ps : List Part} {s t : State} (h1 : Part.drum ∈ ps) (h2 : Part.scan ∈ ps) (h3 :
    Part.conv ∈ ps) (h4 : Part.head ∈ ps) (h5 : Part.store ∈ ps) (h6 : Part.portA ∈ ps) (h7 : Part.portB ∈ ps) (h8 :
    Part.sender ∈ ps) (h9 : Part.tables ∈ ps) (h10 : Part.pics ∈ ps) (h11 : Part.slips ∈ ps) (h : Only ps s t) :
    Only ps s (spinupTimerExpiry t) := by
  unfold spinupTimerExpiry
  try dsimp only
  with_reducible repeat' (first | assumption | apply drumFault_only | apply portPart_mem | split)

theorem stallDeadline_only {ps : List Part} {s t : State} (h1 : Part.drum ∈ ps) (h2 : Part.scan ∈ ps) (h3 :
    Part.conv ∈ ps) (h4 : Part.head ∈ ps) (h5 : Part.store ∈ ps) (h6 : Part.portA ∈ ps) (h7 : Part.portB ∈ ps) (h8 :
    Part.sender ∈ ps) (h9 : Part.tables ∈ ps) (h10 : Part.pics ∈ ps) (h11 : Part.slips ∈ ps) (h : Only ps s t) :
    Only ps s (stallDeadline t) := by
  unfold stallDeadline
  try dsimp only
  with_reducible repeat' (first | assumption | apply drumFault_only | apply portPart_mem | split)

theorem brakingTimerExpiry_only {ps : List Part} {s t : State} (h1 : Part.drum ∈ ps) (h2 : Part.tables ∈ ps) (h :
    Only ps s t) : Only ps s (brakingTimerExpiry t) := by
  unfold brakingTimerExpiry
  try dsimp only
  with_reducible repeat' (first | assumption | apply enterStopped_only | split)

theorem silenceTimerExpiry_only {ps : List Part} {s t : State} (h1 : Part.drum ∈ ps) (h2 : Part.tables ∈ ps) (h :
    Only ps s t) : Only ps s (silenceTimerExpiry t) := by
  unfold silenceTimerExpiry
  try dsimp only
  with_reducible repeat' (first | assumption | apply enterStopped_only | split)

theorem cycleEnd_only {ps : List Part} {s t : State} (h1 : Part.drum ∈ ps) (h : Only ps s t) : Only ps s (cycleEnd
    t) := by
  unfold cycleEnd
  try dsimp only
  with_reducible repeat' (first | assumption | apply setDrum_only)

theorem coverChange_only {ps : List Part} {s t : State} (closed : Bool) (h1 : Part.drum ∈ ps) (h2 : Part.scan ∈ ps)
    (h3 : Part.conv ∈ ps) (h4 : Part.head ∈ ps) (h5 : Part.store ∈ ps) (h6 : Part.portA ∈ ps) (h7 : Part.portB ∈ ps)
    (h8 : Part.sender ∈ ps) (h9 : Part.tables ∈ ps) (h10 : Part.pics ∈ ps) (h11 : Part.slips ∈ ps) (h12 : Part.pins
    ∈ ps) (h : Only ps s t) : Only ps s (coverChange closed t) := by
  unfold coverChange
  try dsimp only
  with_reducible repeat'
    first
    | assumption | apply setPins_only | apply drumFault_only | apply portPart_mem | split

theorem rewindFromFault_only {ps : List Part} {s t : State} (h1 : Part.head ∈ ps) (h2 : Part.tables ∈ ps) (h : Only
    ps s t) : Only ps s (rewindFromFault t) := by
  unfold rewindFromFault
  try dsimp only
  with_reducible repeat' (first | assumption | apply enterRewind_only | split)

theorem mechClear_only {ps : List Part} {s t u : State} (h1 : Part.drum ∈ ps) (h2 : Part.head ∈ ps)
    (h3 : Part.tables ∈ ps) (hu : mechClear t = some u) (h : Only ps s t) : Only ps s u := by
  unfold mechClear at hu
  split at hu
  · cases hu
  · cases hu
    with_reducible repeat' (first | assumption | apply rewindFromFault_only | apply enterStopped_only | split)

theorem cadenceStart_only {ps : List Part} {s t : State} (h1 : Part.sender ∈ ps) (h : Only ps s t) : Only ps s
    (cadenceStart t) := by
  unfold cadenceStart
  try dsimp only
  with_reducible repeat' (first | assumption | apply setSender_only | split)

theorem storeOffer_only {ps : List Part} {s t : State} (e : Entry) (h1 : Part.store ∈ ps) (h2 : Part.sender ∈ ps) (h
    : Only ps s t) : Only ps s (storeOffer e t) := by
  unfold storeOffer
  try dsimp only
  with_reducible repeat' (first | assumption | apply setStore_only | apply cadenceStart_only)

theorem lastEntryWritten_only {ps : List Part} {s t : State} (h1 : Part.store ∈ ps) (h2 : Part.sender ∈ ps) (h :
    Only ps s t) : Only ps s (lastEntryWritten t) := by
  unfold lastEntryWritten
  try dsimp only
  with_reducible repeat' (first | assumption | apply setStore_only | apply setSender_only | split)

theorem offerList_only {ps : List Part} {s t : State} (l : List WaitEntry) (h1 : Part.scan ∈ ps) (h2 : Part.sender ∈ ps)
    (h3 : Part.store ∈ ps) (h : Only ps s t) : Only ps s (offerList l t) := by
  induction l generalizing t with
  | nil => exact setScan_only _ h1 h
  | cons e rest ih =>
    unfold offerList
    split
    · exact ih (storeOffer_only _ h3 h2 h)
    · exact setScan_only _ h1 h

theorem offerReady_only {ps : List Part} {s t : State} (h1 : Part.scan ∈ ps) (h2 : Part.store ∈ ps) (h3 :
    Part.sender ∈ ps) (h : Only ps s t) : Only ps s (offerReady t) := offerList_only _ h1 h3 h2 h

theorem signalIfDue_only {ps : List Part} {s t : State} (h1 : Part.scan ∈ ps) (h2 : Part.conv ∈ ps) (h3 : Part.head ∈
    ps) (h4 : Part.store ∈ ps) (h5 : Part.portA ∈ ps) (h6 : Part.portB ∈ ps) (h7 : Part.sender ∈ ps) (h8 :
    Part.tables ∈ ps) (h9 : Part.pics ∈ ps) (h10 : Part.slips ∈ ps) (h : Only ps s t) : Only ps s (signalIfDue t) :=
    by
  unfold signalIfDue
  try dsimp only
  with_reducible repeat'
    first
    | assumption | apply setScan_only | apply lastEntryWritten_only | apply rewindInAttempt_only | split

theorem takeSample_only {ps : List Part} {s t : State} (k : Nat) (h1 : Part.scan ∈ ps) (h2 : Part.conv ∈ ps) (h3 :
    Part.store ∈ ps) (h4 : Part.sender ∈ ps) (h : Only ps s t) : Only ps s (takeSample k t) := by
  unfold takeSample
  try dsimp only
  with_reducible repeat'
    first
    | assumption | apply setScan_only | apply requestPhoto_only | apply offerReady_only | split

theorem updateWhite_only {ps : List Part} {s t : State} (h1 : Part.scan ∈ ps) (h : Only ps s t) : Only ps s
    (updateWhite t) := by
  unfold updateWhite
  try dsimp only
  with_reducible repeat' (first | assumption | apply setScan_only | split)

theorem lampFault_only {ps : List Part} {s t : State} (h1 : Part.scan ∈ ps) (h2 : Part.lamp ∈ ps) (h3 : Part.conv ∈
    ps) (h4 : Part.head ∈ ps) (h5 : Part.store ∈ ps) (h6 : Part.portA ∈ ps) (h7 : Part.portB ∈ ps) (h8 : Part.sender
    ∈ ps) (h9 : Part.tables ∈ ps) (h10 : Part.pics ∈ ps) (h11 : Part.slips ∈ ps) (h : Only ps s t) : Only ps s
    (lampFault t) := by
  unfold lampFault
  try dsimp only
  with_reducible repeat'
    first
    | assumption | apply setLamp_only | apply attemptEnd_only | apply stopScanner_only
   

theorem finishRun_only {ps : List Part} {s t : State} (h1 : Part.scan ∈ ps) (h2 : Part.conv ∈ ps) (h3 : Part.head ∈
    ps) (h4 : Part.store ∈ ps) (h5 : Part.portA ∈ ps) (h6 : Part.portB ∈ ps) (h7 : Part.sender ∈ ps) (h8 :
    Part.tables ∈ ps) (h9 : Part.pics ∈ ps) (h10 : Part.slips ∈ ps) (h : Only ps s t) : Only ps s (finishRun t) :=
    by
  unfold finishRun
  try dsimp only
  with_reducible repeat'
    first
    | assumption | apply setScan_only | apply signalIfDue_only

theorem finishAtSample_only {ps : List Part} {s t : State} (h1 : Part.scan ∈ ps) (h2 : Part.lamp ∈ ps) (h3 :
    Part.conv ∈ ps) (h4 : Part.head ∈ ps) (h5 : Part.store ∈ ps) (h6 : Part.portA ∈ ps) (h7 : Part.portB ∈ ps) (h8 :
    Part.sender ∈ ps) (h9 : Part.tables ∈ ps) (h10 : Part.pics ∈ ps) (h11 : Part.slips ∈ ps) (h : Only ps s t) :
    Only ps s (finishAtSample t) := by
  unfold finishAtSample
  try dsimp only
  with_reducible repeat'
    first
    | assumption | apply updateWhite_only | apply lampFault_only | apply finishRun_only
    | apply portPart_mem | split

theorem openRevolution_only {ps : List Part} {s t : State} (rev : Nat) (h1 : Part.scan ∈ ps) (h2 : Part.conv ∈ ps)
    (h3 : Part.store ∈ ps) (h4 : Part.sender ∈ ps) (h : Only ps s t) : Only ps s (openRevolution rev t) := by
  unfold openRevolution
  try dsimp only
  with_reducible repeat' (first | assumption | apply setScan_only | apply takeSample_only)

theorem closeRevolution_only {ps : List Part} {s t : State} (h1 : Part.scan ∈ ps) (h2 : Part.lamp ∈ ps) (h3 :
    Part.conv ∈ ps) (h4 : Part.head ∈ ps) (h5 : Part.store ∈ ps) (h6 : Part.portA ∈ ps) (h7 : Part.portB ∈ ps) (h8 :
    Part.sender ∈ ps) (h9 : Part.tables ∈ ps) (h10 : Part.pics ∈ ps) (h11 : Part.slips ∈ ps) (h : Only ps s t) :
    Only ps s (closeRevolution t) := by
  unfold closeRevolution
  try dsimp only
  with_reducible repeat'
    first
    | assumption | apply updateWhite_only | apply lampFault_only | apply finishRun_only
    | apply openRevolution_only | apply portPart_mem | split

theorem scannerAtIndex_only {ps : List Part} {s t : State} (h1 : Part.scan ∈ ps) (h2 : Part.lamp ∈ ps) (h3 :
    Part.conv ∈ ps) (h4 : Part.head ∈ ps) (h5 : Part.store ∈ ps) (h6 : Part.portA ∈ ps) (h7 : Part.portB ∈ ps) (h8 :
    Part.sender ∈ ps) (h9 : Part.tables ∈ ps) (h10 : Part.pics ∈ ps) (h11 : Part.slips ∈ ps) (h : Only ps s t) :
    Only ps s (scannerAtIndex t) := by
  unfold scannerAtIndex
  try dsimp only
  with_reducible repeat'
    first
    | assumption | apply setScan_only | apply openRevolution_only | apply closeRevolution_only
    | apply portPart_mem | split

theorem scannerAtCount_only {ps : List Part} {s t : State} (pos : Nat) (h1 : Part.scan ∈ ps) (h2 : Part.lamp ∈ ps)
    (h3 : Part.conv ∈ ps) (h4 : Part.head ∈ ps) (h5 : Part.store ∈ ps) (h6 : Part.portA ∈ ps) (h7 : Part.portB ∈ ps)
    (h8 : Part.sender ∈ ps) (h9 : Part.tables ∈ ps) (h10 : Part.pics ∈ ps) (h11 : Part.slips ∈ ps) (h : Only ps s t)
    : Only ps s (scannerAtCount pos t) := by
  unfold scannerAtCount
  try dsimp only
  with_reducible repeat'
    first
    | assumption | apply takeSample_only | apply finishAtSample_only | apply portPart_mem | split

theorem takeWhite_only {ps : List Part} {s t : State} (reading : Nat) (h1 : Part.scan ∈ ps) (h2 : Part.lamp ∈ ps)
    (h3 : Part.conv ∈ ps) (h4 : Part.head ∈ ps) (h5 : Part.store ∈ ps) (h6 : Part.portA ∈ ps) (h7 : Part.portB ∈ ps)
    (h8 : Part.sender ∈ ps) (h9 : Part.tables ∈ ps) (h10 : Part.pics ∈ ps) (h11 : Part.slips ∈ ps) (h : Only ps s t)
    : Only ps s (takeWhite reading t) := by
  unfold takeWhite
  try dsimp only
  with_reducible repeat'
    first
    | assumption | apply setScan_only | apply finishAtSample_only | apply offerReady_only | apply signalIfDue_only
    | split

theorem takePicture_only {ps : List Part} {s t : State} (reading : Nat) (h1 : Part.scan ∈ ps) (h2 : Part.conv ∈ ps)
    (h3 : Part.head ∈ ps) (h4 : Part.store ∈ ps) (h5 : Part.portA ∈ ps) (h6 : Part.portB ∈ ps) (h7 : Part.sender ∈
    ps) (h8 : Part.tables ∈ ps) (h9 : Part.pics ∈ ps) (h10 : Part.slips ∈ ps) (h : Only ps s t) : Only ps s
    (takePicture reading t) := by
  unfold takePicture
  try dsimp only
  with_reducible repeat' (first | assumption | apply setScan_only | apply offerReady_only | apply signalIfDue_only)

theorem handResult_only {ps : List Part} {s t : State} (reading : Nat) (h1 : Part.scan ∈ ps) (h2 : Part.lamp ∈ ps)
    (h3 : Part.conv ∈ ps) (h4 : Part.head ∈ ps) (h5 : Part.store ∈ ps) (h6 : Part.portA ∈ ps) (h7 : Part.portB ∈ ps)
    (h8 : Part.sender ∈ ps) (h9 : Part.tables ∈ ps) (h10 : Part.pics ∈ ps) (h11 : Part.slips ∈ ps) (h : Only ps s t)
    : Only ps s (handResult reading t) := by
  unfold handResult
  try dsimp only
  with_reducible repeat'
    first
    | assumption | apply takeTherm_only | apply takeWhite_only | apply takePicture_only
    | apply portPart_mem | split

theorem conversionComplete_only {ps : List Part} {s t : State} (reading : Nat) (h1 : Part.scan ∈ ps) (h2 : Part.lamp
    ∈ ps) (h3 : Part.conv ∈ ps) (h4 : Part.head ∈ ps) (h5 : Part.store ∈ ps) (h6 : Part.portA ∈ ps) (h7 : Part.portB
    ∈ ps) (h8 : Part.sender ∈ ps) (h9 : Part.tables ∈ ps) (h10 : Part.pics ∈ ps) (h11 : Part.slips ∈ ps) (h : Only
    ps s t) : Only ps s (conversionComplete reading t) := by
  unfold conversionComplete
  try dsimp only
  with_reducible repeat'
    first
    | assumption | apply startNextConversion_only | apply handResult_only | apply portPart_mem | split

theorem encoderCount_only {ps : List Part} {s t : State} (dir : Dir) (h1 : Part.enc ∈ ps) (h2 : Part.drum ∈ ps) (h3
    : Part.reg ∈ ps) (h4 : Part.scan ∈ ps) (h5 : Part.lamp ∈ ps) (h6 : Part.conv ∈ ps) (h7 : Part.head ∈ ps) (h8 :
    Part.store ∈ ps) (h9 : Part.portA ∈ ps) (h10 : Part.portB ∈ ps) (h11 : Part.sender ∈ ps) (h12 : Part.tables ∈
    ps) (h13 : Part.pics ∈ ps) (h14 : Part.slips ∈ ps) (h : Only ps s t) : Only ps s (encoderCount dir t) := by
  unfold encoderCount
  try dsimp only
  with_reducible repeat'
    first
    | assumption | apply countForward_only | apply headAtCount_only | apply scannerAtCount_only
    | apply countReverse_only | apply portPart_mem | split

theorem indexPulse_only {ps : List Part} {s t : State} (h1 : Part.enc ∈ ps) (h2 : Part.drum ∈ ps) (h3 : Part.reg ∈
    ps) (h4 : Part.scan ∈ ps) (h5 : Part.lamp ∈ ps) (h6 : Part.conv ∈ ps) (h7 : Part.head ∈ ps) (h8 : Part.store ∈
    ps) (h9 : Part.portA ∈ ps) (h10 : Part.portB ∈ ps) (h11 : Part.sender ∈ ps) (h12 : Part.tables ∈ ps) (h13 :
    Part.pics ∈ ps) (h14 : Part.slips ∈ ps) (h : Only ps s t) : Only ps s (indexPulse t) := by
  unfold indexPulse
  try dsimp only
  with_reducible repeat'
    first
    | assumption | apply boundaryAt_only | apply checkIndex_only | apply headAtIndex_only
    | apply scannerAtIndex_only

theorem startAttempt_only {ps : List Part} {s t : State} (slot : Nat) (p : PortId) (substituted : Bool) (h1 :
    Part.drum ∈ ps) (h2 : Part.head ∈ ps) (h3 : Part.store ∈ ps) (h4 : Part.portA ∈ ps) (h5 : Part.portB ∈ ps) (h6 :
    Part.sender ∈ ps) (h7 : Part.pics ∈ ps) (h : Only ps s t) : Only ps s (startAttempt slot p substituted t) := by
  unfold startAttempt
  try dsimp only
  with_reducible repeat'
    first
    | assumption | apply setPics_only | apply setSender_only | apply setStore_only | apply setDrum_only
    | apply setHead_only | apply modRec_only | apply enterCarrying_only | apply portPart_mem

theorem attemptStart_only {ps : List Part} {s t : State} (h1 : Part.drum ∈ ps) (h2 : Part.head ∈ ps) (h3 :
    Part.store ∈ ps) (h4 : Part.portA ∈ ps) (h5 : Part.portB ∈ ps) (h6 : Part.sender ∈ ps) (h7 : Part.pics ∈ ps) (h
    : Only ps s t) : Only ps s (attemptStart t) := by
  unfold attemptStart
  try dsimp only
  with_reducible repeat' (first | assumption | apply startAttempt_only | apply portPart_mem | split)

theorem startToneExpiry_only {ps : List Part} {s t : State} (h1 : Part.scan ∈ ps) (h2 : Part.sender ∈ ps) (h : Only
    ps s t) : Only ps s (startToneExpiry t) := by
  unfold startToneExpiry
  try dsimp only
  with_reducible repeat' (first | assumption | apply setSender_only | apply setScan_only | split)

theorem underrun_only {ps : List Part} {s t : State} (h1 : Part.store ∈ ps) (h2 : Part.pics ∈ ps) (h : Only ps s t)
    : Only ps s (underrun t) := by
  unfold underrun
  try dsimp only
  with_reducible repeat' (first | assumption | apply setStore_only | apply modOnDrum_only | split)

theorem takeEntry_only {ps : List Part} {s t : State} (h1 : Part.scan ∈ ps) (h2 : Part.conv ∈ ps) (h3 : Part.head ∈
    ps) (h4 : Part.store ∈ ps) (h5 : Part.portA ∈ ps) (h6 : Part.portB ∈ ps) (h7 : Part.sender ∈ ps) (h8 :
    Part.tables ∈ ps) (h9 : Part.pics ∈ ps) (h10 : Part.slips ∈ ps) (h : Only ps s t) : Only ps s (takeEntry t) :=
    by
  unfold takeEntry
  try dsimp only
  with_reducible repeat'
    first
    | assumption | apply setStore_only | apply setSender_only | apply attemptEnd_only
    | apply underrun_only | apply portPart_mem | split

theorem cadenceEvent_only {ps : List Part} {s t : State} (h1 : Part.scan ∈ ps) (h2 : Part.conv ∈ ps) (h3 : Part.head
    ∈ ps) (h4 : Part.store ∈ ps) (h5 : Part.portA ∈ ps) (h6 : Part.portB ∈ ps) (h7 : Part.sender ∈ ps) (h8 :
    Part.tables ∈ ps) (h9 : Part.pics ∈ ps) (h10 : Part.slips ∈ ps) (h : Only ps s t) : Only ps s (cadenceEvent t)
    := by
  unfold cadenceEvent
  try dsimp only
  with_reducible repeat'
    first
    | assumption | apply setSender_only | apply takeEntry_only | apply portPart_mem | split

theorem startReports_only {ps : List Part} {s t : State} (h1 : Part.portA ∈ ps) (h2 : Part.portB ∈ ps) (h : Only ps
    s t) : Only ps s (startReports t) := by
  unfold startReports
  try dsimp only
  with_reducible repeat' (first | assumption | apply reportStart_only | apply portPart_mem | split)

theorem stopToneExpiry_only {ps : List Part} {s t : State} (h1 : Part.portA ∈ ps) (h2 : Part.portB ∈ ps) (h3 :
    Part.sender ∈ ps) (h4 : Part.tables ∈ ps) (h : Only ps s t) : Only ps s (stopToneExpiry t) := by
  unfold stopToneExpiry
  try dsimp only
  with_reducible repeat'
    first
    | assumption | apply startReports_only | apply setSender_only | apply setPort_only | apply leaveCarrying_only
    | apply portPart_mem | split

theorem lineupStart_only {ps : List Part} {s t : State} (h1 : Part.portA ∈ ps) (h2 : Part.portB ∈ ps) (h3 :
    Part.sender ∈ ps) (h : Only ps s t) : Only ps s (lineupStart t) := by
  unfold lineupStart
  try dsimp only
  with_reducible repeat'
    first
    | assumption | apply setSender_only | apply enterCarrying_only | apply portPart_mem | split

theorem lineupWhiteExpiry_only {ps : List Part} {s t : State} (h1 : Part.sender ∈ ps) (h : Only ps s t) : Only ps s
    (lineupWhiteExpiry t) := by
  unfold lineupWhiteExpiry
  try dsimp only
  with_reducible repeat' (first | assumption | apply setSender_only | split)

theorem endLineup_only {ps : List Part} {s t : State} (h1 : Part.portA ∈ ps) (h2 : Part.portB ∈ ps) (h3 :
    Part.sender ∈ ps) (h4 : Part.tables ∈ ps) (h : Only ps s t) : Only ps s (endLineup t) := by
  unfold endLineup
  try dsimp only
  with_reducible repeat'
    first
    | assumption | apply setSender_only | apply leaveCarrying_only | apply portPart_mem | split

theorem lineupBlackExpiry_only {ps : List Part} {s t : State} (h1 : Part.portA ∈ ps) (h2 : Part.portB ∈ ps) (h3 :
    Part.sender ∈ ps) (h4 : Part.tables ∈ ps) (h : Only ps s t) : Only ps s (lineupBlackExpiry t) := by
  unfold lineupBlackExpiry
  try dsimp only
  with_reducible repeat' (first | assumption | apply endLineup_only | apply portPart_mem | split)

theorem loopCurrentLost_only {ps : List Part} {s t : State} (p : PortId) (h1 : portPart p ∈ ps) (h : Only ps s t) :
    Only ps s (loopCurrentLost p t) := by
  unfold loopCurrentLost
  try dsimp only
  with_reducible repeat' (first | assumption | apply setPort_only | split)

theorem loopCurrentReturn_only {ps : List Part} {s t : State} (p : PortId) (h1 : portPart p ∈ ps) (h : Only ps s t)
    : Only ps s (loopCurrentReturn p t) := by
  unfold loopCurrentReturn
  try dsimp only
  with_reducible repeat' (first | assumption | apply setPort_only)

theorem senderLoopFault_only {ps : List Part} {s t : State} (h1 : Part.scan ∈ ps) (h2 : Part.conv ∈ ps) (h3 :
    Part.head ∈ ps) (h4 : Part.store ∈ ps) (h5 : Part.portA ∈ ps) (h6 : Part.portB ∈ ps) (h7 : Part.sender ∈ ps) (h8
    : Part.tables ∈ ps) (h9 : Part.pics ∈ ps) (h10 : Part.slips ∈ ps) (h : Only ps s t) : Only ps s (senderLoopFault
    t) := by
  unfold senderLoopFault
  try dsimp only
  with_reducible repeat'
    first
    | assumption | apply setSender_only | apply attemptEnd_only | apply endLineup_only
    | apply portPart_mem | split

theorem loopLossExpiry_only {ps : List Part} {s t : State} (p : PortId) (h1 : Part.scan ∈ ps) (h2 : Part.conv ∈ ps)
    (h3 : Part.head ∈ ps) (h4 : Part.store ∈ ps) (h5 : Part.portA ∈ ps) (h6 : Part.portB ∈ ps) (h7 : Part.sender ∈
    ps) (h8 : Part.tables ∈ ps) (h9 : Part.pics ∈ ps) (h10 : Part.slips ∈ ps) (h : Only ps s t) : Only ps s
    (loopLossExpiry p t) := by
  unfold loopLossExpiry
  try dsimp only
  with_reducible repeat'
    first
    | assumption | apply setPort_only | apply senderLoopFault_only | apply leaveCarrying_only
    | apply portPart_mem | split

theorem breakTonePresent_only {ps : List Part} {s t : State} (p : PortId) (h1 : portPart p ∈ ps) (h : Only ps s t) :
    Only ps s (breakTonePresent p t) := by
  unfold breakTonePresent
  try dsimp only
  with_reducible repeat' (first | assumption | apply setPort_only | split)

theorem breakToneAbsent_only {ps : List Part} {s t : State} (p : PortId) (h1 : portPart p ∈ ps) (h : Only ps s t) :
    Only ps s (breakToneAbsent p t) := by
  unfold breakToneAbsent
  try dsimp only
  with_reducible repeat' (first | assumption | apply setPort_only)

theorem breakExpiry_only {ps : List Part} {s t : State} (p : PortId) (h1 : Part.scan ∈ ps) (h2 : Part.conv ∈ ps) (h3
    : Part.head ∈ ps) (h4 : Part.store ∈ ps) (h5 : Part.portA ∈ ps) (h6 : Part.portB ∈ ps) (h7 : Part.sender ∈ ps)
    (h8 : Part.tables ∈ ps) (h9 : Part.pics ∈ ps) (h10 : Part.slips ∈ ps) (h : Only ps s t) : Only ps s (breakExpiry
    p t) := by
  unfold breakExpiry
  try dsimp only
  with_reducible repeat'
    first
    | assumption | apply setPort_only | apply attemptEnd_only | apply portPart_mem | split

theorem receptionStart_only {ps : List Part} {s t : State} (p : PortId) (marks : Nat) (h1 : Part.portA ∈ ps) (h2 :
    Part.portB ∈ ps) (h : Only ps s t) : Only ps s (receptionStart p marks t) := by
  unfold receptionStart
  try dsimp only
  with_reducible repeat'
    first
    | assumption | apply setPort_only | apply startReports_only | apply portPart_mem | split

theorem syncFailed_only {ps : List Part} {s t : State} (p : PortId) (h1 : portPart p ∈ ps) (h : Only ps s t) : Only
    ps s (syncFailed p t) := by
  unfold syncFailed
  try dsimp only
  with_reducible repeat' (first | assumption | apply setPort_only | split)

theorem blockError_only {ps : List Part} {s t : State} (p : PortId) (h1 : portPart p ∈ ps) (h : Only ps s t) : Only
    ps s (blockError p t) := by
  unfold blockError
  try dsimp only
  with_reducible repeat' (first | assumption | apply setPort_only | split)

theorem turnaroundExpiry_only {ps : List Part} {s t : State} (p : PortId) (h1 : Part.portA ∈ ps)
    (h2 : Part.portB ∈ ps) (h : Only ps s t) : Only ps s (turnaroundExpiry p t) := by
  unfold turnaroundExpiry
  try dsimp only
  with_reducible repeat' (first | assumption | apply setPort_only | apply startReports_only | apply portPart_mem | split)

theorem endReport_only {ps : List Part} {s t : State} (p : PortId) (good : Bool) (h1 : portPart p ∈ ps) (h2 :
    Part.sender ∈ ps) (h : Only ps s t) : Only ps s (endReport p good t) := by
  unfold endReport
  try dsimp only
  with_reducible repeat' (first | assumption | apply setPort_only | apply setSender_only | split)

theorem echoFailure_only {ps : List Part} {s t : State} (p : PortId) (echoes : List Echo) (h1 : portPart p ∈ ps) (h2 :
    Part.sender ∈ ps) (h : Only ps s t) : Only ps s (echoFailure p echoes t) := by
  unfold echoFailure
  with_reducible repeat' (first | assumption | apply endReport_only | split)

theorem reportEnd_only {ps : List Part} {s t : State} (p : PortId) (echoes : List Echo) (h1 : portPart p ∈ ps) (h2 :
    Part.sender ∈ ps) (h : Only ps s t) : Only ps s (reportEnd p echoes t) := endReport_only p _ h1 h2 h

theorem lapseEval_only {ps : List Part} {s t : State} (s0 : State) (h1 : Part.sender ∈ ps) (h : Only ps s t) : Only
    ps s (lapseEval s0 t) := by
  unfold lapseEval
  try dsimp only
  with_reducible repeat' (first | assumption | apply setSender_only | split)

theorem portFailEval_only {ps : List Part} {s t : State} (s0 : State) (h1 : Part.conv ∈ ps) (h2 : Part.head ∈ ps)
    (h3 : Part.tables ∈ ps) (h4 : Part.pics ∈ ps) (h5 : Part.slips ∈ ps) (h : Only ps s t) : Only ps s (portFailEval
    s0 t) := by
  unfold portFailEval
  try dsimp only
  with_reducible repeat' (first | assumption | apply finishRecord_only | split)

theorem attemptEval_only {ps : List Part} {s t : State} (s0 : State) (h1 : Part.drum ∈ ps) (h2 : Part.head ∈ ps) (h3 :
    Part.store ∈ ps) (h4 : Part.portA ∈ ps) (h5 : Part.portB ∈ ps) (h6 : Part.sender ∈ ps) (h7 : Part.pics ∈ ps) (h
    : Only ps s t) : Only ps s (attemptEval s0 t) := by
  unfold attemptEval
  with_reducible repeat' (first | assumption | apply attemptStart_only | split)

theorem lineupEval_only {ps : List Part} {s t : State} (s0 : State) (h1 : Part.portA ∈ ps) (h2 : Part.portB ∈ ps) (h3 :
    Part.sender ∈ ps) (h : Only ps s t) : Only ps s (lineupEval s0 t) := by
  unfold lineupEval
  with_reducible repeat' (first | assumption | apply lineupStart_only | split)

theorem settle_only {ps : List Part} {s t : State} (s0 : State) (h1 : Part.enc ∈ ps) (h2 : Part.drum ∈ ps) (h3 :
    Part.reg ∈ ps) (h4 : Part.scan ∈ ps) (h5 : Part.lamp ∈ ps) (h6 : Part.conv ∈ ps) (h7 : Part.head ∈ ps) (h8 :
    Part.store ∈ ps) (h9 : Part.portA ∈ ps) (h10 : Part.portB ∈ ps) (h11 : Part.sender ∈ ps) (h12 : Part.tables ∈
    ps) (h13 : Part.pics ∈ ps) (h14 : Part.slips ∈ ps) (h : Only ps s t) : Only ps s (settle s0 t) := by
  unfold settle
  try dsimp only
  with_reducible repeat'
    first
    | assumption | apply portFailEval_only | apply lapseEval_only | apply drumEval_only
    | apply standardEval_only | apply lampEval_only | apply headEval_only | apply attemptEval_only
    | apply lineupEval_only

theorem placeLoad_only {ps : List Part} {s t : State} (c : LoadContent) (h1 : Part.drum ∈ ps) (h2 : Part.tables ∈
    ps) (h : Only ps s t) : Only ps s (placeLoad c t) := by
  unfold placeLoad
  try dsimp only
  with_reducible repeat'
    first
    | assumption | apply setTables_only | apply takeDrumProfile_only | apply takeLineProfile_only
    | split

theorem countLoad_only {ps : List Part} {s t : State} (k : TableKind) (h1 : Part.tables ∈ ps) (h : Only ps s t) :
    Only ps s (countLoad k t) := by
  unfold countLoad
  try dsimp only
  with_reducible repeat' (first | assumption | apply setTables_only)

theorem loadTable_only {ps : List Part} {s t : State} (k : TableKind) (i : Nat) (c : List Byte) (h1 : Part.drum ∈
    ps) (h2 : Part.tables ∈ ps) (h : Only ps s t) : Only ps s (loadTable k i c t).1 := by
  unfold loadTable
  try dsimp only
  with_reducible repeat' (first | assumption | apply countLoad_only | apply placeLoad_only | split)

theorem ownPoll_only {ps : List Part} {s t : State} (o : Order) (h : Only ps s t) : Only ps s (ownPoll o t).1 := by
  unfold ownPoll
  try dsimp only
  with_reducible repeat' (first | assumption)

theorem judgeGrant_only {ps : List Part} {s t : State} (slot : Nat) (r : PicRecord) (number : Nat) (g : Grant) (h1 :
    Part.pics ∈ ps) (h : Only ps s t) : Only ps s (judgeGrant slot r number g t).1 := by
  unfold judgeGrant
  try dsimp only
  with_reducible repeat' (first | assumption | apply modRec_only | split)

theorem grantOnDrum_only {ps : List Part} {s t : State} (number : Nat) (g : Grant) (h1 : Part.pics ∈ ps) (h : Only
    ps s t) : Only ps s (grantOnDrum number g t).1 := by
  unfold grantOnDrum
  try dsimp only
  with_reducible repeat' (first | assumption | apply judgeGrant_only | split)

theorem ownGrant_only {ps : List Part} {s t : State} (o : Order) (h1 : Part.pics ∈ ps) (h : Only ps s t) : Only ps s
    (ownGrant o t).1 := by
  unfold ownGrant
  try dsimp only
  with_reducible repeat' (first | assumption | apply grantOnDrum_only | split)

theorem ownCancel_only {ps : List Part} {s t : State} (o : Order) (h1 : Part.scan ∈ ps) (h2 : Part.conv ∈ ps) (h3 :
    Part.head ∈ ps) (h4 : Part.store ∈ ps) (h5 : Part.portA ∈ ps) (h6 : Part.portB ∈ ps) (h7 : Part.sender ∈ ps) (h8
    : Part.tables ∈ ps) (h9 : Part.pics ∈ ps) (h10 : Part.slips ∈ ps) (h : Only ps s t) : Only ps s (ownCancel o
    t).1 := by
  unfold ownCancel
  try dsimp only
  with_reducible repeat'
    first
    | assumption | apply attemptEnd_only | apply finishRecord_only | apply portPart_mem | split

theorem resolve_only {ps : List Part} {s t : State} (slot : Nat) (h1 : Part.conv ∈ ps) (h2 : Part.head ∈ ps) (h3 :
    Part.tables ∈ ps) (h4 : Part.pics ∈ ps) (h5 : Part.slips ∈ ps) (h : Only ps s t) : Only ps s (resolve slot t) :=
    by
  unfold resolve
  try dsimp only
  with_reducible repeat' (first | assumption | apply grantAgain_only | apply finishRecord_only | split)

theorem ownReceipt_only {ps : List Part} {s t : State} (o : Order) (h1 : Part.conv ∈ ps) (h2 : Part.head ∈ ps) (h3 :
    Part.tables ∈ ps) (h4 : Part.pics ∈ ps) (h5 : Part.slips ∈ ps) (h : Only ps s t) : Only ps s (ownReceipt o t).1
    := by
  unfold ownReceipt
  try dsimp only
  with_reducible repeat'
    first
    | assumption | apply modRec_only | apply resolve_only | apply requestSlip_only | split

theorem ownLoad_only {ps : List Part} {s t : State} (o : Order) (h1 : Part.drum ∈ ps) (h2 : Part.tables ∈ ps)
    (h : Only ps s t) : Only ps s (ownLoad o t).1 := by
  unfold ownLoad
  split
  · exact h
  · split
    · rename_i k _ x u clamped he
      have := loadTable_only (s := s) k (byteAt o.payload 1) (o.payload.drop 2) h1 h2 h
      rw [he] at this
      exact this
    · exact h
    · exact h

theorem ownClock_only {ps : List Part} {s t : State} (o : Order) (h1 : Part.clock ∈ ps) (h : Only ps s t) : Only ps
    s (ownClock o t).1 := by
  unfold ownClock
  try dsimp only
  with_reducible repeat' (first | assumption | apply setClock_only | split)

theorem ownLineup_only {ps : List Part} {s t : State} (o : Order) (h1 : Part.sender ∈ ps) (h : Only ps s t) : Only
    ps s (ownLineup o t).1 := by
  unfold ownLineup
  try dsimp only
  with_reducible repeat' (first | assumption | apply setSender_only | split)

theorem clearPort_only {ps : List Part} {s t : State} (named : Bool) (p : PortId) (h1 : portPart p ∈ ps) (h : Only
    ps s t) : Only ps s (clearPort named p t) := by
  unfold clearPort
  try dsimp only
  with_reducible repeat' (first | assumption | apply setPort_only | split)

theorem ownLineClear_only {ps : List Part} {s t : State} (o : Order) (h1 : Part.portA ∈ ps) (h2 : Part.portB ∈ ps)
    (h : Only ps s t) : Only ps s (ownLineClear o t).1 := by
  unfold ownLineClear
  try dsimp only
  with_reducible repeat' (first | assumption | apply clearPort_only | apply portPart_mem | split)

theorem ownMechClear_only {ps : List Part} {s t : State} (o : Order) (h1 : Part.drum ∈ ps) (h2 : Part.head ∈ ps)
    (h3 : Part.tables ∈ ps) (h : Only ps s t) : Only ps s (ownMechClear o t).1 := by
  unfold ownMechClear
  split
  · exact mechClear_only h1 h2 h3 ‹_› h
  · exact h

theorem ownSlip_only {ps : List Part} {s t : State} (o : Order) (h1 : Part.conv ∈ ps) (h2 : Part.pics ∈ ps)
    (h3 : Part.slips ∈ ps) (h : Only ps s t) : Only ps s (ownSlip o t).1 := by
  unfold ownSlip
  split
  · exact h
  · rename_i slot _
    have := requestSlip_only (s := s) slot .reprint h1 h2 h3 h
    split
    · split <;> rename_i he <;> rw [he] at this <;> first | exact h | exact this
    · exact h

theorem restartLineup_only {ps : List Part} {s t : State} (h1 : Part.portA ∈ ps) (h2 : Part.portB ∈ ps) (h3 :
    Part.sender ∈ ps) (h4 : Part.tables ∈ ps) (h : Only ps s t) : Only ps s (restartLineup t) := by
  unfold restartLineup
  try dsimp only
  with_reducible repeat'
    first
    | assumption | apply setSender_only | apply endLineup_only | apply portPart_mem | split

theorem restartAll_only {ps : List Part} {s t : State} (own : Option PortId) (h1 : Part.drum ∈ ps) (h2 : Part.scan ∈
    ps) (h3 : Part.conv ∈ ps) (h4 : Part.head ∈ ps) (h5 : Part.store ∈ ps) (h6 : Part.portA ∈ ps) (h7 : Part.portB ∈
    ps) (h8 : Part.sender ∈ ps) (h9 : Part.orders ∈ ps) (h10 : Part.tables ∈ ps) (h11 : Part.pics ∈ ps) (h12 :
    Part.slips ∈ ps) (h : Only ps s t) : Only ps s (restartAll own t) := by
  unfold restartAll
  try dsimp only
  with_reducible repeat'
    first
    | assumption | apply setOrders_only | apply setPort_only | apply setDrum_only
    | apply restartLineup_only | apply attemptEnd_only | apply portPart_mem

theorem ownRestart_only {ps : List Part} {s t : State} (o : Order) (h1 : Part.drum ∈ ps) (h2 : Part.scan ∈ ps) (h3 :
    Part.conv ∈ ps) (h4 : Part.head ∈ ps) (h5 : Part.store ∈ ps) (h6 : Part.portA ∈ ps) (h7 : Part.portB ∈ ps) (h8 :
    Part.sender ∈ ps) (h9 : Part.orders ∈ ps) (h10 : Part.tables ∈ ps) (h11 : Part.pics ∈ ps) (h12 : Part.slips ∈
    ps) (h : Only ps s t) : Only ps s (ownRestart o t).1 := by
  unfold ownRestart
  try dsimp only
  with_reducible repeat' (first | assumption | apply restartAll_only)

theorem placeAnswer_only {ps : List Part} {s t : State} (o : Order) (r : Report) (h1 : Part.portA ∈ ps) (h2 :
    Part.portB ∈ ps) (h : Only ps s t) : Only ps s (placeAnswer o r t) := by
  unfold placeAnswer
  try dsimp only
  with_reducible repeat' (first | assumption | apply setPort_only | apply portPart_mem | split)

theorem answerAtOnce_only {ps : List Part} {s t : State} (p : PortId) (r : Report) (h1 : portPart p ∈ ps) (h : Only
    ps s t) : Only ps s (answerAtOnce p r t) := by
  unfold answerAtOnce
  try dsimp only
  with_reducible repeat' (first | assumption | apply reportStart_only | apply addItem_only)

theorem joinQueue_only {ps : List Part} {s t : State} (o : Order) (h1 : Part.portA ∈ ps) (h2 : Part.portB ∈ ps) (h3
    : Part.orders ∈ ps) (h : Only ps s t) : Only ps s (joinQueue o t) := by
  unfold joinQueue
  try dsimp only
  with_reducible repeat'
    first
    | assumption | apply setOrders_only | apply addItem_only | apply portPart_mem | split

theorem takeAtFull_only {ps : List Part} {s t : State} (o : Order) (h1 : Part.drum ∈ ps) (h2 : Part.scan ∈ ps) (h3 :
    Part.conv ∈ ps) (h4 : Part.head ∈ ps) (h5 : Part.store ∈ ps) (h6 : Part.portA ∈ ps) (h7 : Part.portB ∈ ps) (h8 :
    Part.sender ∈ ps) (h9 : Part.orders ∈ ps) (h10 : Part.tables ∈ ps) (h11 : Part.pics ∈ ps) (h12 : Part.slips ∈
    ps) (h : Only ps s t) : Only ps s (takeAtFull o t) := by
  unfold takeAtFull
  try dsimp only
  with_reducible repeat'
    first
    | assumption | apply answerAtOnce_only | apply restartAll_only | apply portPart_mem | split

theorem admission_only {ps : List Part} {s t : State} (o : Order) (h1 : Part.drum ∈ ps) (h2 : Part.scan ∈ ps) (h3 :
    Part.conv ∈ ps) (h4 : Part.head ∈ ps) (h5 : Part.store ∈ ps) (h6 : Part.portA ∈ ps) (h7 : Part.portB ∈ ps) (h8 :
    Part.sender ∈ ps) (h9 : Part.orders ∈ ps) (h10 : Part.tables ∈ ps) (h11 : Part.pics ∈ ps) (h12 : Part.slips ∈
    ps) (h : Only ps s t) : Only ps s (admission o t) := by
  unfold admission
  try dsimp only
  with_reducible repeat'
    first
    | assumption | apply joinQueue_only | apply takeAtFull_only | apply portPart_mem | split

theorem takeBroadcast_only {ps : List Part} {s t : State} (p : PortId) (b : Block) (h1 : Part.drum ∈ ps) (h2 :
    Part.scan ∈ ps) (h3 : Part.conv ∈ ps) (h4 : Part.head ∈ ps) (h5 : Part.store ∈ ps) (h6 : Part.portA ∈ ps) (h7 :
    Part.portB ∈ ps) (h8 : Part.sender ∈ ps) (h9 : Part.orders ∈ ps) (h10 : Part.tables ∈ ps) (h11 : Part.pics ∈ ps)
    (h12 : Part.slips ∈ ps) (h : Only ps s t) : Only ps s (takeBroadcast p b t) := by
  unfold takeBroadcast
  try dsimp only
  with_reducible repeat' (first | assumption | apply admission_only | apply portPart_mem | split)

theorem takeAddressed_only {ps : List Part} {s t : State} (p : PortId) (b : Block) (h1 : Part.drum ∈ ps) (h2 :
    Part.scan ∈ ps) (h3 : Part.conv ∈ ps) (h4 : Part.head ∈ ps) (h5 : Part.store ∈ ps) (h6 : Part.portA ∈ ps) (h7 :
    Part.portB ∈ ps) (h8 : Part.sender ∈ ps) (h9 : Part.orders ∈ ps) (h10 : Part.tables ∈ ps) (h11 : Part.pics ∈ ps)
    (h12 : Part.slips ∈ ps) (h : Only ps s t) : Only ps s (takeAddressed p b t) := by
  unfold takeAddressed
  try dsimp only
  with_reducible repeat'
    first
    | assumption | apply answerAtOnce_only | apply admission_only | apply portPart_mem | split

theorem takeGood_only {ps : List Part} {s t : State} (p : PortId) (b : Block) (h1 : Part.drum ∈ ps) (h2 : Part.scan
    ∈ ps) (h3 : Part.conv ∈ ps) (h4 : Part.head ∈ ps) (h5 : Part.store ∈ ps) (h6 : Part.portA ∈ ps) (h7 : Part.portB
    ∈ ps) (h8 : Part.sender ∈ ps) (h9 : Part.orders ∈ ps) (h10 : Part.tables ∈ ps) (h11 : Part.pics ∈ ps) (h12 :
    Part.slips ∈ ps) (h : Only ps s t) : Only ps s (takeGood p b t) := by
  unfold takeGood
  try dsimp only
  with_reducible repeat'
    first
    | assumption | apply takeBroadcast_only | apply takeAddressed_only | apply portPart_mem | split

theorem blockTake_only {ps : List Part} {s t : State} (p : PortId) (bytes : List Byte) (h1 : Part.drum ∈ ps) (h2 :
    Part.scan ∈ ps) (h3 : Part.conv ∈ ps) (h4 : Part.head ∈ ps) (h5 : Part.store ∈ ps) (h6 : Part.portA ∈ ps) (h7 :
    Part.portB ∈ ps) (h8 : Part.sender ∈ ps) (h9 : Part.orders ∈ ps) (h10 : Part.tables ∈ ps) (h11 : Part.pics ∈ ps)
    (h12 : Part.slips ∈ ps) (h : Only ps s t) : Only ps s (blockTake p bytes t) := by
  unfold blockTake
  try dsimp only
  with_reducible repeat'
    first
    | assumption | apply setPort_only | apply takeGood_only | apply portPart_mem | split

theorem panelTransmit_only {ps : List Part} {s t : State} (h1 : Part.panel ∈ ps) (h : Only ps s t) : Only ps s
    (panelTransmit t) := by
  unfold panelTransmit
  try dsimp only
  with_reducible repeat' (first | assumption | apply setPanel_only | split)

theorem markChanged_only {ps : List Part} {s t : State} (old : PanelOut) (h1 : Part.panel ∈ ps) (h : Only ps s t) :
    Only ps s (markChanged old t) := by
  unfold markChanged
  try dsimp only
  with_reducible repeat' (first | assumption | apply setPanel_only | split)

theorem panelRecordSent_only {ps : List Part} {s t : State} (h1 : Part.panel ∈ ps) (h : Only ps s t) : Only ps s
    (panelRecordSent t) := by
  unfold panelRecordSent
  try dsimp only
  with_reducible repeat' (first | assumption | apply setPanel_only | apply panelTransmit_only)

theorem giveNotice_only {ps : List Part} {s t : State} (k : PanelKind) (n : Notice) (h1 : Part.panel ∈ ps) (h : Only
    ps s t) : Only ps s (giveNotice k n t) := by
  unfold giveNotice
  try dsimp only
  with_reducible repeat' (first | assumption | apply setPanel_only)

theorem createRecord_only {ps : List Part} {s t : State} (slot : Nat) (slug : List Byte) (lines : Nat) (h1 :
    Part.pics ∈ ps) (h : Only ps s t) : Only ps s (createRecord slot slug lines t) := by
  unfold createRecord
  try dsimp only
  with_reducible repeat' (first | assumption | apply setPics_only)

theorem editRecord_only {ps : List Part} {s t : State} (slug : List Byte) (lines : Nat) (h1 : Part.pics ∈ ps) (h :
    Only ps s t) : Only ps s (editRecord slug lines t) := by
  unfold editRecord
  try dsimp only
  with_reducible repeat' (first | assumption | apply modOnDrum_only)

theorem loadPhotograph_only {ps : List Part} {s t : State} (lines : Nat) (slug : List Byte) (h1 : Part.pics ∈ ps)
    (h2 : Part.panel ∈ ps) (h : Only ps s t) : Only ps s (loadPhotograph lines slug t) := by
  unfold loadPhotograph
  try dsimp only
  with_reducible repeat'
    first
    | assumption | apply giveNotice_only | apply editRecord_only | apply createRecord_only | split

theorem spinKey_only {ps : List Part} {s t : State} (h1 : Part.drum ∈ ps) (h2 : Part.panel ∈ ps) (h : Only ps s t) :
    Only ps s (spinKey t) := by
  unfold spinKey
  try dsimp only
  with_reducible repeat' (first | assumption | apply setDrum_only | apply giveNotice_only | split)

theorem stopKey_only {ps : List Part} {s t : State} (h1 : Part.drum ∈ ps) (h2 : Part.panel ∈ ps) (h : Only ps s t) :
    Only ps s (stopKey t) := by
  unfold stopKey
  try dsimp only
  with_reducible repeat' (first | assumption | apply setDrum_only | apply giveNotice_only | split)

theorem emptyRecord_only {ps : List Part} {s t : State} (slot : Nat) (h1 : Part.pics ∈ ps) (h : Only ps s t) : Only
    ps s (emptyRecord slot t) := by
  unfold emptyRecord
  try dsimp only
  with_reducible repeat' (first | assumption | apply setPics_only)

theorem abortKey_only {ps : List Part} {s t : State} (h1 : Part.scan ∈ ps) (h2 : Part.conv ∈ ps) (h3 : Part.head ∈
    ps) (h4 : Part.store ∈ ps) (h5 : Part.portA ∈ ps) (h6 : Part.portB ∈ ps) (h7 : Part.sender ∈ ps) (h8 :
    Part.tables ∈ ps) (h9 : Part.pics ∈ ps) (h10 : Part.slips ∈ ps) (h11 : Part.panel ∈ ps) (h : Only ps s t) : Only
    ps s (abortKey t) := by
  unfold abortKey
  try dsimp only
  with_reducible repeat'
    first
    | assumption | apply giveNotice_only | apply emptyRecord_only | apply finishRecord_only
    | apply attemptEnd_only | apply portPart_mem | split

theorem reprintKey_only {ps : List Part} {s t : State} (h1 : Part.conv ∈ ps) (h2 : Part.pics ∈ ps)
    (h3 : Part.slips ∈ ps) (h4 : Part.panel ∈ ps) (h : Only ps s t) : Only ps s (reprintKey t) := by
  unfold reprintKey
  split
  · exact giveNotice_only _ _ h4 h
  · rename_i slot _
    have := requestSlip_only (s := s) slot .reprint h1 h2 h3 h
    split
    · split <;> rename_i he <;> rw [he] at this <;> first | exact giveNotice_only _ _ h4 h | exact this
    · exact giveNotice_only _ _ h4 h

theorem resetMechKey_only {ps : List Part} {s t : State} (h1 : Part.drum ∈ ps) (h2 : Part.head ∈ ps)
    (h3 : Part.tables ∈ ps) (h4 : Part.panel ∈ ps) (h : Only ps s t) : Only ps s (resetMechKey t) := by
  unfold resetMechKey
  split
  · exact mechClear_only h1 h2 h3 ‹_› h
  · exact giveNotice_only _ _ h4 h

theorem panelHunting_only {ps : List Part} {s t : State} (h1 : Part.panel ∈ ps) (h : Only ps s t) : Only ps s
    (panelHunting t) := by
  unfold panelHunting
  try dsimp only
  with_reducible repeat' (first | assumption | apply setPanel_only)

theorem panelOwner_only {ps : List Part} {s t : State} (k : PanelKind) (content : List Byte) (h1 : Part.drum ∈ ps)
    (h2 : Part.scan ∈ ps) (h3 : Part.conv ∈ ps) (h4 : Part.head ∈ ps) (h5 : Part.store ∈ ps) (h6 : Part.portA ∈ ps)
    (h7 : Part.portB ∈ ps) (h8 : Part.sender ∈ ps) (h9 : Part.tables ∈ ps) (h10 : Part.pics ∈ ps) (h11 : Part.slips
    ∈ ps) (h12 : Part.panel ∈ ps) (h : Only ps s t) : Only ps s (panelOwner k content t) := by
  unfold panelOwner
  try dsimp only
  with_reducible repeat'
    first
    | assumption | apply loadPhotograph_only | apply spinKey_only | apply stopKey_only
    | apply abortKey_only | apply reprintKey_only | apply resetMechKey_only | apply portPart_mem
    | split

theorem panelPush_only {ps : List Part} {s t : State} (b : Byte) (h1 : Part.panel ∈ ps) (h : Only ps s t) : Only ps
    s (panelPush b t) := by
  unfold panelPush
  try dsimp only
  with_reducible repeat' (first | assumption | apply setPanel_only)

theorem panelPosition_only {ps : List Part} {s t : State} (b : Byte) (h1 : Part.drum ∈ ps) (h2 : Part.scan ∈ ps) (h3
    : Part.conv ∈ ps) (h4 : Part.head ∈ ps) (h5 : Part.store ∈ ps) (h6 : Part.portA ∈ ps) (h7 : Part.portB ∈ ps) (h8
    : Part.sender ∈ ps) (h9 : Part.tables ∈ ps) (h10 : Part.pics ∈ ps) (h11 : Part.slips ∈ ps) (h12 : Part.panel ∈
    ps) (h : Only ps s t) : Only ps s (panelPosition b t) := by
  unfold panelPosition
  try dsimp only
  with_reducible repeat'
    first
    | assumption | apply panelPush_only | apply panelHunting_only | apply panelOwner_only
    | apply portPart_mem | split

theorem panelByte_only {ps : List Part} {s t : State} (b : Option Byte) (h1 : Part.drum ∈ ps) (h2 : Part.scan ∈ ps)
    (h3 : Part.conv ∈ ps) (h4 : Part.head ∈ ps) (h5 : Part.store ∈ ps) (h6 : Part.portA ∈ ps) (h7 : Part.portB ∈ ps)
    (h8 : Part.sender ∈ ps) (h9 : Part.tables ∈ ps) (h10 : Part.pics ∈ ps) (h11 : Part.slips ∈ ps) (h12 : Part.panel
    ∈ ps) (h : Only ps s t) : Only ps s (panelByte b t) := by
  unfold panelByte
  try dsimp only
  with_reducible repeat'
    first
    | assumption | apply setPanel_only | apply panelHunting_only | apply panelPosition_only
    | apply portPart_mem | split

theorem panelGap_only {ps : List Part} {s t : State} (h1 : Part.panel ∈ ps) (h : Only ps s t) : Only ps s (panelGap
    t) := by
  unfold panelGap
  try dsimp only
  with_reducible repeat' (first | assumption | apply panelHunting_only | split)

theorem panelLoad_only {ps : List Part} {s t : State} (lines : Nat) (slug : List Byte) (h1 : Part.pics ∈ ps) (h2 :
    Part.panel ∈ ps) (h : Only ps s t) : Only ps s (panelLoad lines slug t) := by
  unfold panelLoad
  try dsimp only
  with_reducible repeat'
    first
    | assumption | apply panelHunting_only | apply loadPhotograph_only | split

theorem clockSecond_only {ps : List Part} {s t : State} (h1 : Part.clock ∈ ps) (h : Only ps s t) : Only ps s
    (clockSecond t) := by
  unfold clockSecond
  try dsimp only
  with_reducible repeat' (first | assumption | apply setClock_only)

theorem receiptExpiry_only {ps : List Part} {s t : State} (h1 : Part.conv ∈ ps) (h2 : Part.head ∈ ps) (h3 :
    Part.tables ∈ ps) (h4 : Part.pics ∈ ps) (h5 : Part.slips ∈ ps) (h : Only ps s t) : Only ps s (receiptExpiry t)
    := by
  unfold receiptExpiry
  try dsimp only
  with_reducible repeat' (first | assumption | apply finishRecord_only | split)

end Sys2Proof.Machine
end

