-- ==== Sys2Proof/Laws/Event.lean ====
section
/-! SUPPORT. What the panel's share of an event and the evaluations at its end do: the frames, and when they change nothing. -/

namespace Sys2Proof.Machine

/-! ### What is read of the picture table alone -/

theorem onDrumRec_congr {s t : State} (h : t.pics = s.pics) : onDrumRec t = onDrumRec s := by
  have hr : t.rec? = s.rec? := by funext i; simp [State.rec?, h]
  simp [onDrumRec, h, hr]

theorem onDrumState_congr {s t : State} (h : t.pics = s.pics) : onDrumState t = onDrumState s := by
  simp [onDrumState, onDrumRec_congr h]

theorem standardNumber_congr {s t : State} (h : t.pics = s.pics) : standardNumber t = standardNumber s := by
  simp [standardNumber, onDrumGrant, onDrumRec_congr h]

/-! ### The evaluations at the end of an event (log 29) -/

/-- An event that leaves everything the evaluations watch as it was ends with the evaluations changing nothing. -/
theorem settle_unchanged {s0 s : State} (hd : demand s0 = demand s) (hs : s0.drum.state = s.drum.state)
    (hc : s0.pins.coverClosed = s.pins.coverClosed) (hk : standardKey s0 = standardKey s)
    (hh : s0.head.state = s.head.state) (ho : onDrumState s0 = onDrumState s) (hl : lampDemand s0 = lampDemand s)
    (ha : s0.portA.inFault = s.portA.inFault) (hb : s0.portB.inFault = s.portB.inFault)
    (hr : attemptReady s0 = attemptReady s) (hq : lineupReady s0 = lineupReady s) : settle s0 s = s := by
  have h1 : lapseEval s0 s = s := by
    unfold lapseEval
    split
    · rename_i p _
      cases p <;> simp [State.port, ha, hb]
    · rfl
  have h2 : portFailEval s0 s = s := by
    unfold portFailEval noPortLeft bothFault
    rw [ho, ha, hb]
    split
    · split
      · rename_i h; exact absurd h.1 (by rw [h.2]; exact Bool.false_ne_true)
      · rfl
    · rfl
  unfold settle
  simp only [h1, h2]
  have h3 : standardEval s0 s = s := by simp [standardEval, hk]
  have h4 : drumEval s0 s = s := by simp [drumEval, hd, hs, hc]
  have h5 : headEval s0 s = s := by simp [headEval, hh, ho]
  have h6 : lampEval s0 s = s := by simp [lampEval, hl]
  have h7 : attemptEval s0 s = s := by
    unfold attemptEval
    rw [hr]
    split
    · rename_i h; rw [h.1] at h; exact absurd h.2 (by decide)
    · rfl
  have h8 : lineupEval s0 s = s := by
    unfold lineupEval
    rw [hq]
    split
    · rename_i h; rw [h.1] at h; exact absurd h.2 (by decide)
    · rfl
  simp only [h3, h4, h5, h6, h7, h8]

/-- What an event that keeps the blocks the evaluations watch leaves: the evaluations change nothing. -/
theorem settle_quiet {ps : List Part} {s0 s : State} (h : Only ps s0 s)
    (hp : ∀ p ∈ [Part.drum, .scan, .lamp, .head, .portA, .portB, .sender, .tables, .pics, .pins], p ∉ ps) :
    settle s0 s = s := by
  have hdr := h.drum (hp _ (by decide))
  have hsc := h.scan (hp _ (by decide))
  have hhd := h.head (hp _ (by decide))
  have hl := h.lamp (hp _ (by decide))
  have hsn := h.sender (hp _ (by decide))
  have ha := h.portA (hp _ (by decide))
  have hb := h.portB (hp _ (by decide))
  have ht := h.tables (hp _ (by decide))
  have hpi := h.pics (hp _ (by decide))
  have hpn := h.pins (hp _ (by decide))
  have ho := (onDrumState_congr hpi).symm
  have hn := (standardNumber_congr hpi).symm
  have hport : s.port = s0.port := by funext p; cases p <;> simp [State.port, ha, hb]
  exact settle_unchanged (by simp [demand, hdr, ho]) (by rw [hdr]) (by rw [hpn])
    (by simp [standardKey, standardInForce, standardAt, hn, ht]) (by rw [hhd]) ho
    (by simp [lampDemand, ho, hsc, hdr, hhd]) (by rw [ha]) (by rw [hb])
    (by simp [attemptReady, chosenPort, onDrumGrant, onDrumRec_congr hpi, ho, hdr, hhd, hl, hsn, hport])
    (by simp [lineupReady, hsn, hport])

/-! ### The panel's share (R172) -/

/-- A part of the state that is not the panel is after a shown event what the event makes it, started from a state that
differs in the panel alone. -/
theorem shown_only {ps : List Part} {f : State → State} {s : State} (h2 : Part.panel ∈ ps)
    (h : ∀ u, Only [.panel] s u → Only ps u (f u)) : Only ps s (shown f s) := by
  have h0 : Only [.panel] s (panelTransmit s) := panelTransmit_only (by decide) (Only.refl _ _)
  exact panelTransmit_only h2 (markChanged_only _ h2 ((h0.mono (by simpa using h2)).trans (h _ h0)))

/-- The frame of an event with its evaluations, when the event and they keep to the parts. -/
theorem event_only {ps : List Part} {f : State → State} {s : State} (h2 : Part.panel ∈ ps)
    (h : ∀ u, Only [.panel] s u → Only ps u (settle u (f u))) : Only ps s (event f s) := shown_only h2 h

/-- The panel's share of an event changes the panel alone: what the event did stands in every other part. -/
theorem shown_result {f : State → State} (s : State) : Only [.panel] (f (panelTransmit s)) (shown f s) :=
  panelTransmit_only (by decide) (markChanged_only _ (by decide) (Only.refl _ _))

/-- An event whose evaluations change nothing leaves every part but the panel as the event made it. -/
theorem event_result {f : State → State} {s : State}
    (h : settle (panelTransmit s) (f (panelTransmit s)) = f (panelTransmit s)) :
    Only [.panel] (f (panelTransmit s)) (event f s) := by
  have := shown_result (f := fun s => settle s (f s)) s
  rwa [h] at this

theorem panelTransmit_result (s : State) : Only [.panel] s (panelTransmit s) :=
  panelTransmit_only (by decide) (Only.refl _ _)

/-- A transmitter that has taken what is due takes nothing more until something changes (R172). -/
theorem panelTransmit_idem (s : State) : panelTransmit (panelTransmit s) = panelTransmit s := by
  by_cases hx : s.panel.tx = none
  · by_cases hn : s.panel.notice = none
    · by_cases hc : s.panel.changed = true <;> simp [panelTransmit, hx, hn, hc]
    · obtain ⟨⟨k, n⟩, hn⟩ := Option.ne_none_iff_exists'.mp hn
      simp [panelTransmit, hx, hn]
  · obtain ⟨r, hr⟩ := Option.ne_none_iff_exists'.mp hx
    simp [panelTransmit, hr]

/-- An event that keeps every part but the panel ends with the evaluations changing nothing. -/
theorem event_eq_shown {f : State → State} (hf : ∀ u, Only [.panel] u (f u)) (s : State) : event f s = shown f s := by
  unfold event
  congr 1
  funext u
  exact settle_quiet (hf u) (by decide)

/-! ### The bytes of PANEL_RECORD_MALFORMED (R170; log 21) -/

@[simp] theorem panelFeed_nil (s : State) : panelFeed [] s = s := by
  simp only [panelFeed, List.foldl_nil]

@[simp] theorem panelFeed_cons (b : Option Byte) (rest : List (Option Byte)) (s : State) :
    panelFeed (b :: rest) s = panelFeed rest (event (panelByte b) s) := by
  simp only [panelFeed, List.foldl_cons]

/-- The frame of one byte's event: an event and its evaluations. -/
theorem panelByte_event_only (b : Option Byte) (s : State) : Only eventParts s (event (panelByte b) s) :=
  event_only (by decide) fun u _ => by
    have hb : Only eventParts u (panelByte b u) := by
      refine panelByte_only b ?_ ?_ ?_ ?_ ?_ ?_ ?_ ?_ ?_ ?_ ?_ ?_ (Only.refl _ _) <;> decide
    refine settle_only u ?_ ?_ ?_ ?_ ?_ ?_ ?_ ?_ ?_ ?_ ?_ ?_ ?_ ?_ hb <;> decide

theorem panelFeed_only (bytes : List (Option Byte)) (s : State) : Only eventParts s (panelFeed bytes s) := by
  induction bytes generalizing s with
  | nil => exact Only.refl _ _
  | cons b rest ih => exact (panelByte_event_only b s).trans (ih _)

/-! ### Orders at the head of the queue (R108, R109) -/

theorem executeOrder_only {ps : List Part} {owner : Order → State → State × Verdict} {o : Order} {s t : State}
    (ha : Part.portA ∈ ps) (hb : Part.portB ∈ ps) (hk : Only ps s t) (h : Only ps s (owner o t).1) :
    Only ps s (executeOrder owner o t) := by
  unfold executeOrder
  split
  · exact startReports_only ha hb (placeAnswer_only _ _ ha hb h)
  · exact startReports_only ha hb (placeAnswer_only _ _ ha hb hk)

theorem executeHead_only {ps : List Part} {k : OrderKind} {owner : Order → State → State × Verdict} {s t : State}
    (ha : Part.portA ∈ ps) (hb : Part.portB ∈ ps) (hq : Part.orders ∈ ps) (hk : Only ps s t)
    (h : ∀ o u, Only ps s u → Only ps s (owner o u).1) : Only ps s (executeHead k owner t) := by
  unfold executeHead
  split
  · split
    · exact executeOrder_only ha hb (setOrders_only _ hq hk) (h _ _ (setOrders_only _ hq hk))
    · exact hk
  · exact hk

end Sys2Proof.Machine
end

