-- ==== Sys2Proof/Laws/Line.lean ====
section
/-! SUPPORT. The bits of a block on the line: how many there are, and which bit stands at each place. -/

namespace Sys2Proof.Laws

open Sys2Proof.Machine

@[simp] theorem byteFrame_length (b : Byte) : (byteFrame b).length = 10 := rfl

theorem preamble_length : preamble.length = 16 := rfl

theorem frames_length (bytes : List Byte) : (bytes.flatMap byteFrame).length = 10 * bytes.length := by
  induction bytes with
  | nil => rfl
  | cons b bytes ih => rw [List.flatMap_cons, List.length_append, ih, byteFrame_length, List.length_cons]; omega

theorem blockBits_length (bytes : List Byte) : (blockBits bytes).length = 16 + 10 * bytes.length := by
  rw [blockBits, List.length_append, frames_length, preamble_length]

theorem frames_get (bytes : List Byte) (i k : Nat) (b : Byte) (hk : k < 10) (h : bytes[i]? = some b) :
    (bytes.flatMap byteFrame)[10 * i + k]? = (byteFrame b)[k]? := by
  induction bytes generalizing i with
  | nil => simp at h
  | cons x bytes ih =>
    rw [List.flatMap_cons]
    cases i with
    | zero =>
      obtain rfl : x = b := by simpa using h
      rw [List.getElem?_append_left (by rw [byteFrame_length]; omega), Nat.mul_zero, Nat.zero_add]
    | succ i =>
      rw [List.getElem?_append_right (by rw [byteFrame_length]; omega), byteFrame_length, ← ih i (by simpa using h)]
      congr 1; omega

/-- The first 16 bits of a block are the preamble. -/
theorem blockBits_preamble (bytes : List Byte) (i : Nat) (h : i < 16) : (blockBits bytes)[i]? = some .mark := by
  rw [blockBits, List.getElem?_append_left (by rwa [preamble_length]), preamble, List.getElem?_replicate, if_pos h]

/-- The frame of byte `i` stands at bit 16 + 10 `i` of a block. -/
theorem blockBits_frame (bytes : List Byte) (i k : Nat) (b : Byte) (hk : k < 10) (h : bytes[i]? = some b) :
    (blockBits bytes)[16 + 10 * i + k]? = (byteFrame b)[k]? := by
  rw [blockBits, List.getElem?_append_right (by rw [preamble_length]; omega), preamble_length,
    ← frames_get bytes i k b hk h]
  congr 1; omega

end Sys2Proof.Laws
end

