-- ==== Sys2Proof/Laws/Links.lean ====
section
/-! SUPPORT. Every operation keeps what ties the blocks of an attempt together (one lemma an operation, composed in the order
the operations are; the operations that move several blocks at once have lemmas over their whole effect). -/

namespace Sys2Proof.Machine

theorem setNow_links {t : State} (x : Tick) (h : Links t) : Links (t.setNow x) :=
  { h with }

theorem setEnc_links {t : State} (x : Encoder) (h : Links t) : Links (t.setEnc x) :=
  { h with }

theorem setDrum_links {t : State} (x : Drum) (h : Links t) : Links (t.setDrum x) :=
  { h with }

theorem setReg_links {t : State} (x : Regulator) (h : Links t) : Links (t.setReg x) :=
  { h with }

theorem setScan_links {t : State} (x : Scanner) (hx : Links t → x.state ≠ .idle → attemptInProgress t = true) (h :
    Links t) : Links (t.setScan x) :=
  { h with scanner := hx h }

theorem setLamp_links {t : State} (x : Lamp) (h : Links t) : Links (t.setLamp x) :=
  { h with }

theorem setConv_links {t : State} (x : Converter) (h : Links t) : Links (t.setConv x) :=
  { h with }

theorem setHead_links {t : State} (x : Head) (hx : Links t → x.state = .scanning → attemptInProgress t = true) (h :
    Links t) : Links (t.setHead x) :=
  { h with head := hx h }

theorem setStore_links {t : State} (x : LineStore) (hx : Links t → StoreLaw x ∧ (attemptInProgress t = true →
    x.flushed = 0)) (h : Links t) : Links (t.setStore x) :=
  { h with law := (hx h).1, flushed := (hx h).2 }

theorem setSender_links {t : State} (x : Sender) (hx : Links t → (∀ p, (t.port p).activity = .carrying ↔ (x.port =
    some p ∧ x.state.online = true)) ∧ attemptInProgress t = x.state.sendingAttempt ∧ (x.cadenceOn = true →
    x.state.paced = true)) (h : Links t) : Links (t.setSender x) :=
  { h with carries := (hx h).1, attempt := (hx h).2.1, cadence := (hx h).2.2 }

theorem setOrders_links {t : State} (x : List Order) (h : Links t) : Links (t.setOrders x) :=
  { h with }

theorem setTables_links {t : State} (x : Tables) (h : Links t) : Links (t.setTables x) :=
  { h with }

theorem setPics_links {t : State} (x : PicTable) (hx : attemptInProgress (t.setPics x) = attemptInProgress t) (h :
    Links t) : Links (t.setPics x) :=
  { portA := h.portA, portB := h.portB, carries := h.carries, attempt := hx.trans h.attempt, scanner := (fun hs => hx.trans (h.scanner hs)), head := (fun hs => hx.trans (h.head hs)), cadence := h.cadence, law := h.law, flushed := (fun hs => h.flushed (hx.symm.trans hs)) }

theorem setSlips_links {t : State} (x : SlipUnit) (h : Links t) : Links (t.setSlips x) :=
  { h with }

theorem setPanel_links {t : State} (x : Panel) (h : Links t) : Links (t.setPanel x) :=
  { h with }

theorem setClock_links {t : State} (x : Clock) (h : Links t) : Links (t.setClock x) :=
  { h with }

theorem setStation_links {t : State} (x : Station) (h : Links t) : Links (t.setStation x) :=
  { h with }

theorem setPins_links {t : State} (x : Pins) (h : Links t) : Links (t.setPins x) :=
  { h with }

theorem portOk {t : State} (h : Links t) (p : PortId) : PortOk (t.port p) := by
  cases p
  · exact h.portA
  · exact h.portB

theorem setPort_links {t : State} (p : PortId) (x : Port)
    (hx : Links t → PortOk x ∧ (x.activity = .carrying ↔ (t.port p).activity = .carrying)) (h : Links t) :
    Links (t.setPort p x) := by
  obtain ⟨h1, h2⟩ := hx h
  cases p
  · refine { h with portA := h1, carries := fun q => ?_ }
    cases q
    · exact h2.trans (h.carries .a)
    · exact h.carries .b
  · refine { h with portB := h1, carries := fun q => ?_ }
    cases q
    · exact h.carries .a
    · exact h2.trans (h.carries .b)

/-- A port whose list, activity and cause stay as they are. -/
theorem setPort_same_links {t : State} (p : PortId) (x : Port) (h1 : x.activity = (t.port p).activity)
    (h2 : x.list = (t.port p).list) (h3 : x.cause = (t.port p).cause) (h : Links t) : Links (t.setPort p x) :=
  setPort_links p x
    (fun h => ⟨⟨h2 ▸ (portOk h p).1, by rw [h1, h2]; exact (portOk h p).2, by rw [h1, h3]; exact (portOk h p).3⟩, by rw [h1]⟩) h

theorem onDrumState_modRec (i : Nat) (f : PicRecord → PicRecord) (t : State) :
    onDrumState (modRec i f t) =
      if t.pics.onDrum = some i then ((t.rec? i).map fun r => (f r).state).getD .empty else onDrumState t := by
  cases ho : t.pics.onDrum with
  | none => simp [onDrumState, onDrumRec, modRec, ho]
  | some j =>
    by_cases hj : i = j
    · subst hj
      simp [onDrumState, onDrumRec, modRec, ho, State.rec?, List.getElem?_modify, Option.map_map, Function.comp_def]
    · have hj' : ¬ j = i := fun h => hj h.symm
      simp [onDrumState, onDrumRec, modRec, ho, State.rec?, List.getElem?_modify, hj, hj']

theorem onDrumState_of_eq {s t : State} (h1 : t.pics.records = s.pics.records) (h2 : t.pics.onDrum = s.pics.onDrum) :
    onDrumState t = onDrumState s := by
  have hr : t.rec? = s.rec? := by funext i; simp [State.rec?, h1]
  simp [onDrumState, onDrumRec, h2, hr]

/-- The on-drum record's state is that of the record of the on-drum slot. -/
theorem onDrumState_of {t : State} {i : Nat} (h : t.pics.onDrum = some i) :
    onDrumState t = ((t.rec? i).map (·.state)).getD .empty := by
  simp [onDrumState, onDrumRec, h]

theorem onDrumState_modRec_same (i : Nat) (f : PicRecord → PicRecord) (t : State) (hf : ∀ r, (f r).state = r.state) :
    onDrumState (modRec i f t) = onDrumState t := by
  rw [onDrumState_modRec]
  split
  · rename_i h
    rw [onDrumState_of h]
    simp [hf]
  · rfl

theorem attemptInProgress_congr {s t : State} (h : t.pics = s.pics) : attemptInProgress t = attemptInProgress s := by
  simp [attemptInProgress, onDrumState_congr h]

theorem modRec_links {t : State} (i : Nat) (f : PicRecord → PicRecord)
    (hf : ∀ r, t.rec? i = some r → ((f r).state = .sending ↔ r.state = .sending)) (h : Links t) :
    Links (modRec i f t) := by
  refine setPics_links _ ?_ h
  show attemptInProgress (modRec i f t) = attemptInProgress t
  unfold attemptInProgress
  rw [onDrumState_modRec]
  split
  · rename_i ho
    rw [onDrumState_of ho]
    cases hr : t.rec? i with
    | none => rfl
    | some r => simp [hf r hr]
  · rfl

theorem modOnDrum_links {t : State} (f : PicRecord → PicRecord) (hf : ∀ r, (f r).state = r.state) (h : Links t) :
    Links (modOnDrum f t) := by
  unfold modOnDrum
  split
  · exact modRec_links _ _ (fun r _ => by rw [hf]) h
  · exact h

theorem modAttempt_links {t : State} (f : Attempt → Attempt) (h : Links t) : Links (modAttempt f t) :=
  modOnDrum_links _ (fun _ => rfl) h

theorem countIndexSlip_links {t : State} (h : Links t) : Links (countIndexSlip t) := by
  unfold countIndexSlip
  try dsimp only
  with_reducible repeat' (first | assumption | apply modAttempt_links | split)

theorem countHeadLate_links {t : State} (h : Links t) : Links (countHeadLate t) := by
  unfold countHeadLate
  try dsimp only
  with_reducible repeat' (first | assumption | apply modAttempt_links | split)

theorem countLockLost_links {t : State} (h : Links t) : Links (countLockLost t) := by
  unfold countLockLost
  try dsimp only
  with_reducible repeat' (first | assumption | apply modAttempt_links | split)

theorem requestPhoto_links {t : State} (use : PhotoUse) (h : Links t) : Links (requestPhoto use t) := by
  unfold requestPhoto
  try dsimp only
  with_reducible repeat' (first | assumption | apply setConv_links | split)

theorem requestTherm_links {t : State} (h : Links t) : Links (requestTherm t) := by
  unfold requestTherm
  try dsimp only
  with_reducible repeat' (first | assumption | apply setConv_links | split)

theorem startNextConversion_links {t : State} (h : Links t) : Links (startNextConversion t) := by
  unfold startNextConversion
  try dsimp only
  with_reducible repeat' (first | assumption | apply setConv_links | split)

theorem withdrawPhoto_links {t : State} (h : Links t) : Links (withdrawPhoto t) := by
  unfold withdrawPhoto
  try dsimp only
  with_reducible repeat' (first | assumption | apply setConv_links)

theorem applyTone_links {t : State} (h : Links t) : Links (applyTone t) := by
  unfold applyTone
  try dsimp only
  with_reducible repeat' (first | assumption | apply setTables_links | split)

theorem applyStandard_links {t : State} (h : Links t) : Links (applyStandard t) := by
  unfold applyStandard
  try dsimp only
  with_reducible repeat' (first | assumption | apply setTables_links | split)

theorem applyScan_links {t : State} (h : Links t) : Links (applyScan t) := by
  unfold applyScan
  try dsimp only
  with_reducible repeat' (first | assumption | apply setTables_links | split)

theorem takeDrumProfile_links {t : State} (p : DrumProfile) (h : Links t) : Links (takeDrumProfile p t) := by
  unfold takeDrumProfile
  try dsimp only
  with_reducible repeat' (first | assumption | apply setTables_links | apply setDrum_links)

theorem applyDrum_links {t : State} (h : Links t) : Links (applyDrum t) := by
  unfold applyDrum
  try dsimp only
  with_reducible repeat'
    first
    | assumption | apply setTables_links | apply takeDrumProfile_links | split

theorem takeLineProfile_links {t : State} (p : PortId) (lp : LineProfile) (h : Links t) : Links (takeLineProfile p
    lp t) := by
  unfold takeLineProfile
  try dsimp only
  with_reducible repeat' (first | assumption | apply setTables_links | split)

theorem applyLine_links {t : State} (p : PortId) (h : Links t) : Links (applyLine p t) := by
  unfold applyLine
  try dsimp only
  with_reducible repeat'
    first
    | assumption | apply setTables_links | apply takeLineProfile_links | split

theorem reportStart_links {t : State} (p : PortId) (h : Links t) : Links (reportStart p t) := by
  unfold reportStart
  dsimp only
  split
  · rename_i hc
    refine setPort_links p _ (fun h => ⟨⟨(portOk h p).1, ?_, ?_⟩, ?_⟩) h
    · simp
    · simp
    · simp [hc.1]
  · exact h

theorem addItem_links {t : State} (p : PortId) (item : RepItem) (hp : (t.port p).activity ≠ .carrying) (h : Links t) :
    Links (addItem p item t) := by
  have hl : ∀ l : List RepItem, l ++ [item] ≠ [] := by simp
  unfold addItem
  dsimp only
  split
  · rename_i hlen
    refine setPort_links p _ (fun h => ⟨⟨by simp; omega, ?_, ?_⟩, ?_⟩) h
    all_goals
      dsimp only
      split <;> simp_all
  · exact h

theorem askTherm_links {t : State} (h : Links t) : Links (askTherm t) := by
  unfold askTherm
  try dsimp only
  with_reducible repeat' (first | assumption | apply setSlips_links | apply requestTherm_links | split)

theorem firstFeed_links {t : State} (h : Links t) : Links (firstFeed t) := by
  unfold firstFeed
  try dsimp only
  with_reducible repeat' (first | assumption | apply setSlips_links)

theorem beginDotLine_links {t : State} (h : Links t) : Links (beginDotLine t) := by
  unfold beginDotLine
  try dsimp only
  with_reducible repeat'
    first
    | assumption | apply setSlips_links | apply askTherm_links | apply firstFeed_links | split

theorem chooseBand_links {t : State} (reading : Nat) (h : Links t) : Links (chooseBand reading t) := by
  unfold chooseBand
  try dsimp only
  with_reducible repeat' (first | assumption | apply setSlips_links | apply firstFeed_links | split)

theorem takeTherm_links {t : State} (reading : Nat) (h : Links t) : Links (takeTherm reading t) := by
  unfold takeTherm
  try dsimp only
  with_reducible repeat'
    first
    | assumption | apply setSlips_links | apply askTherm_links | apply chooseBand_links | split

theorem startSlip_links {t : State} (req : SlipReq) (h : Links t) : Links (startSlip req t) := by
  unfold startSlip
  try dsimp only
  with_reducible repeat' (first | assumption | apply setSlips_links | apply beginDotLine_links)

theorem slipEval_links {t : State} (h : Links t) : Links (slipEval t) := by
  unfold slipEval
  try dsimp only
  with_reducible repeat' (first | assumption | apply startSlip_links | split)

theorem updateSlipStatus_links {t : State} (slot : Nat) (h : Links t) : Links (updateSlipStatus slot t) :=
  modRec_links _ _ (fun _ _ => Iff.rfl) h

theorem oweSlip_links {t : State} (slot : Nat) (kind : SlipKind) (h : Links t) : Links (oweSlip slot kind t) := by
  unfold oweSlip
  try dsimp only
  with_reducible repeat' (first | assumption | apply setSlips_links)

theorem requestSlip_links {t : State} (slot : Nat) (kind : SlipKind) (h : Links t) : Links (requestSlip slot kind
    t).1 := by
  unfold requestSlip
  try dsimp only
  with_reducible repeat'
    first
    | assumption | apply setSlips_links | apply updateSlipStatus_links | apply slipEval_links
    | apply oweSlip_links | split

theorem fillOne_links {t : State} (h : Links t) : Links (fillOne t) := by
  unfold fillOne
  try dsimp only
  with_reducible repeat'
    first
    | assumption | apply setSlips_links | apply updateSlipStatus_links | split

theorem fillOwed_links {t : State} (n : Nat) (h : Links t) : Links (fillOwed n t) := by
  induction n generalizing t with
  | zero => exact h
  | succ n ih => exact ih (fillOne_links h)

theorem completeSlip_links {t : State} (h : Links t) : Links (completeSlip t) := by
  unfold completeSlip
  split
  · exact h
  · exact slipEval_links (fillOwed_links _ (updateSlipStatus_links _
      (modRec_links _ _ (fun _ _ => Iff.rfl) (setSlips_links _ h))))

theorem nextDotLine_links {t : State} (h : Links t) : Links (nextDotLine t) := by
  unfold nextDotLine
  try dsimp only
  with_reducible repeat'
    first
    | assumption | apply setSlips_links | apply beginDotLine_links | apply completeSlip_links | split

theorem strobeEnd_links {t : State} (h : Links t) : Links (strobeEnd t) := by
  unfold strobeEnd
  try dsimp only
  with_reducible repeat' (first | assumption | apply setSlips_links | apply firstFeed_links | split)

theorem feedIntervalExpiry_links {t : State} (h : Links t) : Links (feedIntervalExpiry t) := by
  unfold feedIntervalExpiry
  try dsimp only
  with_reducible repeat' (first | assumption | apply setSlips_links | apply nextDotLine_links | split)

theorem coolTimerExpiry_links {t : State} (h : Links t) : Links (coolTimerExpiry t) := by
  unfold coolTimerExpiry
  try dsimp only
  with_reducible repeat' (first | assumption | apply setSlips_links | apply askTherm_links | split)

theorem paperOut_links {t : State} (h : Links t) : Links (paperOut t) := by
  unfold paperOut
  try dsimp only
  with_reducible repeat' (first | assumption | apply setSlips_links)

theorem paperSensorChange_links {t : State} (present : Bool) (h : Links t) : Links (paperSensorChange present t) :=
    by
  unfold paperSensorChange
  try dsimp only
  with_reducible repeat'
    first
    | assumption | apply setPins_links | apply setSlips_links | apply paperOut_links | split

theorem paperTimerExpiry_links {t : State} (h : Links t) : Links (paperTimerExpiry t) := by
  unfold paperTimerExpiry
  try dsimp only
  with_reducible repeat'
    first
    | assumption | apply setSlips_links | apply beginDotLine_links | apply slipEval_links | split

theorem parkHead_links {t : State} (h : Links t) : Links (parkHead t) := by
  unfold parkHead
  try dsimp only
  with_reducible repeat' (first | assumption | apply setHead_links | apply applyScan_links | split)
  all_goals first | exact fun h => h.head | exact fun _ hh => nomatch hh

theorem stopHead_links {t : State} (h : Links t) : Links (stopHead t) := by
  unfold stopHead
  try dsimp only
  with_reducible repeat' (first | assumption | apply setHead_links)
  all_goals first | exact fun h => h.head | exact fun _ hh => nomatch hh

theorem rewindStep_links {t : State} (h : Links t) : Links (rewindStep t) := by
  unfold rewindStep
  try dsimp only
  with_reducible repeat' (first | assumption | apply setHead_links | apply stopHead_links | split)
  all_goals first | exact fun h => h.head

theorem enterRewind_links {t : State} (limit : Nat) (h : Links t) : Links (enterRewind limit t) := by
  unfold enterRewind
  try dsimp only
  with_reducible repeat'
    first
    | assumption | apply setHead_links | apply parkHead_links | apply stopHead_links
    | apply rewindStep_links | split
  all_goals first | exact fun h => h.head | exact fun _ hh => nomatch hh

theorem rewindHead_links {t : State} (h : Links t) : Links (rewindHead t) := by
  unfold rewindHead
  try dsimp only
  with_reducible repeat' (first | assumption | apply enterRewind_links | split)

theorem stopScanner_links {t : State} (h : Links t) : Links (stopScanner t) := by
  unfold stopScanner
  try dsimp only
  with_reducible repeat' (first | assumption | apply setScan_links | apply withdrawPhoto_links | split)
  all_goals first | exact fun h => h.scanner | exact fun _ hh => absurd rfl hh

theorem requestSlip_onDrumState (slot : Nat) (kind : SlipKind) (t : State) :
    onDrumState (requestSlip slot kind t).1 = onDrumState t := by
  have hu : ∀ u : State, onDrumState (updateSlipStatus slot u) = onDrumState u := fun u =>
    onDrumState_modRec_same _ _ _ (fun _ => rfl)
  have hs : ∀ u : State, onDrumState (slipEval u) = onDrumState u := fun u =>
    onDrumState_congr ((slipEval_only (ps := [.conv, .slips]) (by decide) (by decide) (Only.refl _ u)).pics (by decide))
  unfold requestSlip
  split
  · exact hu t
  · split
    · rw [hs, hu]; rfl
    · split
      · rfl
      · rw [hu]; rfl

theorem rewindHead_onDrumState (t : State) : onDrumState (rewindHead t) = onDrumState t :=
  onDrumState_congr ((rewindHead_only (ps := [.head, .tables]) (by decide) (by decide) (Only.refl _ t)).pics (by decide))

/-- A record that finishes is FINISHED; the other records keep their states (R155). -/
theorem finishRecord_onDrumState (slot : Nat) (outcome : FinalOutcome) (cause : FailCause) (t : State) :
    onDrumState (finishRecord slot outcome cause t) =
      if t.pics.onDrum = some slot then ((t.rec? slot).map fun _ => RecState.finished).getD .empty
      else onDrumState t := by
  have k := onDrumState_modRec slot (fun r => { r with state := .finished, final := some ⟨outcome, cause, clockReading t⟩ }) t
  have k2 : ∀ x : PicTable, x.records = (modRec slot (fun r => { r with state := .finished, final := some ⟨outcome, cause, clockReading t⟩ }) t).pics.records →
      x.onDrum = (modRec slot (fun r => { r with state := .finished, final := some ⟨outcome, cause, clockReading t⟩ }) t).pics.onDrum →
      onDrumState ((modRec slot (fun r => { r with state := .finished, final := some ⟨outcome, cause, clockReading t⟩ }) t).setPics x) = onDrumState (modRec slot (fun r => { r with state := .finished, final := some ⟨outcome, cause, clockReading t⟩ }) t) :=
    fun x h1 h2 => onDrumState_of_eq h1 h2
  unfold finishRecord
  dsimp only
  rw [requestSlip_onDrumState]
  split
  · rw [rewindHead_onDrumState]
    exact (k2 _ rfl rfl).trans k
  · exact (k2 _ rfl rfl).trans k

theorem finishRecord_links {t : State} (slot : Nat) (outcome : FinalOutcome) (cause : FailCause)
    (hn : ∀ r, t.rec? slot = some r → r.state ≠ .sending) (h : Links t) : Links (finishRecord slot outcome cause t) := by
  unfold finishRecord
  dsimp only
  have key : Links (modRec slot
      (fun r => { r with state := .finished, final := some ⟨outcome, cause, clockReading t⟩ }) t) :=
    modRec_links _ _ (fun r hr => by simp [hn r hr]) h
  have key2 := setPics_links
    { (modRec slot (fun r => { r with state := .finished, final := some ⟨outcome, cause, clockReading t⟩ }) t).pics with
      finishOrder := (modRec slot (fun r =>
        { r with state := .finished, final := some ⟨outcome, cause, clockReading t⟩ }) t).pics.finishOrder ++ [slot]
      receiptTimer := none } rfl key
  split
  · exact requestSlip_links _ _ (rewindHead_links key2)
  · exact requestSlip_links _ _ key2

theorem grantAgain_links {t : State} (slot : Nat) (hn : ∀ r, t.rec? slot = some r → r.state ≠ .sending) (h : Links t) :
    Links (grantAgain slot t) := by
  unfold grantAgain
  split
  · exact finishRecord_links _ _ _ hn h
  · refine modRec_links _ _ (fun r hr => ?_) (setPics_links _ rfl h)
    simp [hn r hr]

/-- The on-drum record is not SENDING after its attempt's end (R147). -/
theorem moveRecord_onDrumState {t : State} (slot : Nat) (outcome : AttemptOutcome) (h : t.pics.onDrum = some slot) :
    onDrumState (moveRecord slot outcome t) ≠ .sending := by
  have hf : ∀ o c, onDrumState (finishRecord slot o c t) ≠ .sending := by
    intro o c
    rw [finishRecord_onDrumState, if_pos h]
    cases t.rec? slot <;> simp
  have ha : onDrumState (awaitReceipts slot t) ≠ .sending := by
    show onDrumState (modRec slot (fun r => { r with state := .awaiting }) t) ≠ .sending
    rw [onDrumState_modRec, if_pos h]
    cases t.rec? slot <;> simp
  have hg : onDrumState (grantAgain slot t) ≠ .sending := by
    unfold grantAgain
    split
    · exact hf _ _
    · show onDrumState (modRec slot (fun r => { r with state := .granted }) _) ≠ .sending
      rw [onDrumState_modRec, if_pos (by exact h)]
      cases State.rec? (t.setPics { t.pics with receiptTimer := none }) slot <;> simp
  unfold moveRecord
  cases outcome <;> dsimp only <;> first | exact ha | exact hf _ _ | skip
  split
  · exact hg
  · exact hf _ _

theorem endAttemptUse_links {t : State} (h : Links t) : Links (endAttemptUse t) := by
  unfold endAttemptUse
  dsimp only
  with_reducible repeat' (first | assumption | apply applyStandard_links | apply applyTone_links | apply applyScan_links | split)

theorem stopScanner_idle (t : State) : (stopScanner t).scan.state = .idle := by
  unfold stopScanner
  cases h : t.scan.state <;> dsimp only
  · exact h
  · rfl
  · exact congrArg Scanner.state
      ((withdrawPhoto_only (ps := [.conv]) (by decide) (Only.refl _ _)).scan (by decide))
  · exact congrArg Scanner.state
      ((withdrawPhoto_only (ps := [.conv]) (by decide) (Only.refl _ _)).scan (by decide))

theorem rewindStep_not_scanning {t : State} (h : t.head.state ≠ .scanning) : (rewindStep t).head.state ≠ .scanning := by
  unfold rewindStep
  dsimp only
  split
  · simp [stopHead]
  · simpa using h

theorem applyScan_head (t : State) : (applyScan t).head = t.head :=
  (applyScan_only (ps := [.tables]) (by decide) (Only.refl _ t)).head (by decide)

theorem parkHead_state (t : State) : (parkHead t).head.state = .parked := by
  unfold parkHead
  dsimp only
  split
  · rfl
  · rw [applyScan_head]; rfl

theorem enterRewind_not_scanning (limit : Nat) (t : State) : (enterRewind limit t).head.state ≠ .scanning := by
  unfold enterRewind
  dsimp only
  split
  · rw [parkHead_state]; simp
  · split
    · simp [stopHead]
    · exact rewindStep_not_scanning (by simp)

/-- A rewind event leaves the head in no state but PARKED, REWINDING or FAULT (R55). -/
theorem rewindHead_not_scanning (t : State) : (rewindHead t).head.state ≠ .scanning := by
  unfold rewindHead
  cases h : t.head.state <;> dsimp only
  all_goals first | exact enterRewind_not_scanning _ _ | simp [h]

/-- The closing of the sender keeps each port's list, activity and cause (R93). -/
theorem closeSender_port (outcome : AttemptOutcome) (t : State) (p : PortId) :
    ((closeSender outcome t).port p).activity = (t.port p).activity ∧
      ((closeSender outcome t).port p).list = (t.port p).list ∧
      ((closeSender outcome t).port p).cause = (t.port p).cause := by
  unfold closeSender
  dsimp only
  split
  · cases p <;> exact ⟨rfl, rfl, rfl⟩
  · split
    · cases hq : t.sender.port with
      | none => cases p <;> exact ⟨rfl, rfl, rfl⟩
      | some q => cases q <;> cases p <;> exact ⟨rfl, rfl, rfl⟩
    · exact ⟨rfl, rfl, rfl⟩

/-- The sender after it closed an attempt other than for LINE: in STOP_TONE at the same port (R93). -/
theorem closeSender_sender {outcome : AttemptOutcome} {t : State} (ho : outcome ≠ .line)
    (hs : t.sender.state.sendingAttempt = true) :
    (closeSender outcome t).sender.state = .stopTone ∧ (closeSender outcome t).sender.port = t.sender.port ∧
      (closeSender outcome t).sender.cadenceOn = false := by
  unfold closeSender
  rw [if_neg ho, if_pos hs]
  dsimp only
  cases hq : t.sender.port with
  | none => exact ⟨rfl, hq, rfl⟩
  | some q => cases q <;> exact ⟨rfl, hq, rfl⟩

/-- What the end of an attempt leaves of the sender and the ports: what the sender's closing left (R93, R94, R146). -/
theorem attemptEnd_ends {outcome : AttemptOutcome} {t : State} (hp : attemptInProgress t = true) :
    (attemptEnd outcome t).scan.state = .idle ∧ (attemptEnd outcome t).head.state ≠ .scanning ∧
      attemptInProgress (attemptEnd outcome t) = false ∧
      (attemptEnd outcome t).sender =
        (closeSender outcome (closeAttempt outcome (flushStore (stopScanner t)))).sender ∧
      (attemptEnd outcome t).store =
        { t.store with entries := [], carry := false, lastWritten := false, flushed := t.store.entries.length } ∧
      ∀ p, ((attemptEnd outcome t).port p).activity = (t.port p).activity ∧
        ((attemptEnd outcome t).port p).list = (t.port p).list ∧
        ((attemptEnd outcome t).port p).cause = (t.port p).cause := by
  have hstate : onDrumState t = .sending := by simpa [attemptInProgress] using hp
  obtain ⟨slot, hs⟩ : ∃ slot, t.pics.onDrum = some slot := by
    cases ho : t.pics.onDrum with
    | none => simp [onDrumState, onDrumRec, ho] at hstate
    | some slot => exact ⟨slot, rfl⟩
  have e : attemptEnd outcome t = endAttemptUse (rewindHead (moveRecord slot outcome
      (closeSender outcome (closeAttempt outcome (flushStore (stopScanner t)))))) := by
    unfold attemptEnd
    rw [hs]
    simp only [hp, if_true]
  rw [e]
  have k1 : Only [.scan, .conv, .store] t (flushStore (stopScanner t)) :=
    flushStore_only (by decide) (stopScanner_only (by decide) (by decide) (Only.refl _ t))
  have k2 : Only [.pics] (flushStore (stopScanner t)) (closeAttempt outcome (flushStore (stopScanner t))) :=
    closeAttempt_only _ (by decide) (Only.refl _ _)
  have k3 : Only [.portA, .portB, .sender] (closeAttempt outcome (flushStore (stopScanner t)))
      (closeSender outcome (closeAttempt outcome (flushStore (stopScanner t)))) :=
    closeSender_only _ (by decide) (by decide) (by decide) (Only.refl _ _)
  have kp := closeSender_port outcome (closeAttempt outcome (flushStore (stopScanner t)))
  have hon : (closeSender outcome (closeAttempt outcome (flushStore (stopScanner t)))).pics.onDrum = some slot := by
    rw [k3.pics (by decide)]
    have : (closeAttempt outcome (flushStore (stopScanner t))).pics.onDrum =
        (flushStore (stopScanner t)).pics.onDrum := by
      unfold closeAttempt modAttempt modOnDrum
      dsimp only
      split <;> rfl
    rw [this, k1.pics (by decide)]
    exact hs
  generalize hu : closeSender outcome (closeAttempt outcome (flushStore (stopScanner t))) = u at *
  have k4 : Only [.conv, .head, .tables, .pics, .slips] u (moveRecord slot outcome u) :=
    moveRecord_only _ _ (by decide) (by decide) (by decide) (by decide) (by decide) (Only.refl _ _)
  have hm := moveRecord_onDrumState slot outcome hon
  have k5 : Only [.head, .tables] (moveRecord slot outcome u) (rewindHead (moveRecord slot outcome u)) :=
    rewindHead_only (by decide) (by decide) (Only.refl _ _)
  have k6 : Only [.tables] (rewindHead (moveRecord slot outcome u))
      (endAttemptUse (rewindHead (moveRecord slot outcome u))) :=
    endAttemptUse_only (by decide) (Only.refl _ _)
  refine ⟨?_, ?_, ?_, ?_, ?_, fun p => ?_⟩
  · rw [k6.scan (by decide), k5.scan (by decide), k4.scan (by decide), k3.scan (by decide), k2.scan (by decide)]
    exact stopScanner_idle t
  · rw [k6.head (by decide)]
    exact rewindHead_not_scanning _
  · unfold attemptInProgress
    rw [onDrumState_congr (k6.pics (by decide)), onDrumState_congr (k5.pics (by decide))]
    simpa using hm
  · rw [k6.sender (by decide), k5.sender (by decide), k4.sender (by decide)]
  · rw [k6.store (by decide), k5.store (by decide), k4.store (by decide), k3.store (by decide), k2.store (by decide)]
    have k := (stopScanner_only (ps := [.scan, .conv]) (by decide) (by decide) (Only.refl _ t)).store (by decide)
    unfold flushStore
    rw [State.setStore_store, k]
  · have hq : (endAttemptUse (rewindHead (moveRecord slot outcome u))).port p = u.port p := by
      cases p
      · exact (k6.portA (by decide)).trans ((k5.portA (by decide)).trans (k4.portA (by decide)))
      · exact (k6.portB (by decide)).trans ((k5.portB (by decide)).trans (k4.portB (by decide)))
    have hb : (closeAttempt outcome (flushStore (stopScanner t))).port p = t.port p := by
      cases p
      · exact (k2.portA (by decide)).trans (k1.portA (by decide))
      · exact (k2.portB (by decide)).trans (k1.portB (by decide))
    rw [hq]
    have := kp p
    rw [hb] at this
    exact this

theorem attemptEnd_of_none {outcome : AttemptOutcome} {t : State} (hp : attemptInProgress t = false) :
    attemptEnd outcome t = t := by
  unfold attemptEnd
  cases t.pics.onDrum <;> simp [hp]

theorem attemptEnd_port (outcome : AttemptOutcome) (t : State) (p : PortId) :
    ((attemptEnd outcome t).port p).activity = (t.port p).activity := by
  cases hp : attemptInProgress t with
  | false => rw [attemptEnd_of_none hp]
  | true => exact ((attemptEnd_ends hp).2.2.2.2.2 p).1

/-- The sender that the closing of an attempt finds is the one the attempt had. -/
theorem closing_sender (outcome : AttemptOutcome) (t : State) :
    (closeAttempt outcome (flushStore (stopScanner t))).sender = t.sender :=
  ((closeAttempt_only (ps := [.pics]) outcome (by decide) (Only.refl _ _)).sender (by decide)).trans
    ((flushStore_only (ps := [.scan, .conv, .store]) (by decide)
      (stopScanner_only (by decide) (by decide) (Only.refl _ t))).sender (by decide))

theorem attemptEnd_links {t : State} (outcome : AttemptOutcome) (ho : outcome ≠ .line) (h : Links t) :
    Links (attemptEnd outcome t) := by
  cases hp : attemptInProgress t with
  | false => rwa [attemptEnd_of_none hp]
  | true =>
    obtain ⟨h1, h2, h3, h4, hst, h5⟩ := attemptEnd_ends (outcome := outcome) hp
    have hs : t.sender.state.sendingAttempt = true := h.attempt.symm.trans hp
    have hc := closing_sender outcome t
    obtain ⟨c1, c2, c3⟩ := closeSender_sender (t := closeAttempt outcome (flushStore (stopScanner t))) ho
      (by rw [hc]; exact hs)
    have hport : ∀ p, PortOk ((attemptEnd outcome t).port p) := fun p => by
      obtain ⟨e1, e2, e3⟩ := h5 p
      exact ⟨by rw [e2]; exact (portOk h p).1, by rw [e1, e2]; exact (portOk h p).2,
        by rw [e1, e3]; exact (portOk h p).3⟩
    have hon : t.sender.state.online = true := by
      cases hst : t.sender.state <;> rw [hst] at hs <;> first | rfl | cases hs
    refine { portA := hport .a, portB := hport .b, carries := fun p => ?_, attempt := ?_, scanner := ?_, head := ?_,
             cadence := ?_, law := ?_, flushed := fun hn => by rw [h3] at hn; cases hn }
    · rw [(h5 p).1, h4, c2, c1, hc, h.carries p, hon]
      exact Iff.rfl
    · rw [h3, h4, c1]; rfl
    · exact fun hn => absurd h1 hn
    · exact fun hn => absurd hn h2
    · rw [h4, c3]; exact fun hn => nomatch hn
    · rw [hst]
      intro hlt
      have h1 := h.law hlt
      rw [h.flushed hp] at h1
      simpa using h1

/-- The end for LINE, once the LOOP fault has taken the port out of CARRYING (R94). -/
theorem attemptEnd_line_links {t : State} (hp : attemptInProgress t = true)
    (hlaw : StoreLaw t.store)
    (hfl : t.store.flushed = 0) (ha : ∀ p, PortOk (t.port p) ∧ (t.port p).activity ≠ .carrying) : Links (attemptEnd .line t) := by
  obtain ⟨h1, h2, h3, h4, hst, h5⟩ := attemptEnd_ends (outcome := .line) hp
  have hsd : (attemptEnd .line t).sender.state = .free ∧ (attemptEnd .line t).sender.port = none ∧
      (attemptEnd .line t).sender.cadenceOn = false := by
    rw [h4]; exact ⟨rfl, rfl, rfl⟩
  have hport : ∀ p, PortOk ((attemptEnd .line t).port p) := fun p => by
    obtain ⟨e1, e2, e3⟩ := h5 p
    exact ⟨by rw [e2]; exact (ha p).1.1, by rw [e1, e2]; exact (ha p).1.2, by rw [e1, e3]; exact (ha p).1.3⟩
  refine { portA := hport .a, portB := hport .b, carries := fun p => ?_, attempt := ?_, scanner := ?_, head := ?_,
           cadence := ?_, law := ?_, flushed := fun hn => by rw [h3] at hn; cases hn }
  · rw [(h5 p).1, hsd.2.1]
    simp [(ha p).2]
  · rw [h3, hsd.1]; rfl
  · exact fun hn => absurd h1 hn
  · exact fun hn => absurd hn h2
  · rw [hsd.2.2]; exact fun hn => nomatch hn
  · rw [hst]
    intro hlt
    have h1 := hlaw hlt
    rw [hfl] at h1
    simpa using h1

theorem raiseHeadFault_links {t : State} (h : Links t) : Links (raiseHeadFault t) :=
  attemptEnd_links _ (by simp) (stopHead_links h)

theorem rewindInAttempt_links {t : State} (h : Links t) : Links (rewindInAttempt t) := by
  unfold rewindInAttempt
  dsimp only
  split
  · exact attemptEnd_links _ (by simp) (rewindHead_links h)
  · exact rewindHead_links h

theorem stepOut_links {t : State} (h : Links t) : Links (stepOut t) := by
  unfold stepOut
  try dsimp only
  with_reducible repeat' (first | assumption | apply setHead_links | apply raiseHeadFault_links | split)
  all_goals first | exact fun h => h.head

theorem positionStep_links {t : State} (h : Links t) : Links (positionStep t) := by
  unfold positionStep
  try dsimp only
  with_reducible repeat' (first | assumption | apply setHead_links | apply stepOut_links | split)
  all_goals first | exact fun h => h.head | exact fun _ hh => nomatch hh

theorem enterPositioning_links {t : State} (h : Links t) : Links (enterPositioning t) := by
  unfold enterPositioning
  try dsimp only
  with_reducible repeat' (first | assumption | apply setHead_links | apply positionStep_links | split)
  all_goals first | exact fun h => h.head | exact fun _ hh => nomatch hh

theorem headEval_links {t : State} (s0 : State) (h : Links t) : Links (headEval s0 t) := by
  unfold headEval
  try dsimp only
  with_reducible repeat' (first | assumption | apply enterPositioning_links | split)

theorem lineBurst_links {t : State} (h : Links t) : Links (lineBurst t) := by
  unfold lineBurst
  try dsimp only
  with_reducible repeat'
    first
    | assumption | apply setHead_links | apply raiseHeadFault_links | apply stepOut_links | split
  all_goals first | exact fun h => h.head

theorem checkHeadLate_links {t : State} (h : Links t) : Links (checkHeadLate t) := by
  unfold checkHeadLate
  try dsimp only
  with_reducible repeat' (first | assumption | apply countHeadLate_links | split)

theorem headAtCount_links {t : State} (rev pos : Nat) (h : Links t) : Links (headAtCount rev pos t) := by
  unfold headAtCount
  try dsimp only
  with_reducible repeat'
    first
    | assumption | apply lineBurst_links | apply checkHeadLate_links | split

theorem headAtIndex_links {t : State} (closing : Nat) (h : Links t) : Links (headAtIndex closing t) := by
  unfold headAtIndex
  try dsimp only
  with_reducible repeat'
    first
    | assumption | apply lineBurst_links | apply checkHeadLate_links | split

theorem stepTimerExpiry_links {t : State} (h : Links t) : Links (stepTimerExpiry t) := by
  unfold stepTimerExpiry
  try dsimp only
  with_reducible repeat'
    first
    | assumption | apply setHead_links | apply positionStep_links | apply stepOut_links
    | apply rewindStep_links | apply raiseHeadFault_links | split
  all_goals first | exact fun h => h.head

theorem homeSensor_links {t : State} (level : Bool) (h : Links t) : Links (homeSensor level t) := by
  unfold homeSensor
  try dsimp only
  with_reducible repeat' (first | assumption | apply setPins_links | apply parkHead_links | split)

theorem lampEval_links {t : State} (s0 : State) (h : Links t) : Links (lampEval s0 t) := by
  unfold lampEval
  try dsimp only
  with_reducible repeat' (first | assumption | apply setLamp_links | split)

theorem lampWarm_links {t : State} (h : Links t) : Links (lampWarm t) := by
  unfold lampWarm
  try dsimp only
  with_reducible repeat' (first | assumption | apply setLamp_links | split)

theorem regulate_links {t : State} (period : Nat) (h : Links t) : Links (regulate period t) := by
  unfold regulate
  try dsimp only
  with_reducible repeat' (first | assumption | apply setReg_links | apply setDrum_links)

theorem enterSpinup_links {t : State} (h : Links t) : Links (enterSpinup t) := by
  unfold enterSpinup
  try dsimp only
  with_reducible repeat' (first | assumption | apply setEnc_links | apply setDrum_links)

theorem enterBraking_links {t : State} (h : Links t) : Links (enterBraking t) := by
  unfold enterBraking
  try dsimp only
  with_reducible repeat' (first | assumption | apply setDrum_links)

theorem enterStopped_links {t : State} (h : Links t) : Links (enterStopped t) := by
  unfold enterStopped
  try dsimp only
  with_reducible repeat' (first | assumption | apply setDrum_links | apply applyDrum_links)

theorem enterCutoff_links {t : State} (f : DrumFault) (h : Links t) : Links (enterCutoff f t) :=
  attemptEnd_links _ (by simp) (stopHead_links (setDrum_links _ h))

theorem drumFault_links {t : State} (f : DrumFault) (h : Links t) : Links (drumFault f t) := by
  unfold drumFault
  try dsimp only
  with_reducible repeat' (first | assumption | apply enterCutoff_links | split)

theorem setStallDeadline_links {t : State} (h : Links t) : Links (setStallDeadline t) := by
  unfold setStallDeadline
  try dsimp only
  with_reducible repeat' (first | assumption | apply setDrum_links)

theorem enterTracking_links {t : State} (h : Links t) : Links (enterTracking t) := by
  unfold enterTracking
  try dsimp only
  with_reducible repeat'
    first
    | assumption | apply setReg_links | apply setDrum_links | apply setStallDeadline_links

theorem decideLock_links {t : State} (eRaw : Int) (h : Links t) : Links (decideLock eRaw t) := by
  unfold decideLock
  try dsimp only
  with_reducible repeat' (first | assumption | apply setReg_links | apply setDrum_links | split)

theorem countUnlocked_links {t : State} (h : Links t) : Links (countUnlocked t) := by
  unfold countUnlocked
  dsimp only
  split
  · split
    · exact attemptEnd_links _ (by simp) (countLockLost_links (setDrum_links _ h))
    · exact countLockLost_links (setDrum_links _ h)
  · exact h

theorem regulatedWindow_links {t : State} (period : Nat) (h : Links t) : Links (regulatedWindow period t) := by
  unfold regulatedWindow
  try dsimp only
  with_reducible repeat'
    first
    | assumption | apply drumFault_links | apply countUnlocked_links | apply decideLock_links
    | apply regulate_links | apply setStallDeadline_links | split

theorem windowEvent_links {t : State} (period : Nat) (h : Links t) : Links (windowEvent period t) := by
  unfold windowEvent
  try dsimp only
  with_reducible repeat'
    first
    | assumption | apply setDrum_links | apply enterTracking_links | apply regulatedWindow_links
    | apply enterStopped_links | split

theorem takeBoundary_links {t : State} (b : Nat) (h : Links t) : Links (takeBoundary b t) := by
  unfold takeBoundary
  try dsimp only
  with_reducible repeat' (first | assumption | apply setEnc_links | apply windowEvent_links | split)

theorem boundaryAt_links {t : State} (b : Nat) (h : Links t) : Links (boundaryAt b t) := by
  unfold boundaryAt
  try dsimp only
  with_reducible repeat' (first | assumption | apply takeBoundary_links | split)

theorem countForward_links {t : State} (h : Links t) : Links (countForward t) := by
  unfold countForward
  try dsimp only
  with_reducible repeat' (first | assumption | apply setEnc_links | apply boundaryAt_links | split)

theorem countReverse_links {t : State} (h : Links t) : Links (countReverse t) := by
  unfold countReverse
  try dsimp only
  with_reducible repeat' (first | assumption | apply setEnc_links | apply drumFault_links | split)

theorem loseIndex_links {t : State} (h : Links t) : Links (loseIndex t) := by
  unfold loseIndex
  try dsimp only
  with_reducible repeat' (first | assumption | apply setEnc_links | apply drumFault_links)

theorem checkIndex_links {t : State} (h : Links t) : Links (checkIndex t) := by
  unfold checkIndex
  try dsimp only
  with_reducible repeat'
    first
    | assumption | apply setEnc_links | apply countIndexSlip_links | apply loseIndex_links | split

theorem evaluateDemand_links {t : State} (h : Links t) : Links (evaluateDemand t) := by
  unfold evaluateDemand
  try dsimp only
  with_reducible repeat'
    first
    | assumption | apply enterSpinup_links | apply enterBraking_links | split

theorem drumEval_links {t : State} (s0 : State) (h : Links t) : Links (drumEval s0 t) := by
  unfold drumEval
  try dsimp only
  with_reducible repeat' (first | assumption | apply evaluateDemand_links | split)

theorem standardEval_links {t : State} (s0 : State) (h : Links t) : Links (standardEval s0 t) := by
  unfold standardEval
  try dsimp only
  with_reducible repeat' (first | assumption | apply setReg_links | apply setDrum_links | split)

theorem rampTick_links {t : State} (h : Links t) : Links (rampTick t) := by
  unfold rampTick
  try dsimp only
  with_reducible repeat' (first | assumption | apply setDrum_links | split)

theorem spinupTimerExpiry_links {t : State} (h : Links t) : Links (spinupTimerExpiry t) := by
  unfold spinupTimerExpiry
  try dsimp only
  with_reducible repeat' (first | assumption | apply drumFault_links | split)

theorem stallDeadline_links {t : State} (h : Links t) : Links (stallDeadline t) := by
  unfold stallDeadline
  try dsimp only
  with_reducible repeat' (first | assumption | apply drumFault_links | split)

theorem brakingTimerExpiry_links {t : State} (h : Links t) : Links (brakingTimerExpiry t) := by
  unfold brakingTimerExpiry
  try dsimp only
  with_reducible repeat' (first | assumption | apply enterStopped_links | split)

theorem silenceTimerExpiry_links {t : State} (h : Links t) : Links (silenceTimerExpiry t) := by
  unfold silenceTimerExpiry
  try dsimp only
  with_reducible repeat' (first | assumption | apply enterStopped_links | split)

theorem cycleEnd_links {t : State} (h : Links t) : Links (cycleEnd t) := by
  unfold cycleEnd
  try dsimp only
  with_reducible repeat' (first | assumption | apply setDrum_links)

theorem coverChange_links {t : State} (closed : Bool) (h : Links t) : Links (coverChange closed t) := by
  unfold coverChange
  try dsimp only
  with_reducible repeat' (first | assumption | apply setPins_links | apply drumFault_links | split)

theorem rewindFromFault_links {t : State} (h : Links t) : Links (rewindFromFault t) := by
  unfold rewindFromFault
  try dsimp only
  with_reducible repeat' (first | assumption | apply enterRewind_links | split)

theorem mechClear_links {t u : State} (hu : mechClear t = some u) (h : Links t) : Links u := by
  unfold mechClear at hu
  split at hu
  · cases hu
  · cases hu
    apply rewindFromFault_links
    split
    · exact enterStopped_links h
    · exact h

theorem cadenceStart_links {t : State} (h : Links t) : Links (cadenceStart t) := by
  unfold cadenceStart
  split
  · rename_i hc
    exact setSender_links _ (fun h => ⟨h.carries, h.attempt, fun _ => by simp [hc.1, SenderState.paced]⟩) h
  · exact h

theorem satInc_lt {m n : Nat} (h : satInc m n < m) : n < m ∧ satInc m n = n + 1 := by
  unfold satInc at *
  split at h
  · rename_i hl; exact ⟨hl, if_pos hl⟩
  · rename_i hl; exact absurd h (by omega)

theorem storeOffer_links {t : State} (e : Entry) (h : Links t) : Links (storeOffer e t) := by
  refine cadenceStart_links (setStore_links _ (fun h => ?_) h)
  unfold offerEntry
  split
  · refine ⟨fun hlt => ?_, h.flushed⟩
    obtain ⟨h1, h2⟩ := satInc_lt hlt
    have := h.law h1
    dsimp only
    rw [h2]
    simp
    omega
  · exact ⟨h.law, h.flushed⟩

theorem lastEntryWritten_links {t : State} (h : Links t) : Links (lastEntryWritten t) := by
  unfold lastEntryWritten
  dsimp only
  have hk : Links (t.setStore { t.store with lastWritten := true }) := setStore_links _ (fun h => ⟨h.law, h.flushed⟩) h
  split
  all_goals first | exact hk | skip
  all_goals
    rename_i hst
    have hst : t.sender.state = _ := hst
    refine setSender_links _ (fun h => ⟨fun p => ?_, ?_, fun _ => rfl⟩) hk
    · rw [h.carries p]; simp [hst, SenderState.online]
    · rw [h.attempt]; simp [hst, SenderState.sendingAttempt]

theorem offerList_links {t : State} (l : List WaitEntry) (h : Links t) : Links (offerList l t) := by
  induction l generalizing t with
  | nil => exact setScan_links _ (fun h => h.scanner) h
  | cons e rest ih =>
    unfold offerList
    split
    · exact ih (storeOffer_links _ h)
    · exact setScan_links _ (fun h => h.scanner) h

theorem signalIfDue_links {t : State} (h : Links t) : Links (signalIfDue t) := by
  unfold signalIfDue
  try dsimp only
  with_reducible repeat'
    first
    | assumption | apply setScan_links | apply lastEntryWritten_links | apply rewindInAttempt_links | split
  all_goals first | exact fun h => h.scanner

theorem offerReady_links {t : State} (h : Links t) : Links (offerReady t) := offerList_links _ h

/-- Offers move the scanner's queue of entries and nothing else of it. -/
theorem offerReady_scan (t : State) : ∃ w, (offerReady t).scan = { t.scan with waiting := w } := by
  have store : ∀ (e : Entry) (u : State), (storeOffer e u).scan = u.scan := fun e u =>
    (storeOffer_only (ps := [.store, .sender]) e (by decide) (by decide) (Only.refl _ u)).scan (by decide)
  have key : ∀ (l : List WaitEntry) (u : State), ∃ w, (offerList l u).scan = { u.scan with waiting := w } := by
    intro l
    induction l with
    | nil => exact fun u => ⟨[], rfl⟩
    | cons e rest ih =>
      intro u
      unfold offerList
      split
      · obtain ⟨w, hw⟩ := ih (storeOffer ‹_› u)
        exact ⟨w, by rw [hw, store]⟩
      · exact ⟨_, rfl⟩
  exact key _ t

theorem takeSample_links {t : State} (k : Nat) (h : Links t) : Links (takeSample k t) := by
  unfold takeSample
  try dsimp only
  with_reducible repeat'
    first
    | assumption | apply setScan_links | apply requestPhoto_links | apply offerReady_links | split
  all_goals first | exact fun h => h.scanner

theorem updateWhite_links {t : State} (h : Links t) : Links (updateWhite t) := by
  unfold updateWhite
  try dsimp only
  with_reducible repeat' (first | assumption | apply setScan_links | split)
  all_goals first | exact fun h => h.scanner

theorem lampFault_links {t : State} (h : Links t) : Links (lampFault t) :=
  attemptEnd_links _ (by simp) (stopScanner_links (setLamp_links _ h))

theorem finishRun_links {t : State} (hp : attemptInProgress t = true) (h : Links t) : Links (finishRun t) :=
  signalIfDue_links (setScan_links _ (fun _ _ => hp) h)

theorem updateWhite_pics (t : State) : (updateWhite t).pics = t.pics :=
  (updateWhite_only (ps := [.scan]) (by decide) (Only.refl _ t)).pics (by decide)

theorem finishAtSample_links {t : State} (hp : attemptInProgress t = true) (h : Links t) : Links (finishAtSample t) := by
  unfold finishAtSample
  dsimp only
  split
  · exact lampFault_links (updateWhite_links h)
  · exact finishRun_links ((attemptInProgress_congr (updateWhite_pics t)).trans hp) (updateWhite_links h)

theorem openRevolution_links {t : State} (rev : Nat) (h : Links t) : Links (openRevolution rev t) := by
  unfold openRevolution
  try dsimp only
  with_reducible repeat' (first | assumption | apply setScan_links | apply takeSample_links)
  all_goals first | exact fun h => h.scanner

theorem closeRevolution_links {t : State} (hp : attemptInProgress t = true) (h : Links t) : Links (closeRevolution t) := by
  have hu := updateWhite_links h
  unfold closeRevolution
  dsimp only
  split
  · exact lampFault_links hu
  · split
    · exact lampFault_links hu
    · split
      · exact finishRun_links ((attemptInProgress_congr (updateWhite_pics t)).trans hp) hu
      · exact openRevolution_links _ hu

theorem scannerAtIndex_links {t : State} (h : Links t) : Links (scannerAtIndex t) := by
  unfold scannerAtIndex
  split
  · exact h
  · rename_i hs
    exact openRevolution_links _ (setScan_links _ (fun h _ => h.scanner (by rw [hs]; simp)) h)
  · rename_i hs
    exact closeRevolution_links (h.scanner (by rw [hs]; simp)) h
  · exact h

theorem scannerAtCount_links {t : State} (pos : Nat) (h : Links t) : Links (scannerAtCount pos t) := by
  unfold scannerAtCount
  dsimp only
  split
  · split
    · rename_i hs
      exact finishAtSample_links ((takeSample_links _ h).scanner (by rw [hs.1]; simp)) (takeSample_links _ h)
    · exact takeSample_links _ h
  · exact h

theorem takeWhite_links {t : State} (reading : Nat) (h : Links t) : Links (takeWhite reading t) := by
  unfold takeWhite
  split
  · rename_i hs
    dsimp only
    have key : Links (offerReady (t.setScan
        { t.scan with
          whiteSum := t.scan.whiteSum + reading, whiteCount := t.scan.whiteCount + 1
          waiting := fillWhite t.scan.waiting })) :=
      offerReady_links (setScan_links _ (fun h => h.scanner) h)
    split
    · refine finishAtSample_links (key.scanner ?_) key
      obtain ⟨w, hw⟩ := offerReady_scan (t.setScan
        { t.scan with
          whiteSum := t.scan.whiteSum + reading, whiteCount := t.scan.whiteCount + 1
          waiting := fillWhite t.scan.waiting })
      rw [hw, State.setScan_scan]
      simp [hs]
    · exact key
  · exact signalIfDue_links (offerReady_links (setScan_links _ (fun h => h.scanner) h))

theorem takePicture_links {t : State} (reading : Nat) (h : Links t) : Links (takePicture reading t) :=
  signalIfDue_links (offerReady_links (setScan_links _ (fun h => h.scanner) h))

theorem handResult_links {t : State} (reading : Nat) (h : Links t) : Links (handResult reading t) := by
  unfold handResult
  try dsimp only
  with_reducible repeat'
    first
    | assumption | apply takeTherm_links | apply takeWhite_links | apply takePicture_links | split

theorem conversionComplete_links {t : State} (reading : Nat) (h : Links t) : Links (conversionComplete reading t) :=
    by
  unfold conversionComplete
  try dsimp only
  with_reducible repeat'
    first
    | assumption | apply startNextConversion_links | apply handResult_links | split

theorem encoderCount_links {t : State} (dir : Dir) (h : Links t) : Links (encoderCount dir t) := by
  unfold encoderCount
  try dsimp only
  with_reducible repeat'
    first
    | assumption | apply countForward_links | apply headAtCount_links | apply scannerAtCount_links
    | apply countReverse_links | split

theorem indexPulse_links {t : State} (h : Links t) : Links (indexPulse t) := by
  unfold indexPulse
  try dsimp only
  with_reducible repeat'
    first
    | assumption | apply boundaryAt_links | apply checkIndex_links | apply headAtIndex_links
    | apply scannerAtIndex_links

/-- With the sender FREE no port is CARRYING. -/
theorem none_carrying {t : State} (h : Links t) (hf : t.sender.state.online = false) (p : PortId) :
    (t.port p).activity ≠ .carrying := fun hc => by
  have := ((h.carries p).1 hc).2
  rw [hf] at this
  cases this

/-- The ports after one of them entered CARRYING. -/
theorem enterCarrying_port (p q : PortId) (t : State) :
    ((enterCarrying p t).port q).activity = (if q = p then .carrying else (t.port q).activity) ∧
      ((enterCarrying p t).port q).list = (t.port q).list ∧ ((enterCarrying p t).port q).cause = (t.port q).cause := by
  cases p <;> cases q <;> exact ⟨rfl, rfl, rfl⟩

/-- An IDLE port that enters CARRYING is a port as it should be. -/
theorem enterCarrying_ok {t : State} (p : PortId) (hp : ∀ q, PortOk (t.port q)) (hi : (t.port p).isIdle = true) (q : PortId) :
    PortOk ((enterCarrying p t).port q) := by
  simp only [Port.isIdle, Bool.and_eq_true, decide_eq_true_eq] at hi
  obtain ⟨h1, h2, h3⟩ := enterCarrying_port p q t
  by_cases hq : q = p
  · subst hq
    rw [if_pos rfl] at h1
    exact ⟨by rw [h2]; exact (hp q).1, fun _ => by rw [h2]; exact (hp q).2 (Or.inl hi.2), fun _ => by rw [h3]; exact hi.1⟩
  · rw [if_neg hq] at h1
    exact ⟨by rw [h2]; exact (hp q).1, by rw [h1, h2]; exact (hp q).2, by rw [h1, h3]; exact (hp q).3⟩

theorem startAttempt_sender (slot : Nat) (p : PortId) (b : Bool) (t : State) :
    (startAttempt slot p b t).sender = senderStarted p (lineOf t p).startTime := by
  cases p <;> rfl

theorem startAttempt_store (slot : Nat) (p : PortId) (b : Bool) (t : State) :
    (startAttempt slot p b t).store = storeCleared := by
  cases p <;> rfl

theorem startAttempt_port (slot : Nat) (p q : PortId) (b : Bool) (t : State) :
    ((startAttempt slot p b t).port q).activity = (if q = p then .carrying else (t.port q).activity) ∧
      ((startAttempt slot p b t).port q).list = (t.port q).list ∧
      ((startAttempt slot p b t).port q).cause = (t.port q).cause := by
  unfold startAttempt
  dsimp only
  generalize hu : State.setSender _ _ = u
  have hq : u.port q = t.port q := by
    rw [← hu]
    cases q <;> simp [State.port, modRec]
  have k := enterCarrying_port p q u
  rw [hq] at k
  cases q <;> exact k

/-- The record whose attempt starts is SENDING (R144). -/
theorem startAttempt_onDrumState {t : State} (slot : Nat) (p : PortId) (b : Bool) (hs : t.pics.onDrum = some slot)
    (hr : (t.rec? slot).isSome = true) : onDrumState (startAttempt slot p b t) = .sending := by
  have e : onDrumState (startAttempt slot p b t) = onDrumState (modRec slot
      (fun r => { r with
        state := .sending,
        attempts := r.attempts ++ [newAttempt (r.attempts.length + 1) p b (clockReading t)] }) t) :=
    onDrumState_of_eq (by simp [startAttempt, enterCarrying]) (by simp [startAttempt, enterCarrying])
  rw [e, onDrumState_modRec, if_pos hs]
  obtain ⟨r, hr⟩ := Option.isSome_iff_exists.1 hr
  simp [hr]

theorem startAttempt_links {t : State} (slot : Nat) (p : PortId) (b : Bool) (hs : t.pics.onDrum = some slot)
    (hr : (t.rec? slot).isSome = true) (hf : t.sender.state = .free) (hi : (t.port p).isIdle = true) (h : Links t) :
    Links (startAttempt slot p b t) := by
  have hprog : attemptInProgress (startAttempt slot p b t) = true := by
    unfold attemptInProgress
    rw [startAttempt_onDrumState slot p b hs hr]
    rfl
  have hsd := startAttempt_sender slot p b t
  have hok : ∀ q, PortOk ((startAttempt slot p b t).port q) := fun q => by
    obtain ⟨e1, e2, e3⟩ := startAttempt_port slot p q b t
    obtain ⟨f1, f2, f3⟩ := enterCarrying_port p q t
    have k := enterCarrying_ok p (portOk h) hi q
    exact ⟨by rw [e2, ← f2]; exact k.1, by rw [e1, e2, ← f1, ← f2]; exact k.2, by rw [e1, e3, ← f1, ← f3]; exact k.3⟩
  refine { portA := hok .a, portB := hok .b, carries := fun q => ?_, attempt := ?_,
           scanner := fun _ => hprog, head := fun _ => hprog, cadence := ?_, law := ?_, flushed := ?_ }
  · rw [(startAttempt_port slot p q b t).1, hsd]
    have := none_carrying h (by rw [hf]; rfl) q
    by_cases hq : q = p
    · simp [hq, senderStarted, SenderState.online]
    · have hq' : ¬ p = q := fun e => hq e.symm
      simp [hq, hq', this, senderStarted]
  · rw [hprog, hsd]; rfl
  · rw [hsd]; exact fun hn => nomatch hn
  · rw [startAttempt_store]; exact fun _ => rfl
  · rw [startAttempt_store]; exact fun _ => rfl

theorem attemptStart_links {t : State} (h : Links t) : Links (attemptStart t) := by
  unfold attemptStart
  split
  · rename_i hr
    simp only [attemptReady, Bool.and_eq_true, decide_eq_true_eq] at hr
    split
    · rename_i slot p sub hs hc
      have h2 := hr.2
      rw [hc] at h2
      refine startAttempt_links slot p sub hs ?_ hr.1.2 h2 h
      have hst := hr.1.1.1.1.1
      rw [onDrumState_of hs] at hst
      cases hq : t.rec? slot with
      | none => rw [hq] at hst; cases hst
      | some r => rfl
    · exact h
  · exact h

theorem startToneExpiry_links {t : State} (h : Links t) : Links (startToneExpiry t) := by
  unfold startToneExpiry
  dsimp only
  split
  · rename_i hc
    have hoff : t.sender.cadenceOn ≠ true := fun hn => by
      have := h.cadence hn
      rw [hc.1] at this
      cases this
    have hprog : attemptInProgress t = true := by rw [h.attempt, hc.1]; rfl
    have key : Links (t.setSender { t.sender with state := .prefill, stageTimer := none }) := by
      refine setSender_links _ (fun h => ⟨fun p => ?_, ?_, fun hn => absurd hn hoff⟩) h
      · rw [h.carries p, hc.1]; rfl
      · rw [h.attempt, hc.1]; rfl
    split
    · exact setScan_links _ (fun _ _ => hprog) key
    · exact key
  · exact h

theorem underrun_links {t : State} (h : Links t) : Links (underrun t) := by
  unfold underrun
  dsimp only
  split
  · exact modOnDrum_links _ (fun _ => rfl) (setStore_links _ (fun h => ⟨h.law, h.flushed⟩)
      (setStore_links _ (fun h => ⟨h.law, h.flushed⟩) h))
  · exact setStore_links _ (fun h => ⟨h.law, h.flushed⟩) h

theorem stageAfter_class (st : SenderState) (k : EntryKind) :
    (stageAfter st k).online = st.online ∧ (stageAfter st k).sendingAttempt = st.sendingAttempt ∧
      (stageAfter st k).paced = st.paced := by
  cases st <;> cases k <;> exact ⟨rfl, rfl, rfl⟩

theorem takeEntry_links {t : State} (h : Links t) : Links (takeEntry t) := by
  unfold takeEntry
  split
  · rename_i e rest he
    obtain ⟨c1, c2, c3⟩ := stageAfter_class t.sender.state e.kind
    refine setSender_links _ (fun h => ⟨fun p => ?_, ?_, ?_⟩) (setStore_links _ (fun h => ?_) h)
    rotate_right
    · refine ⟨fun hlt => ?_, h.flushed⟩
      have hlt : t.store.accepted < 4294967295 := hlt
      have hl := h.law hlt
      have hs : satInc 4294967295 t.store.sent = t.store.sent + 1 := by
        unfold satInc
        rw [if_pos (by omega)]
      rw [he] at hl
      simp only [List.length_cons] at hl
      dsimp only
      rw [hs, hl]
      omega
    · rw [h.carries p]
      show _ ↔ t.sender.port = some p ∧ (stageAfter t.sender.state e.kind).online = true
      rw [c1]; rfl
    · show _ = (stageAfter t.sender.state e.kind).sendingAttempt
      rw [c2]; exact h.attempt
    · show t.sender.cadenceOn = true → (stageAfter t.sender.state e.kind).paced = true
      rw [c3]; exact h.cadence
  · split
    · split
      · exact attemptEnd_links _ (by simp) h
      · exact h
    · exact underrun_links h

theorem cadenceEvent_links {t : State} (h : Links t) : Links (cadenceEvent t) := by
  unfold cadenceEvent
  try dsimp only
  with_reducible repeat' (first | assumption | apply setSender_links | apply takeEntry_links | split)
  all_goals first | exact fun h => ⟨h.carries, h.attempt, h.cadence⟩

/-- The ports after one of them left CARRYING. -/
theorem leaveCarrying_port (p q : PortId) (a : Activity) (t : State) :
    ((leaveCarrying p a t).port q).activity = (if q = p then a else (t.port q).activity) ∧
      ((leaveCarrying p a t).port q).list = (t.port q).list ∧
      ((leaveCarrying p a t).port q).cause = (t.port q).cause := by
  unfold leaveCarrying
  dsimp only
  have key : ∀ u : State, (applyLine p u).port q = u.port q := fun u =>
    (applyLine_only (ps := [.tables]) p (by decide) (Only.refl _ u)).port q (by cases q <;> decide)
  rw [key]
  cases p <;> cases q <;> exact ⟨rfl, rfl, rfl⟩

theorem leaveCarrying_rest (p : PortId) (a : Activity) (t : State) : Only [portPart p, .tables] t (leaveCarrying p a t) :=
  leaveCarrying_only p a (by simp) (by simp) (Only.refl _ t)

/-- A port that leaves CARRYING with its list empty, for IDLE: a port as it should be. -/
theorem leaveCarrying_ok {t : State} (p : PortId) (hp : ∀ q, PortOk (t.port q)) (hl : (t.port p).list = []) (q : PortId) :
    PortOk ((leaveCarrying p .idle t).port q) := by
  obtain ⟨h1, h2, h3⟩ := leaveCarrying_port p q .idle t
  by_cases hq : q = p
  · subst hq
    rw [if_pos rfl] at h1
    exact ⟨by rw [h2]; exact (hp q).1, fun _ => by rw [h2]; exact hl, fun hc => by rw [h1] at hc; cases hc⟩
  · rw [if_neg hq] at h1
    exact ⟨by rw [h2]; exact (hp q).1, by rw [h1, h2]; exact (hp q).2, by rw [h1, h3]; exact (hp q).3⟩

/-- The sender off the line and no port CARRYING: what ties an attempt's blocks holds when no attempt is in progress. -/
theorem links_off {t : State} (hp : ∀ q, PortOk (t.port q)) (hn : ∀ q, (t.port q).activity ≠ .carrying)
    (hs : t.sender.state = .free ∨ t.sender.state = .doneOut) (ha : attemptInProgress t = false)
    (hsc : t.scan.state = .idle) (hh : t.head.state ≠ .scanning) (hc : t.sender.cadenceOn = false)
    (hlaw : StoreLaw t.store) : Links t := by
  refine { portA := hp .a, portB := hp .b, carries := fun q => ?_, attempt := ?_, scanner := fun h => absurd hsc h,
           head := fun h => absurd h hh, cadence := fun h => by (rw [hc] at h; cases h), law := hlaw,
           flushed := fun h => by (rw [ha] at h; cases h) }
  · constructor
    · exact fun h => absurd h (hn q)
    · rintro ⟨_, h⟩
      rcases hs with hs | hs <;> rw [hs] at h <;> cases h
  · rcases hs with hs | hs <;> rw [ha, hs] <;> rfl

/-- With the sender in none of an attempt's states, the scanner is IDLE, the head not SCANNING. -/
theorem links_quiet {t : State} (h : Links t) (hs : t.sender.state.sendingAttempt = false) :
    attemptInProgress t = false ∧ t.scan.state = .idle ∧ t.head.state ≠ .scanning := by
  have ha : attemptInProgress t = false := h.attempt.trans hs
  refine ⟨ha, ?_, fun hh => ?_⟩
  · by_contra hn
    have := h.scanner hn
    rw [ha] at this
    cases this
  · have := h.head hh
    rw [ha] at this
    cases this

theorem cadence_off {t : State} (h : Links t) (hs : t.sender.state.paced = false) : t.sender.cadenceOn = false := by
  cases hc : t.sender.cadenceOn with
  | false => rfl
  | true =>
    have := h.cadence hc
    rw [hs] at this
    cases this

/-- Only the attached port carries, so once it has left CARRYING none does. -/
theorem leaveCarrying_none {t : State} (h : Links t) {p : PortId} {a : Activity} (ha : a ≠ .carrying)
    (hp : t.sender.port = some p) (q : PortId) : ((leaveCarrying p a t).port q).activity ≠ .carrying := by
  rw [(leaveCarrying_port p q a t).1]
  split
  · exact ha
  · rename_i hq
    intro hc
    have := ((h.carries q).1 hc).1
    rw [hp] at this
    exact hq (Option.some.inj this).symm

theorem startReports_links {t : State} (h : Links t) : Links (startReports t) := by
  unfold startReports
  try dsimp only
  with_reducible repeat' (first | assumption | apply reportStart_links | split)

theorem stopToneExpiry_links {t : State} (h : Links t) : Links (stopToneExpiry t) := by
  unfold stopToneExpiry
  split
  · rename_i hst
    split
    · exact h
    · rename_i p hp
      obtain ⟨ha, hsc, hh⟩ := links_quiet h (by rw [hst.1]; rfl)
      have hoff := cadence_off h (by rw [hst.1]; rfl)
      have hcar : (t.port p).activity = .carrying := (h.carries p).2 ⟨hp, by rw [hst.1]; rfl⟩
      have hl : (t.port p).list = [] := (portOk h p).2 (Or.inr hcar)
      dsimp only
      split
      · have k := leaveCarrying_rest p .idle t
        refine links_off (fun q => ?_) (fun q => ?_) (Or.inl rfl) ?_ ?_ ?_ ?_ ?_
        · exact (show ((leaveCarrying p .idle t).port q) = _ from by cases q <;> rfl) ▸ leaveCarrying_ok p (portOk h) hl q
        · have := leaveCarrying_none h (a := .idle) (by simp) hp q
          cases q <;> exact this
        · exact (attemptInProgress_congr (k.pics (by cases p <;> decide))).trans ha
        · exact (congrArg Scanner.state (k.scan (by cases p <;> decide))).trans hsc
        · exact fun hx => hh ((congrArg Head.state (k.head (by cases p <;> decide))).symm.trans hx)
        · exact (congrArg Sender.cadenceOn (k.sender (by cases p <;> decide))).trans hoff
        · exact (congrArg StoreLaw (k.store (by cases p <;> decide))).mpr h.law
      · have k := leaveCarrying_rest p .reporting t
        have hlp := leaveCarrying_port p
        refine startReports_links (links_off (fun q => ?_) (fun q => ?_) (Or.inr rfl) ?_ ?_ ?_ ?_ ?_)
        · by_cases hq : q = p
          · subst hq
            obtain ⟨h1, h2, h3⟩ := hlp q .reporting t
            rw [if_pos rfl] at h1
            rw [hl] at h2
            cases q
            · refine ⟨?_, ?_, ?_⟩
              · show ((leaveCarrying .a .reporting t).portA.list ++ _).length ≤ 8
                rw [show (leaveCarrying .a .reporting t).portA.list = [] from h2]; simp
              · rintro (hx | hx) <;> exact absurd (h1.symm.trans hx) (by simp)
              · exact fun hx => absurd (h1.symm.trans hx) (by simp)
            · refine ⟨?_, ?_, ?_⟩
              · show ((leaveCarrying .b .reporting t).portB.list ++ _).length ≤ 8
                rw [show (leaveCarrying .b .reporting t).portB.list = [] from h2]; simp
              · rintro (hx | hx) <;> exact absurd (h1.symm.trans hx) (by simp)
              · exact fun hx => absurd (h1.symm.trans hx) (by simp)
          · obtain ⟨h1, h2, h3⟩ := hlp q .reporting t
            rw [if_neg hq] at h1
            have hok : PortOk ((leaveCarrying p .reporting t).port q) :=
              ⟨by rw [h2]; exact (portOk h q).1, by rw [h1, h2]; exact (portOk h q).2,
                by rw [h1, h3]; exact (portOk h q).3⟩
            cases p <;> cases q <;> first | exact absurd rfl hq | exact hok
        · have := leaveCarrying_none h (a := .reporting) (by simp) hp q
          cases p <;> cases q <;> exact this
        · exact (attemptInProgress_congr (t := State.setSender _ _) (s := t)
            (by cases p <;> exact k.pics (by decide))).trans ha
        · cases p <;> exact (congrArg Scanner.state (k.scan (by decide))).trans hsc
        · cases p <;> exact fun hx => hh ((congrArg Head.state (k.head (by decide))).symm.trans hx)
        · cases p <;> exact (congrArg Sender.cadenceOn (k.sender (by decide))).trans hoff
        · have e := k.store (by cases p <;> decide)
          cases p <;> exact (congrArg StoreLaw e).mpr h.law
  · exact h

theorem lineupStart_links {t : State} (h : Links t) : Links (lineupStart t) := by
  unfold lineupStart
  split
  · rename_i hr
    simp only [lineupReady, Bool.and_eq_true, decide_eq_true_eq] at hr
    split
    · rename_i p hq
      have hi := hr.2
      rw [hq] at hi
      obtain ⟨ha, hsc, hh⟩ := links_quiet h (by rw [hr.1]; rfl)
      have hoff := cadence_off h (by rw [hr.1]; rfl)
      have hok := enterCarrying_ok p (portOk h) hi
      have hn := none_carrying h (by rw [hr.1]; rfl)
      refine { portA := ?_, portB := ?_, carries := fun q => ?_, attempt := ?_, scanner := ?_, head := ?_, cadence := ?_,
               law := ?_, flushed := ?_ }
      · have := hok .a; cases p <;> exact this
      · have := hok .b; cases p <;> exact this
      · have hact := (enterCarrying_port p q t).1
        have hnq := hn q
        have e : ∀ u : Sender, ((enterCarrying p (t.setSender u)).port q).activity =
            ((enterCarrying p t).port q).activity := by intro u; cases p <;> cases q <;> rfl
        rw [e, hact]
        cases p <;> cases q <;>
          simp [enterCarrying, State.setPort, State.setSender, SenderState.online] <;> first | exact hnq
      · have e : ∀ u : Sender, attemptInProgress (enterCarrying p (t.setSender u)) = attemptInProgress t := by
          intro u; cases p <;> rfl
        rw [e, ha]; cases p <;> rfl
      · cases p <;> exact fun hx => absurd hsc hx
      · cases p <;> exact fun hx => absurd hx hh
      · cases p <;> exact fun hx => absurd (hoff.symm.trans hx) (by simp)
      · cases p <;> exact h.law
      · have e : ∀ u : Sender, attemptInProgress (enterCarrying p (t.setSender u)) = attemptInProgress t := by
          intro u; cases p <;> rfl
        rw [e, ha]
        exact fun hn => nomatch hn
    · exact h
  · exact h

theorem lineupWhiteExpiry_links {t : State} (h : Links t) : Links (lineupWhiteExpiry t) := by
  unfold lineupWhiteExpiry
  split
  · rename_i hc
    have hoff := cadence_off h (by rw [hc.1]; rfl)
    refine setSender_links _ (fun h => ⟨fun p => ?_, ?_, fun hn => absurd hn (by simp [hoff])⟩) h
    · rw [h.carries p, hc.1]; rfl
    · rw [h.attempt, hc.1]; rfl
  · exact h

/-- The end of a line-up, by its timer, by RESTART, or by the LOOP fault that has already taken the port out of CARRYING
(R98); only what carries is left open before. -/
theorem endLineup_off {t : State} (hp : ∀ q, PortOk (t.port q))
    (hc : ∀ q, (t.port q).activity = .carrying → t.sender.port = some q) (ha : attemptInProgress t = false)
    (hsc : t.scan.state = .idle) (hh : t.head.state ≠ .scanning) (hoff : t.sender.cadenceOn = false)
    (hlaw : StoreLaw t.store) :
    Links (endLineup t) := by
  unfold endLineup
  dsimp only
  cases hs : t.sender.port with
  | none =>
    dsimp only
    refine links_off (fun q => ?_) (fun q hx => ?_) (Or.inl rfl) ha hsc hh hoff hlaw
    · have := hp q; cases q <;> exact this
    · have := hc q (by cases q <;> exact hx)
      rw [hs] at this
      cases this
  | some p =>
    dsimp only
    split
    · rename_i hcar
      have k := leaveCarrying_rest p .idle t
      refine links_off (fun q => ?_) (fun q => ?_) (Or.inl rfl) ?_ ?_ ?_ ?_ ?_
      · have := leaveCarrying_ok p hp ((hp p).2 (Or.inr hcar)) q
        cases q <;> exact this
      · have e : ((leaveCarrying p .idle t).port q).activity ≠ .carrying := by
          rw [(leaveCarrying_port p q .idle t).1]
          split
          · simp
          · rename_i hq
            intro hx
            have := hc q hx
            rw [hs] at this
            exact hq (Option.some.inj this).symm
        cases q <;> exact e
      · exact (attemptInProgress_congr (k.pics (by cases p <;> decide))).trans ha
      · exact (congrArg Scanner.state (k.scan (by cases p <;> decide))).trans hsc
      · exact fun hx => hh ((congrArg Head.state (k.head (by cases p <;> decide))).symm.trans hx)
      · exact (congrArg Sender.cadenceOn (k.sender (by cases p <;> decide))).trans hoff
      · exact (congrArg StoreLaw (k.store (by cases p <;> decide))).mpr hlaw
    · rename_i hcar
      refine links_off (fun q => ?_) (fun q hx => ?_) (Or.inl rfl) ha hsc hh hoff hlaw
      · have := hp q; cases q <;> exact this
      · have hx' : (t.port q).activity = .carrying := by cases q <;> exact hx
        have := hc q hx'
        rw [hs] at this
        rw [← Option.some.inj this] at hx'
        exact hcar hx'

theorem endLineup_links {t : State} (hl : t.sender.state.inLineup = true) (h : Links t) : Links (endLineup t) := by
  have hs : t.sender.state.sendingAttempt = false ∧ t.sender.state.paced = false := by
    cases hst : t.sender.state <;> rw [hst] at hl <;> first | exact ⟨rfl, rfl⟩ | cases hl
  obtain ⟨ha, hsc, hh⟩ := links_quiet h hs.1
  exact endLineup_off (portOk h) (fun q hx => ((h.carries q).1 hx).1) ha hsc hh (cadence_off h hs.2) h.law

theorem lineupBlackExpiry_links {t : State} (h : Links t) : Links (lineupBlackExpiry t) := by
  unfold lineupBlackExpiry
  split
  · rename_i hc
    exact endLineup_links (by rw [hc.1]; rfl) h
  · exact h

theorem loopCurrentLost_links {t : State} (p : PortId) (h : Links t) : Links (loopCurrentLost p t) := by
  unfold loopCurrentLost
  try dsimp only
  with_reducible repeat' (first | assumption | apply setPort_links | split)
  all_goals first | exact fun h => ⟨⟨(portOk h _).1, (portOk h _).2, (portOk h _).3⟩, Iff.rfl⟩

theorem loopCurrentReturn_links {t : State} (p : PortId) (h : Links t) : Links (loopCurrentReturn p t) := by
  unfold loopCurrentReturn
  try dsimp only
  with_reducible repeat' (first | assumption | apply setPort_links)
  all_goals first | exact fun h => ⟨⟨(portOk h _).1, (portOk h _).2, (portOk h _).3⟩, Iff.rfl⟩

theorem loopLossExpiry_links {t : State} (p : PortId) (h : Links t) : Links (loopLossExpiry p t) := by
  unfold loopLossExpiry
  split
  · rename_i hc
    obtain ⟨hsp, hon⟩ := (h.carries p).1 hc.1
    have hl : (t.port p).list = [] := (portOk h p).2 (Or.inr hc.1)
    have e1 : ∀ q, (((t.setPort p { t.port p with cause := .loop }).port q).activity = (t.port q).activity ∧
        ((t.setPort p { t.port p with cause := .loop }).port q).list = (t.port q).list) ∧
        (q ≠ p → ((t.setPort p { t.port p with cause := .loop }).port q).cause = (t.port q).cause) := by
      intro q; cases p <;> cases q <;> simp [State.setPort, State.port]
    have k0 : Only [portPart p] t (t.setPort p { t.port p with cause := .loop }) :=
      setPort_only p _ (by simp) (Only.refl _ t)
    have k1 := leaveCarrying_rest p .idle (t.setPort p { t.port p with cause := .loop })
    have lp := leaveCarrying_port p
    have hok : ∀ q, PortOk ((leaveCarrying p .idle (t.setPort p { t.port p with cause := .loop })).port q) ∧
        ((leaveCarrying p .idle (t.setPort p { t.port p with cause := .loop })).port q).activity ≠ .carrying := by
      intro q
      obtain ⟨a1, a2, a3⟩ := lp q .idle (t.setPort p { t.port p with cause := .loop })
      obtain ⟨⟨b1, b2⟩, b3⟩ := e1 q
      rw [b1] at a1
      rw [b2] at a2
      by_cases hq : q = p
      · subst hq
        rw [if_pos rfl] at a1
        rw [a1]
        exact ⟨⟨by rw [a2]; exact (portOk h q).1, fun _ => by rw [a2]; exact hl,
          fun hx => by rw [a1] at hx; cases hx⟩, by simp⟩
      · rw [if_neg hq] at a1
        rw [b3 hq] at a3
        refine ⟨⟨by rw [a2]; exact (portOk h q).1, by rw [a1, a2]; exact (portOk h q).2,
          by rw [a1, a3]; exact (portOk h q).3⟩, ?_⟩
        rw [a1]
        intro hx
        have := ((h.carries q).1 hx).1
        rw [hsp] at this
        exact hq (Option.some.inj this).symm
    have hpics := (k1.pics (by cases p <;> decide)).trans (k0.pics (by cases p <;> decide))
    have hscan := (k1.scan (by cases p <;> decide)).trans (k0.scan (by cases p <;> decide))
    have hhead := (k1.head (by cases p <;> decide)).trans (k0.head (by cases p <;> decide))
    have hsend := (k1.sender (by cases p <;> decide)).trans (k0.sender (by cases p <;> decide))
    have hstore := (k1.store (by cases p <;> decide)).trans (k0.store (by cases p <;> decide))
    generalize hu : leaveCarrying p .idle (t.setPort p { t.port p with cause := .loop }) = u at *
    have hprog : attemptInProgress u = t.sender.state.sendingAttempt :=
      (attemptInProgress_congr hpics).trans h.attempt
    have hnone : ∀ q, (u.port q).activity = .carrying → u.sender.port = some q := fun q hx => absurd hx (hok q).2
    unfold senderLoopFault
    rw [hsend]
    split
    · rename_i hs
      refine attemptEnd_line_links (hprog.trans hs) ((congrArg StoreLaw hstore).mpr h.law) ?_ hok
      rw [hstore]
      exact h.flushed (h.attempt.trans hs)
    · rename_i hs
      have hs : t.sender.state.sendingAttempt = false := by simpa using hs
      obtain ⟨ha, hsc, hh⟩ := links_quiet h hs
      split
      · rename_i hst
        have hoff := cadence_off h (by rw [hst]; rfl)
        refine links_off (fun q => ?_) (fun q => ?_) (Or.inl rfl) (hprog.trans hs) ?_ ?_ hoff
          ((congrArg StoreLaw hstore).mpr h.law)
        · have := (hok q).1; cases q <;> exact this
        · have := (hok q).2; cases q <;> exact this
        · exact (congrArg Scanner.state hscan).trans hsc
        · exact fun hx => hh ((congrArg Head.state hhead).symm.trans hx)
      · rename_i hst
        have hp0 : t.sender.state.paced = false := by
          cases hx : t.sender.state <;> rw [hx] at hs <;> first | rfl | cases hs
        split
        · exact endLineup_off (fun q => (hok q).1) hnone (hprog.trans hs)
            ((congrArg Scanner.state hscan).trans hsc)
            (fun hx => hh ((congrArg Head.state hhead).symm.trans hx)) (by rw [hsend]; exact cadence_off h hp0)
            ((congrArg StoreLaw hstore).mpr h.law)
        · rename_i hlu
          exfalso
          cases hx : t.sender.state <;> rw [hx] at hs hst hlu hon <;>
            first | cases hs; done | exact hst rfl | exact hlu rfl | cases hon
  · exact h

theorem breakTonePresent_links {t : State} (p : PortId) (h : Links t) : Links (breakTonePresent p t) := by
  unfold breakTonePresent
  try dsimp only
  with_reducible repeat' (first | assumption | apply setPort_links | split)
  all_goals first | exact fun h => ⟨⟨(portOk h _).1, (portOk h _).2, (portOk h _).3⟩, Iff.rfl⟩

theorem breakToneAbsent_links {t : State} (p : PortId) (h : Links t) : Links (breakToneAbsent p t) := by
  unfold breakToneAbsent
  try dsimp only
  with_reducible repeat' (first | assumption | apply setPort_links)
  all_goals first | exact fun h => ⟨⟨(portOk h _).1, (portOk h _).2, (portOk h _).3⟩, Iff.rfl⟩

theorem breakExpiry_links {t : State} (p : PortId) (h : Links t) : Links (breakExpiry p t) := by
  unfold breakExpiry
  split
  · exact attemptEnd_links _ (by simp) (setPort_same_links p _ rfl rfl rfl h)
  · exact h

theorem receptionStart_links {t : State} (p : PortId) (marks : Nat) (h : Links t) : Links (receptionStart p marks t)
    := by
  unfold receptionStart
  dsimp only
  split
  · split
    · exact setPort_links _ _ (fun h => ⟨⟨(portOk h _).1, (portOk h _).2, (portOk h _).3⟩, Iff.rfl⟩) h
    · exact startReports_links
        (setPort_links _ _ (fun h => ⟨⟨(portOk h _).1, (portOk h _).2, (portOk h _).3⟩, Iff.rfl⟩) h)
  · exact h

theorem syncFailed_links {t : State} (p : PortId) (h : Links t) : Links (syncFailed p t) := by
  unfold syncFailed
  try dsimp only
  with_reducible repeat' (first | assumption | apply setPort_links | split)
  all_goals first | exact fun h => ⟨⟨(portOk h _).1, (portOk h _).2, (portOk h _).3⟩, Iff.rfl⟩

theorem blockError_links {t : State} (p : PortId) (h : Links t) : Links (blockError p t) := by
  unfold blockError
  try dsimp only
  with_reducible repeat' (first | assumption | apply setPort_links | split)
  all_goals first | exact fun h => ⟨⟨(portOk h _).1, (portOk h _).2, (portOk h _).3⟩, Iff.rfl⟩

theorem turnaroundExpiry_links {t : State} (p : PortId) (h : Links t) : Links (turnaroundExpiry p t) := by
  unfold turnaroundExpiry
  try dsimp only
  with_reducible repeat' (first | assumption | apply setPort_links | apply startReports_links | split)
  all_goals first | exact fun h => ⟨⟨(portOk h _).1, (portOk h _).2, (portOk h _).3⟩, Iff.rfl⟩

theorem endReport_links {t : State} (p : PortId) (good : Bool) (h : Links t) : Links (endReport p good t) := by
  unfold endReport
  dsimp only
  split
  · rename_i hr
    have hlen : (reportEnded good (t.port p)).list = (t.port p).list.tail := by
      unfold reportEnded echoCounted
      dsimp only
      split <;> rfl
    have hact : (reportEnded good (t.port p)).activity =
        (if (t.port p).list.tail = [] then Activity.idle else .answerDue) := by
      unfold reportEnded echoCounted
      dsimp only
      split <;> rfl
    have hnc : (reportEnded good (t.port p)).activity ≠ .carrying := by
      rw [hact]; split <;> simp
    have key : Links (t.setPort p (reportEnded good (t.port p))) := by
      refine setPort_links p _ (fun h => ⟨⟨?_, ?_, ?_⟩, ?_⟩) h
      · rw [hlen, List.length_tail]
        have := (portOk h p).1
        omega
      · rw [hact, hlen]
        split
        · rename_i ht; exact fun _ => ht
        · simp
      · exact fun hx => absurd hx hnc
      · rw [hr]; simp [hnc]
    split
    · rename_i hd
      refine setSender_links _ (fun h => ⟨fun q => ?_, ?_, ?_⟩) key
      · constructor
        · intro hx
          have := ((h.carries q).1 hx).2
          rw [hd.1] at this
          cases this
        · rintro ⟨hx, _⟩; cases hx
      · rw [h.attempt, hd.1]; rfl
      · intro hx
        have := h.cadence hx
        rw [hd.1] at this
        cases this
    · exact key
  · exact h

theorem echoFailure_links {t : State} (p : PortId) (echoes : List Echo) (h : Links t) : Links (echoFailure p echoes t) := by
  unfold echoFailure
  split
  · exact endReport_links _ _ h
  · exact h

theorem reportEnd_links {t : State} (p : PortId) (echoes : List Echo) (h : Links t) : Links (reportEnd p echoes t) :=
  endReport_links _ _ h

theorem lapseEval_links {t : State} (s0 : State) (h : Links t) : Links (lapseEval s0 t) := by
  unfold lapseEval
  try dsimp only
  with_reducible repeat' (first | assumption | apply setSender_links | split)
  all_goals first | exact fun h => ⟨h.carries, h.attempt, h.cadence⟩

theorem portFailEval_links {t : State} (s0 : State) (h : Links t) : Links (portFailEval s0 t) := by
  unfold portFailEval
  split
  · rename_i slot ho
    split
    · rename_i hc
      refine finishRecord_links _ _ _ (fun r hr => ?_) h
      have := hc.1
      simp only [noPortLeft, Bool.and_eq_true, decide_eq_true_eq] at this
      rw [onDrumState_of ho, hr] at this
      rw [show r.state = .granted from this.2]
      simp
    · exact h
  · exact h

theorem attemptEval_links {t : State} (s0 : State) (h : Links t) : Links (attemptEval s0 t) := by
  unfold attemptEval
  with_reducible repeat' (first | assumption | apply attemptStart_links | split)

theorem lineupEval_links {t : State} (s0 : State) (h : Links t) : Links (lineupEval s0 t) := by
  unfold lineupEval
  with_reducible repeat' (first | assumption | apply lineupStart_links | split)

theorem settle_links {t : State} (s0 : State) (h : Links t) : Links (settle s0 t) := by
  unfold settle
  try dsimp only
  with_reducible repeat'
    first
    | assumption | apply portFailEval_links | apply lapseEval_links | apply drumEval_links
    | apply standardEval_links | apply lampEval_links | apply headEval_links
    | apply attemptEval_links | apply lineupEval_links

theorem placeLoad_links {t : State} (c : LoadContent) (h : Links t) : Links (placeLoad c t) := by
  unfold placeLoad
  try dsimp only
  with_reducible repeat'
    first
    | assumption | apply setTables_links | apply takeDrumProfile_links | apply takeLineProfile_links
    | split

theorem countLoad_links {t : State} (k : TableKind) (h : Links t) : Links (countLoad k t) := by
  unfold countLoad
  try dsimp only
  with_reducible repeat' (first | assumption | apply setTables_links)

theorem loadTable_links {t : State} (k : TableKind) (i : Nat) (c : List Byte) (h : Links t) : Links (loadTable k i c
    t).1 := by
  unfold loadTable
  try dsimp only
  with_reducible repeat' (first | assumption | apply countLoad_links | apply placeLoad_links | split)

theorem ownPoll_links {t : State} (o : Order) (h : Links t) : Links (ownPoll o t).1 := by
  unfold ownPoll
  try dsimp only
  with_reducible repeat' (first | assumption)

theorem judgeGrant_links {t : State} (slot : Nat) (r : PicRecord) (number : Nat) (g : Grant)
    (hr : t.rec? slot = some r) (hn : r.state ≠ .sending) (h : Links t) : Links (judgeGrant slot r number g t).1 := by
  unfold judgeGrant
  repeat' split
  all_goals first | exact h | skip
  · exact modRec_links _ _ (fun _ _ => Iff.rfl) h
  · refine modRec_links _ _ (fun q hq => ?_) h
    obtain rfl : r = q := Option.some.inj (hr.symm.trans hq)
    simp [grantLoaded, hn]

theorem grantOnDrum_links {t : State} (number : Nat) (g : Grant) (h : Links t) : Links (grantOnDrum number g t).1 := by
  unfold grantOnDrum
  split
  · rename_i slot r hs hr
    have hq : t.rec? slot = some r := by simpa [onDrumRec, hs] using hr
    split
    · exact h
    · exact h
    · exact h
    · exact h
    · rename_i hst
      repeat' split
      all_goals first | exact h | exact judgeGrant_links _ _ _ _ hq (by rw [hst]; simp) h
    · rename_i hst
      exact judgeGrant_links _ _ _ _ hq (by rw [hst]; simp) h
  · exact h

theorem ownGrant_links {t : State} (o : Order) (h : Links t) : Links (ownGrant o t).1 := by
  unfold ownGrant
  repeat' split
  all_goals first | exact h | exact grantOnDrum_links _ _ h

theorem recD_state {t : State} {slot : Nat} {x : RecState} (h : ((t.rec? slot).getD recEmpty).state = x)
    (hx : x ≠ .sending) : ∀ r, t.rec? slot = some r → r.state ≠ .sending := by
  intro r hr
  rw [hr, Option.getD_some] at h
  rw [h]
  exact hx

theorem ownCancel_links {t : State} (o : Order) (h : Links t) : Links (ownCancel o t).1 := by
  unfold ownCancel
  split
  · exact h
  · split
    · exact attemptEnd_links _ (by simp) h
    · exact finishRecord_links _ _ _ (recD_state ‹_› (by simp)) h
    · exact finishRecord_links _ _ _ (recD_state ‹_› (by simp)) h
    all_goals exact h

theorem resolve_links {t : State} (slot : Nat) (hn : ∀ r, t.rec? slot = some r → r.state ≠ .sending) (h : Links t) :
    Links (resolve slot t) := by
  unfold resolve
  dsimp only
  repeat' split
  all_goals first | exact grantAgain_links _ hn h | exact finishRecord_links _ _ _ hn h

theorem mergeItem_state (m : Merge) (i : Nat × Nat) : (mergeItem m i).record.state = m.record.state := by
  unfold mergeItem mergeValid dropItem
  dsimp only
  repeat' split
  all_goals rfl

theorem mergeAll_state (items : List (Nat × Nat)) (r : PicRecord) : (mergeAll items r).record.state = r.state := by
  have key : ∀ (l : List (Nat × Nat)) (m : Merge), (l.foldl mergeItem m).record.state = m.record.state := by
    intro l
    induction l with
    | nil => exact fun _ => rfl
    | cons i l ih => exact fun m => (ih _).trans (mergeItem_state m i)
  exact key items _

theorem rec?_modRec (i : Nat) (f : PicRecord → PicRecord) (t : State) :
    (modRec i f t).rec? i = (t.rec? i).map f := by
  simp [modRec, State.rec?]

theorem ownReceipt_links {t : State} (o : Order) (h : Links t) : Links (ownReceipt o t).1 := by
  unfold ownReceipt
  split
  · exact h
  · rename_i slot _
    dsimp only
    have hst := mergeAll_state (receiptPairs o.payload) ((t.rec? slot).getD recEmpty)
    have key : Links (modRec slot
        (fun _ => (mergeAll (receiptPairs o.payload) ((t.rec? slot).getD recEmpty)).record) t) :=
      modRec_links _ _ (fun r hr => by rw [hst, hr, Option.getD_some]) h
    split
    · exact h
    · exact key
    · rename_i ha
      split
      · exact key
      · refine resolve_links _ (fun r hr => ?_) key
        rw [rec?_modRec] at hr
        cases hq : t.rec? slot with
        | none => rw [hq] at hr; cases hr
        | some q =>
          rw [hq] at hr
          cases hr
          rw [hq] at hst ha
          rw [hst, ha]
          simp
    · split
      · exact requestSlip_links _ _ key
      · exact key
    all_goals exact h

theorem ownLoad_links {t : State} (o : Order) (h : Links t) : Links (ownLoad o t).1 := by
  unfold ownLoad
  split
  · exact h
  · split
    · rename_i k _ x u clamped he
      have := loadTable_links k (byteAt o.payload 1) (o.payload.drop 2) h
      rw [he] at this
      exact this
    · exact h
    · exact h

theorem ownClock_links {t : State} (o : Order) (h : Links t) : Links (ownClock o t).1 := by
  unfold ownClock
  try dsimp only
  with_reducible repeat' (first | assumption | apply setClock_links | split)

theorem ownLineup_links {t : State} (o : Order) (h : Links t) : Links (ownLineup o t).1 := by
  unfold ownLineup
  try dsimp only
  with_reducible repeat' (first | assumption | apply setSender_links | split)
  all_goals first | exact fun h => ⟨h.carries, h.attempt, h.cadence⟩

theorem clearPort_links {t : State} (named : Bool) (p : PortId) (h : Links t) : Links (clearPort named p t) := by
  unfold clearPort
  split
  · exact setPort_links p _ (fun h => ⟨⟨(portOk h p).1, (portOk h p).2, fun _ => rfl⟩, Iff.rfl⟩) h
  · exact h

theorem ownLineClear_links {t : State} (o : Order) (h : Links t) : Links (ownLineClear o t).1 := by
  unfold ownLineClear
  try dsimp only
  with_reducible repeat' (first | assumption | apply clearPort_links | split)

theorem ownMechClear_links {t : State} (o : Order) (h : Links t) : Links (ownMechClear o t).1 := by
  unfold ownMechClear
  split
  · exact mechClear_links ‹_› h
  · exact h

theorem ownSlip_links {t : State} (o : Order) (h : Links t) : Links (ownSlip o t).1 := by
  unfold ownSlip
  split
  · exact h
  · rename_i slot _
    have := requestSlip_links slot .reprint h
    split
    · split <;> rename_i he <;> rw [he] at this <;> first | exact h | exact this
    · exact h

theorem restartLineup_links {t : State} (h : Links t) : Links (restartLineup t) := by
  unfold restartLineup
  dsimp only
  split
  · exact setSender_links _ (fun h => ⟨h.carries, h.attempt, h.cadence⟩) (endLineup_links ‹_› h)
  · exact setSender_links _ (fun h => ⟨h.carries, h.attempt, h.cadence⟩) h

theorem portRestarted_portOk (keep : Bool) {x : Port} (h : PortOk x) :
    PortOk (portRestarted keep x) ∧ ((portRestarted keep x).activity = .carrying ↔ x.activity = .carrying) := by
  unfold portRestarted
  cases ha : x.activity <;> dsimp only
  · cases keep
    · exact ⟨⟨by simp [restartList, ha], fun _ => by simp [restartList, ha], by simp⟩, by simp⟩
    · exact ⟨⟨by simp [restartList, ha], by simp, by simp⟩, by simp⟩
  · cases keep
    · exact ⟨⟨by simp [restartList, ha], fun _ => by simp [restartList, ha], by simp⟩, by simp⟩
    · exact ⟨⟨by simp [restartList, ha], by simp, by simp⟩, by simp⟩
  · refine ⟨⟨?_, by simp, by simp⟩, by simp⟩
    cases keep <;> simp [restartList, ha]
  · exact ⟨⟨h.1, fun _ => h.2 (by simp [ha]), fun _ => h.3 (by simp [ha])⟩, by simp⟩

theorem restartAll_links {t : State} (own : Option PortId) (h : Links t) : Links (restartAll own t) := by
  have h1 := restartLineup_links (attemptEnd_links .restarted (by simp) (setOrders_links [] h))
  unfold restartAll
  dsimp only
  refine setDrum_links _ (setPort_links .b _ (fun h => portRestarted_portOk _ (portOk h .b)) ?_)
  exact setPort_links .a _ (fun h => portRestarted_portOk _ (portOk h .a)) h1

/-- A RESTART puts no port into CARRYING (R85). -/
theorem restartAll_port (own : Option PortId) (t : State) (p : PortId) (hp : (t.port p).activity ≠ .carrying) :
    ((restartAll own t).port p).activity ≠ .carrying := by
  have hr : ∀ (keep : Bool) (x : Port), x.activity ≠ .carrying → (portRestarted keep x).activity ≠ .carrying := by
    intro keep x hx
    unfold portRestarted
    cases ha : x.activity <;> dsimp only <;> first | exact absurd ha hx | (cases keep <;> simp)
  have hl : ∀ u : State, (u.port p).activity ≠ .carrying → ((restartLineup u).port p).activity ≠ .carrying := by
    intro u hu
    unfold restartLineup endLineup
    dsimp only
    split
    · cases hs : u.sender.port with
      | none => cases p <;> exact hu
      | some q =>
        dsimp only
        split
        · have := (leaveCarrying_port q p .idle u).1
          have h2 : ((leaveCarrying q .idle u).port p).activity ≠ .carrying := by
            rw [this]; split
            · simp
            · exact hu
          cases p <;> exact h2
        · cases p <;> exact hu
    · cases p <;> exact hu
  have h1 := hl (attemptEnd .restarted (t.setOrders [])) (by
    rw [attemptEnd_port]; cases p <;> exact hp)
  unfold restartAll
  dsimp only
  cases p
  · exact hr _ _ h1
  · exact hr _ _ h1

theorem ownRestart_links {t : State} (o : Order) (h : Links t) : Links (ownRestart o t).1 := by
  unfold ownRestart
  try dsimp only
  with_reducible repeat' (first | assumption | apply restartAll_links)

theorem replaceReservation_length (r : Report) (l : List RepItem) :
    (replaceReservation r l).length = l.length := by
  induction l with
  | nil => rfl
  | cons i l ih => cases i <;> simp [replaceReservation, ih]

theorem placeAnswer_links {t : State} (o : Order) (r : Report) (h : Links t) : Links (placeAnswer o r t) := by
  unfold placeAnswer
  dsimp only
  split
  · refine setPort_links _ _ (fun h => ⟨⟨?_, fun hx => ?_, (portOk h _).3⟩, Iff.rfl⟩) h
    · rw [replaceReservation_length]; exact (portOk h _).1
    · rw [(portOk h _).2 hx]; rfl
  · exact h

theorem answerAtOnce_links {t : State} (p : PortId) (r : Report) (hp : (t.port p).activity ≠ .carrying) (h : Links t) :
    Links (answerAtOnce p r t) := reportStart_links p (addItem_links p _ hp h)

theorem joinQueue_links {t : State} (o : Order) (hp : (t.port o.port).activity ≠ .carrying) (h : Links t) :
    Links (joinQueue o t) := by
  unfold joinQueue
  dsimp only
  split
  · exact setOrders_links _ h
  · exact addItem_links _ _ (by cases ho : o.port <;> rw [ho] at hp <;> exact hp) (setOrders_links _ h)

theorem takeAtFull_links {t : State} (o : Order) (hp : (t.port o.port).activity ≠ .carrying) (h : Links t) :
    Links (takeAtFull o t) := by
  unfold takeAtFull
  dsimp only
  split
  · split <;> exact answerAtOnce_links _ _ hp h
  · split
    · split
      · exact restartAll_links _ h
      · exact answerAtOnce_links _ _ (restartAll_port _ _ _ hp) (restartAll_links _ h)
    · split
      · exact h
      · exact answerAtOnce_links _ _ hp h
  · split
    · exact h
    · exact answerAtOnce_links _ _ hp h

theorem admission_links {t : State} (o : Order) (hp : (t.port o.port).activity ≠ .carrying) (h : Links t) :
    Links (admission o t) := by
  unfold admission
  split
  · exact joinQueue_links _ hp h
  · exact takeAtFull_links _ hp h

theorem takeBroadcast_links {t : State} (p : PortId) (b : Block) (hp : (t.port p).activity ≠ .carrying) (h : Links t) :
    Links (takeBroadcast p b t) := by
  unfold takeBroadcast
  split
  · exact h
  · split
    · exact admission_links _ hp h
    · exact h

theorem takeAddressed_links {t : State} (p : PortId) (b : Block) (hp : (t.port p).activity ≠ .carrying) (h : Links t) :
    Links (takeAddressed p b t) := by
  unfold takeAddressed
  split
  · exact answerAtOnce_links _ _ hp h
  · split
    · exact admission_links _ hp h
    · exact answerAtOnce_links _ _ hp h
    · exact answerAtOnce_links _ _ hp h

theorem takeGood_links {t : State} (p : PortId) (b : Block) (hp : (t.port p).activity ≠ .carrying) (h : Links t) :
    Links (takeGood p b t) := by
  unfold takeGood
  repeat' split
  all_goals first | exact h | exact takeBroadcast_links _ _ hp h | exact takeAddressed_links _ _ hp h

theorem blockTake_links {t : State} (p : PortId) (bytes : List Byte) (h : Links t) : Links (blockTake p bytes t) := by
  unfold blockTake
  dsimp only
  split
  · rename_i hc
    have hp : (t.port p).activity ≠ .carrying := by
      have := hc.1
      simp only [Port.decodes, decide_eq_true_eq] at this
      rcases this with e | e <;> rw [e] <;> simp
    split
    · exact setPort_same_links p _ rfl rfl rfl h
    · exact setPort_same_links p _ rfl rfl rfl h
    · exact setPort_same_links p _ rfl rfl rfl h
    · refine takeGood_links p _ ?_ (setPort_same_links p _ rfl rfl rfl h)
      cases p <;> exact hp
  · exact h

theorem panelTransmit_links {t : State} (h : Links t) : Links (panelTransmit t) := by
  unfold panelTransmit
  try dsimp only
  with_reducible repeat' (first | assumption | apply setPanel_links | split)

theorem markChanged_links {t : State} (old : PanelOut) (h : Links t) : Links (markChanged old t) := by
  unfold markChanged
  try dsimp only
  with_reducible repeat' (first | assumption | apply setPanel_links | split)

theorem panelRecordSent_links {t : State} (h : Links t) : Links (panelRecordSent t) := by
  unfold panelRecordSent
  try dsimp only
  with_reducible repeat' (first | assumption | apply setPanel_links | apply panelTransmit_links)

theorem giveNotice_links {t : State} (k : PanelKind) (n : Notice) (h : Links t) : Links (giveNotice k n t) := by
  unfold giveNotice
  try dsimp only
  with_reducible repeat' (first | assumption | apply setPanel_links)

theorem createRecord_links {t : State} (slot : Nat) (slug : List Byte) (lines : Nat) (hp : attemptInProgress t = false)
    (h : Links t) : Links (createRecord slot slug lines t) := by
  refine setPics_links _ ?_ h
  rw [hp]
  simp only [attemptInProgress, onDrumState, onDrumRec, State.rec?, State.setPics, Option.bind_some,
    List.getElem?_set_self']
  cases t.pics.records[slot]? <;> simp [newRecord]

theorem editRecord_links {t : State} (slug : List Byte) (lines : Nat) (h : Links t) : Links (editRecord slug lines t) :=
  modOnDrum_links _ (fun _ => rfl) h

theorem loadPhotograph_links {t : State} (lines : Nat) (slug : List Byte) (h : Links t) :
    Links (loadPhotograph lines slug t) := by
  unfold loadPhotograph
  repeat' split
  all_goals first | exact giveNotice_links _ _ h | exact editRecord_links _ _ h | skip
  refine createRecord_links _ _ _ ?_ h
  rename_i hn _ _ _ _ _
  simp only [attemptInProgress, decide_eq_false_iff_not]
  exact fun hx => hn (Or.inr (Or.inl hx))

theorem spinKey_links {t : State} (h : Links t) : Links (spinKey t) := by
  unfold spinKey
  try dsimp only
  with_reducible repeat' (first | assumption | apply setDrum_links | apply giveNotice_links | split)

theorem stopKey_links {t : State} (h : Links t) : Links (stopKey t) := by
  unfold stopKey
  try dsimp only
  with_reducible repeat' (first | assumption | apply setDrum_links | apply giveNotice_links | split)

theorem emptyRecord_links {t : State} (slot : Nat) (hp : attemptInProgress t = false) (h : Links t) :
    Links (emptyRecord slot t) := by
  refine setPics_links _ ?_ h
  rw [hp]
  simp [attemptInProgress, onDrumState, onDrumRec, State.setPics]

theorem abortKey_links {t : State} (h : Links t) : Links (abortKey t) := by
  unfold abortKey
  split
  · exact giveNotice_links _ _ h
  · rename_i slot ho
    have hs : ∀ x, onDrumState t = x → x ≠ .sending → ∀ r, t.rec? slot = some r → r.state ≠ .sending := by
      intro x hx hn r hr
      rw [onDrumState_of ho, hr] at hx
      rw [show r.state = x from hx]
      exact hn
    split
    · rename_i hx
      exact emptyRecord_links _ (by simp [attemptInProgress, hx]) h
    · exact finishRecord_links _ _ _ (hs _ ‹_› (by simp)) h
    · exact finishRecord_links _ _ _ (hs _ ‹_› (by simp)) h
    · exact attemptEnd_links _ (by simp) h
    · exact giveNotice_links _ _ h
    · exact giveNotice_links _ _ h

theorem reprintKey_links {t : State} (h : Links t) : Links (reprintKey t) := by
  unfold reprintKey
  split
  · exact giveNotice_links _ _ h
  · rename_i slot _
    have := requestSlip_links slot .reprint h
    split
    · split <;> rename_i he <;> rw [he] at this <;> first | exact giveNotice_links _ _ h | exact this
    · exact giveNotice_links _ _ h

theorem resetMechKey_links {t : State} (h : Links t) : Links (resetMechKey t) := by
  unfold resetMechKey
  split
  · exact mechClear_links ‹_› h
  · exact giveNotice_links _ _ h

theorem panelHunting_links {t : State} (h : Links t) : Links (panelHunting t) := by
  unfold panelHunting
  try dsimp only
  with_reducible repeat' (first | assumption | apply setPanel_links)

theorem panelOwner_links {t : State} (k : PanelKind) (content : List Byte) (h : Links t) : Links (panelOwner k
    content t) := by
  unfold panelOwner
  try dsimp only
  with_reducible repeat'
    first
    | assumption | apply loadPhotograph_links | apply spinKey_links | apply stopKey_links
    | apply abortKey_links | apply reprintKey_links | apply resetMechKey_links | split

theorem panelPush_links {t : State} (b : Byte) (h : Links t) : Links (panelPush b t) := by
  unfold panelPush
  try dsimp only
  with_reducible repeat' (first | assumption | apply setPanel_links)

theorem panelPosition_links {t : State} (b : Byte) (h : Links t) : Links (panelPosition b t) := by
  unfold panelPosition
  try dsimp only
  with_reducible repeat'
    first
    | assumption | apply panelPush_links | apply panelHunting_links | apply panelOwner_links | split

theorem panelByte_links {t : State} (b : Option Byte) (h : Links t) : Links (panelByte b t) := by
  unfold panelByte
  try dsimp only
  with_reducible repeat'
    first
    | assumption | apply setPanel_links | apply panelHunting_links | apply panelPosition_links | split

theorem panelGap_links {t : State} (h : Links t) : Links (panelGap t) := by
  unfold panelGap
  try dsimp only
  with_reducible repeat' (first | assumption | apply panelHunting_links | split)

theorem panelLoad_links {t : State} (lines : Nat) (slug : List Byte) (h : Links t) : Links (panelLoad lines slug t)
    := by
  unfold panelLoad
  try dsimp only
  with_reducible repeat'
    first
    | assumption | apply panelHunting_links | apply loadPhotograph_links | split

theorem clockSecond_links {t : State} (h : Links t) : Links (clockSecond t) := by
  unfold clockSecond
  try dsimp only
  with_reducible repeat' (first | assumption | apply setClock_links)

theorem receiptExpiry_links {t : State} (h : Links t) : Links (receiptExpiry t) := by
  unfold receiptExpiry
  split
  · rename_i slot ho
    split
    · rename_i hc
      refine finishRecord_links _ _ _ (fun r hr => ?_) h
      have hx := hc.1
      rw [onDrumState_of ho, hr] at hx
      rw [show r.state = .awaiting from hx]
      simp
    · exact h
  · exact h

/-! ### Events and the orders at the head of the queue -/

theorem shown_links {f : State → State} (hf : ∀ u, Links u → Links (f u)) {s : State} (h : Links s) :
    Links (shown f s) :=
  panelTransmit_links (markChanged_links _ (hf _ (panelTransmit_links h)))

theorem event_links {f : State → State} (hf : ∀ u, Links u → Links (f u)) {s : State} (h : Links s) :
    Links (event f s) :=
  shown_links (fun _ hu => settle_links _ (hf _ hu)) h

theorem panelFeed_links {t : State} (bytes : List (Option Byte)) (h : Links t) : Links (panelFeed bytes t) := by
  induction bytes generalizing t with
  | nil => exact h
  | cons b rest ih => exact ih (event_links (fun _ hu => panelByte_links b hu) h)

theorem executeHead_links {k : OrderKind} {owner : Order → State → State × Verdict}
    (hf : ∀ o u, Links u → Links (owner o u).1) {s : State} (h : Links s) : Links (executeHead k owner s) := by
  unfold executeHead
  split
  · rename_i o rest ho
    have key : Links (s.setOrders rest) := setOrders_links _ h
    split
    · unfold executeOrder
      split
      · exact startReports_links (placeAnswer_links _ _ (hf _ _ key))
      · exact startReports_links (placeAnswer_links _ _ key)
    · exact h
  · exact h

end Sys2Proof.Machine
end

