-- ==== Sys2Proof/Laws/Ranges.lean ====
section
/-! SUPPORT. Every operation keeps the ranges of the blocks (one lemma an operation, composed in the order the operations are). -/

namespace Sys2Proof.Machine

theorem setNow_ranges {t : State} (x : Tick) (h : Ranges t) : Ranges (t.setNow x) := { h with }

theorem setEnc_ranges {t : State} (x : Encoder) (hx : Ranges t → EncoderOk x) (h : Ranges t) : Ranges (t.setEnc x) :=
  { h with enc := hx h }

theorem setDrum_ranges {t : State} (x : Drum) (hx : Ranges t → DrumOk x) (h : Ranges t) : Ranges (t.setDrum x) :=
  { h with drum := hx h }

theorem setReg_ranges {t : State} (x : Regulator) (hx : Ranges t → RegulatorOk x) (h : Ranges t) : Ranges (t.setReg x) :=
  { h with reg := hx h }

theorem setScan_ranges {t : State} (x : Scanner) (hx : Ranges t → ScannerOk x) (h : Ranges t) : Ranges (t.setScan x) :=
  { h with scan := hx h }

theorem setLamp_ranges {t : State} (x : Lamp) (h : Ranges t) : Ranges (t.setLamp x) := { h with }

theorem setConv_ranges {t : State} (x : Converter) (h : Ranges t) : Ranges (t.setConv x) := { h with }

theorem setHead_ranges {t : State} (x : Head) (hx : Ranges t → x.owed ≤ 255) (h : Ranges t) : Ranges (t.setHead x) :=
  { h with owed := hx h }

theorem setStore_ranges {t : State} (x : LineStore) (hx : Ranges t → StoreOk x) (h : Ranges t) : Ranges (t.setStore x) :=
  { h with store := hx h }

theorem setSender_ranges {t : State} (x : Sender) (hx : Ranges t → x.linesSent ≤ 4000) (h : Ranges t) : Ranges (t.setSender x) :=
  { h with linesSent := hx h }

theorem setOrders_ranges {t : State} (x : List Order) (hx : Ranges t → x.length ≤ 4) (h : Ranges t) : Ranges (t.setOrders x) :=
  { h with orders := hx h }

theorem setTables_ranges {t : State} (x : Tables) (hx : Ranges t → TablesOk x) (h : Ranges t) : Ranges (t.setTables x) :=
  { h with tables := hx h }

theorem setSlips_ranges {t : State} (x : SlipUnit) (hx : Ranges t → SlipsOk x) (h : Ranges t) : Ranges (t.setSlips x) :=
  { h with slips := hx h }

theorem setPanel_ranges {t : State} (x : Panel) (h : Ranges t) : Ranges (t.setPanel x) := { h with }

theorem setClock_ranges {t : State} (x : Clock) (hx : Ranges t → ClockOk x) (h : Ranges t) : Ranges (t.setClock x) :=
  { h with clock := hx h }

theorem setStation_ranges {t : State} (x : Station) (h : Ranges t) : Ranges (t.setStation x) := { h with }

theorem setPins_ranges {t : State} (x : Pins) (h : Ranges t) : Ranges (t.setPins x) := { h with }

/-- What the ranges ask of a picture table. -/
structure PicsOk (x : PicTable) : Prop where
  slots : x.records.length = 8
  records : ∀ r ∈ x.records, RecordOk r
  serial : 1 ≤ x.nextSerial ∧ x.nextSerial ≤ 65535

theorem Ranges.pics {t : State} (h : Ranges t) : PicsOk t.pics := ⟨h.slots, h.records, h.serial⟩

theorem setPics_ranges {t : State} (x : PicTable) (hx : Ranges t → PicsOk x) (h : Ranges t) : Ranges (t.setPics x) :=
  { h with slots := (hx h).slots, records := (hx h).records, serial := (hx h).serial }

theorem setPort_ranges {t : State} (p : PortId) (x : Port) (hx : Ranges t → PortRange x) (h : Ranges t) :
    Ranges (t.setPort p x) := by
  cases p
  · exact { h with portA := hx h }
  · exact { h with portB := hx h }

theorem Ranges.port {t : State} (h : Ranges t) (p : PortId) : PortRange (t.port p) := by
  cases p
  · exact h.portA
  · exact h.portB

theorem satInc_le {m n : Nat} (h : n ≤ m) : satInc m n ≤ m := by
  unfold satInc; split <;> omega

theorem recEmpty_ok : RecordOk recEmpty :=
  { receipts := Nat.zero_le _, attempts := Nat.zero_le _, granted := (fun h => nomatch h), grant := (fun _ h => nomatch h),
    each := (fun _ h => nomatch h), codes := (fun _ h => nomatch h), mount := (fun _ h => nomatch h),
    number := (fun _ h => nomatch h), dropped := Nat.zero_le _, prints := Nat.zero_le _ }

/-- What stands in a list after one of its entries was changed. -/
theorem mem_modify {α : Type} {l : List α} {i : Nat} {f : α → α} {r : α} (h : r ∈ l.modify i f) :
    r ∈ l ∨ ∃ q, l[i]? = some q ∧ r = f q := by
  obtain ⟨n, hn⟩ := List.mem_iff_getElem?.1 h
  rw [List.getElem?_modify] at hn
  by_cases hi : i = n
  · subst hi
    cases hq : l[i]? with
    | none => simp [hq] at hn
    | some q => exact Or.inr ⟨q, rfl, by simpa [hq, eq_comm] using hn⟩
  · exact Or.inl (List.mem_iff_getElem?.2 ⟨n, by simpa [hi] using hn⟩)

theorem rec?_ok {t : State} (h : Ranges t) {i : Nat} {r : PicRecord} (hr : t.rec? i = some r) : RecordOk r :=
  h.records r (List.mem_iff_getElem?.2 ⟨i, hr⟩)

theorem recD_ok {t : State} (h : Ranges t) (i : Nat) : RecordOk ((t.rec? i).getD recEmpty) := by
  cases hr : t.rec? i with
  | none => exact recEmpty_ok
  | some r => exact rec?_ok h hr

theorem modRec_ranges {t : State} (i : Nat) (f : PicRecord → PicRecord)
    (hf : ∀ r, t.rec? i = some r → RecordOk r → RecordOk (f r)) (h : Ranges t) : Ranges (modRec i f t) := by
  refine setPics_ranges _ (fun h => { h.pics with slots := by simpa using h.slots, records := fun r hr => ?_ }) h
  rcases mem_modify hr with hm | ⟨q, hq, rfl⟩
  · exact h.records r hm
  · exact hf q hq (rec?_ok h hq)

theorem modOnDrum_ranges {t : State} (f : PicRecord → PicRecord) (hf : ∀ r, RecordOk r → RecordOk (f r))
    (h : Ranges t) : Ranges (modOnDrum f t) := by
  unfold modOnDrum
  split
  · exact modRec_ranges _ _ (fun r _ => hf r) h
  · exact h

theorem modAttempt_ranges {t : State} (f : Attempt → Attempt) (hf : ∀ a, AttemptOk a → AttemptOk (f a))
    (h : Ranges t) : Ranges (modAttempt f t) :=
  modOnDrum_ranges _ (fun r hr =>
    { hr with
      attempts := by simpa using hr.attempts
      granted := fun hs => by simpa using hr.granted hs
      each := fun a ha => by
        rcases mem_modify ha with hm | ⟨q, hq, rfl⟩
        · exact hr.each a hm
        · exact hf q (hr.each q (List.mem_iff_getElem?.2 ⟨_, hq⟩)) }) h

theorem countIndexSlip_ranges {t : State} (h : Ranges t) : Ranges (countIndexSlip t) := by
  unfold countIndexSlip
  split
  · exact modAttempt_ranges _ (fun a ha => { ha with indexSlips := satInc_le ha.indexSlips }) h
  · exact h

theorem countHeadLate_ranges {t : State} (h : Ranges t) : Ranges (countHeadLate t) := by
  unfold countHeadLate
  split
  · exact modAttempt_ranges _ (fun a ha => { ha with headLate := satInc_le ha.headLate }) h
  · exact h

theorem countLockLost_ranges {t : State} (h : Ranges t) : Ranges (countLockLost t) := by
  unfold countLockLost
  split
  · exact modAttempt_ranges _ (fun a ha => { ha with lockLost := satInc_le ha.lockLost }) h
  · exact h

theorem requestPhoto_ranges {t : State} (use : PhotoUse) (h : Ranges t) : Ranges (requestPhoto use t) := by
  unfold requestPhoto
  try dsimp only
  with_reducible repeat' (first | assumption | apply setConv_ranges | split)

theorem requestTherm_ranges {t : State} (h : Ranges t) : Ranges (requestTherm t) := by
  unfold requestTherm
  try dsimp only
  with_reducible repeat' (first | assumption | apply setConv_ranges | split)

theorem startNextConversion_ranges {t : State} (h : Ranges t) : Ranges (startNextConversion t) := by
  unfold startNextConversion
  try dsimp only
  with_reducible repeat' (first | assumption | apply setConv_ranges | split)

theorem withdrawPhoto_ranges {t : State} (h : Ranges t) : Ranges (withdrawPhoto t) := by
  unfold withdrawPhoto
  try dsimp only
  with_reducible repeat' (first | assumption | apply setConv_ranges)

theorem applyTone_ranges {t : State} (h : Ranges t) : Ranges (applyTone t) := by
  unfold applyTone
  split
  · rename_i x hx
    exact setTables_ranges _ (fun h => { h.tables with tone := h.tables.tonePending x hx, tonePending := by simp }) h
  · exact h

theorem applyStandard_ranges {t : State} (h : Ranges t) : Ranges (applyStandard t) := by
  unfold applyStandard
  split
  · rename_i k e he
    refine setTables_ranges _ (fun h => { h.tables with standards := ?_, standardPending := by simp, standardCount := ?_ }) h
    · intro x hx
      rcases List.mem_or_eq_of_mem_set hx with hx | rfl
      · exact h.tables.standards x hx
      · exact h.tables.standardPending _ _ he
    · simpa using h.tables.standardCount
  · exact h

theorem applyScan_ranges {t : State} (h : Ranges t) : Ranges (applyScan t) := by
  unfold applyScan
  split
  · rename_i p hp
    exact setTables_ranges _ (fun h => { h.tables with scan := h.tables.scanPending _ hp, scanPending := by simp }) h
  · exact h

theorem takeDrumProfile_ranges {t : State} (p : DrumProfile) (hp : DrumProfileOk p) (h : Ranges t) :
    Ranges (takeDrumProfile p t) :=
  setDrum_ranges _ (fun _ => ⟨h.drum.1, h.drum.2, h.drum.3⟩) (setTables_ranges _ (fun h => { h.tables with drum := hp }) h)

theorem applyDrum_ranges {t : State} (h : Ranges t) : Ranges (applyDrum t) := by
  unfold applyDrum
  split
  · rename_i p hp
    exact setTables_ranges _ (fun h => { h.tables with drumPending := by simp })
      (takeDrumProfile_ranges p (h.tables.drumPending p hp) h)
  · exact h

theorem takeLineProfile_ranges {t : State} (p : PortId) (lp : LineProfile) (hp : LineProfileOk lp) (h : Ranges t) :
    Ranges (takeLineProfile p lp t) := by
  cases p
  · exact setTables_ranges _ (fun h => { h.tables with lineA := hp }) h
  · exact setTables_ranges _ (fun h => { h.tables with lineB := hp }) h

theorem applyLine_ranges {t : State} (p : PortId) (h : Ranges t) : Ranges (applyLine p t) := by
  unfold applyLine
  split
  · rename_i q lp hq
    split
    · exact setTables_ranges _ (fun h => { h.tables with linePending := by simp })
        (takeLineProfile_ranges p lp (h.tables.linePending q lp hq) h)
    · exact h
  · exact h

theorem reportStart_ranges {t : State} (p : PortId) (h : Ranges t) : Ranges (reportStart p t) := by
  unfold reportStart
  try dsimp only
  with_reducible repeat' (first | assumption | apply setPort_ranges | split)
  all_goals exact fun h => { h.port _ with }

theorem addItem_ranges {t : State} (p : PortId) (item : RepItem) (h : Ranges t) : Ranges (addItem p item t) := by
  unfold addItem
  try dsimp only
  with_reducible repeat' (first | assumption | apply setPort_ranges | split)
  all_goals exact fun h => { h.port _ with }

theorem leaveCarrying_ranges {t : State} (p : PortId) (activity : Activity) (h : Ranges t) : Ranges (leaveCarrying p
    activity t) := by
  unfold leaveCarrying
  try dsimp only
  with_reducible repeat' (first | assumption | apply setPort_ranges | apply applyLine_ranges)
  all_goals exact fun h => { h.port _ with }

theorem enterCarrying_ranges {t : State} (p : PortId) (h : Ranges t) : Ranges (enterCarrying p t) := by
  unfold enterCarrying
  try dsimp only
  with_reducible repeat' (first | assumption | apply setPort_ranges)
  all_goals exact fun h => { h.port _ with }

theorem askTherm_ranges {t : State} (h : Ranges t) : Ranges (askTherm t) := by
  unfold askTherm
  try dsimp only
  with_reducible repeat'
    first
    | assumption | apply setSlips_ranges | apply requestTherm_ranges | split
  all_goals first | exact fun h => { h.slips with }

theorem firstFeed_ranges {t : State} (h : Ranges t) : Ranges (firstFeed t) := by
  unfold firstFeed
  try dsimp only
  with_reducible repeat' (first | assumption | apply setSlips_ranges)
  all_goals first | exact fun h => { h.slips with }

theorem beginDotLine_ranges {t : State} (h : Ranges t) : Ranges (beginDotLine t) := by
  unfold beginDotLine
  try dsimp only
  with_reducible repeat'
    first
    | assumption | apply setSlips_ranges | apply askTherm_ranges | apply firstFeed_ranges | split
  all_goals first | exact fun h => { h.slips with }

/-- The feed interval of the live strobe table (R134). -/
theorem strobe_feed {t : State} (h : Ranges t) : 1000 ≤ t.tables.strobe.feedInterval ∧ t.tables.strobe.feedInterval ≤ 5000 := by
  have := h.tables.strobe.checks
  simp only [strobeOk, Bool.and_eq_true, decide_eq_true_eq] at this
  exact ⟨this.1.2, this.2⟩

theorem chooseBand_ranges {t : State} (reading : Nat) (h : Ranges t) : Ranges (chooseBand reading t) := by
  unfold chooseBand
  try dsimp only
  with_reducible repeat' (first | assumption | apply setSlips_ranges | apply firstFeed_ranges | split)
  all_goals first | exact fun h => { h.slips with } | exact fun h => { h.slips with feed := strobe_feed h }

theorem takeTherm_ranges {t : State} (reading : Nat) (h : Ranges t) : Ranges (takeTherm reading t) := by
  unfold takeTherm
  try dsimp only
  with_reducible repeat'
    first
    | assumption | apply setSlips_ranges | apply askTherm_ranges | apply chooseBand_ranges | split
  all_goals first | exact fun h => { h.slips with }

theorem cutLine_text (l : List Byte) : (cutLine l).text.length ≤ 32 := by simp [cutLine]

theorem templateImage_text (s : State) (r : PicRecord) (line : List Byte) :
    ∀ l ∈ templateImage s r line, l.text.length ≤ 32 := by
  intro l hl
  unfold templateImage at hl
  repeat' split at hl
  all_goals
    simp at hl
    try (first | (obtain ⟨_, _, rfl⟩ := hl) | subst hl)
    try exact cutLine_text _

theorem slipHeader_text (r : PicRecord) (k : SlipKind) :
    (slipHeader r k).length ≤ 1 ∧ ∀ l ∈ slipHeader r k, l.text.length ≤ 32 := by
  cases k <;> simp [slipHeader, cutLine_text]

theorem slipTrailer_text (r : PicRecord) :
    (slipTrailer r).length ≤ 2 ∧ ∀ l ∈ slipTrailer r, l.text.length ≤ 32 := by
  unfold slipTrailer
  repeat' split
  all_goals simp [cutLine_text]

/-- A snapshot has at most 40 lines of at most 32 characters (R161, R163). -/
theorem snapshot_ok (s : State) (r : PicRecord) (k : SlipKind) :
    (snapshot s r k).length ≤ 40 ∧ ∀ l ∈ snapshot s r k, l.text.length ≤ 32 := by
  obtain ⟨hl, ht⟩ := slipHeader_text r k
  obtain ⟨tl, tt⟩ := slipTrailer_text r
  refine ⟨?_, fun l hm => ?_⟩
  · simp only [snapshot, List.length_append, List.length_take]
    omega
  · simp only [snapshot, List.mem_append] at hm
    rcases hm with (hm | hm) | hm
    · exact ht l hm
    · obtain ⟨line, _, hm⟩ := List.mem_flatMap.1 (List.mem_of_mem_take hm)
      exact templateImage_text s r line l hm
    · exact tt l hm

theorem startSlip_ranges {t : State} (req : SlipReq) (h : Ranges t) : Ranges (startSlip req t) :=
  beginDotLine_ranges
    (setSlips_ranges _ (fun h => { h.slips with lines := (snapshot_ok _ _ _).1, text := (snapshot_ok _ _ _).2 }) h)

theorem slipEval_ranges {t : State} (h : Ranges t) : Ranges (slipEval t) := by
  unfold slipEval
  try dsimp only
  with_reducible repeat' (first | assumption | apply startSlip_ranges | split)

theorem updateSlipStatus_ranges {t : State} (slot : Nat) (h : Ranges t) : Ranges (updateSlipStatus slot t) :=
  modRec_ranges _ _ (fun _ _ hr => { hr with }) h

theorem oweSlip_ranges {t : State} (slot : Nat) (kind : SlipKind) (h : Ranges t) : Ranges (oweSlip slot kind t) :=
    by
  unfold oweSlip
  try dsimp only
  with_reducible repeat' (first | assumption | apply setSlips_ranges | split)
  all_goals first | exact fun h => { h.slips with owed := by simpa using h.slips.owed }

theorem requestSlip_ranges {t : State} (slot : Nat) (kind : SlipKind) (h : Ranges t) :
    Ranges (requestSlip slot kind t).1 := by
  unfold requestSlip
  split
  · exact updateSlipStatus_ranges _ h
  · split
    · refine slipEval_ranges (updateSlipStatus_ranges _ (setSlips_ranges _ (fun h => { h.slips with queue := ?_ }) h))
      simp; omega
    · split
      · exact h
      · exact updateSlipStatus_ranges _ (oweSlip_ranges _ _ h)

theorem fillOne_ranges {t : State} (h : Ranges t) : Ranges (fillOne t) := by
  unfold fillOne
  split
  · exact h
  · split
    · exact h
    · refine updateSlipStatus_ranges _ (setSlips_ranges _ (fun h => { h.slips with queue := ?_, owed := by simpa using h.slips.owed }) h)
      simp; omega

theorem fillOwed_ranges {t : State} (n : Nat) (h : Ranges t) : Ranges (fillOwed n t) := by
  induction n generalizing t with
  | zero => exact h
  | succ n ih => exact ih (fillOne_ranges h)

theorem completeSlip_ranges {t : State} (h : Ranges t) : Ranges (completeSlip t) := by
  unfold completeSlip
  split
  · exact h
  · rename_i req rest hq
    refine slipEval_ranges (fillOwed_ranges _ (updateSlipStatus_ranges _
      (modRec_ranges _ _ (fun _ _ hr => { hr with prints := satInc_le hr.prints })
        (setSlips_ranges _ (fun h => { h.slips with queue := ?_ }) h))))
    have := h.slips.1
    rw [hq] at this
    exact Nat.le_of_succ_le this

theorem nextDotLine_ranges {t : State} (h : Ranges t) : Ranges (nextDotLine t) := by
  unfold nextDotLine
  try dsimp only
  with_reducible repeat'
    first
    | assumption | apply setSlips_ranges | apply beginDotLine_ranges | apply completeSlip_ranges
    | split
  all_goals first | exact fun h => { h.slips with }

theorem strobeEnd_ranges {t : State} (h : Ranges t) : Ranges (strobeEnd t) := by
  unfold strobeEnd
  try dsimp only
  with_reducible repeat' (first | assumption | apply setSlips_ranges | apply firstFeed_ranges | split)
  all_goals first | exact fun h => { h.slips with }

theorem feedIntervalExpiry_ranges {t : State} (h : Ranges t) : Ranges (feedIntervalExpiry t) := by
  unfold feedIntervalExpiry
  try dsimp only
  with_reducible repeat' (first | assumption | apply setSlips_ranges | apply nextDotLine_ranges | split)
  all_goals first | exact fun h => { h.slips with }

theorem coolTimerExpiry_ranges {t : State} (h : Ranges t) : Ranges (coolTimerExpiry t) := by
  unfold coolTimerExpiry
  try dsimp only
  with_reducible repeat' (first | assumption | apply setSlips_ranges | apply askTherm_ranges | split)
  all_goals first | exact fun h => { h.slips with }

theorem paperOut_ranges {t : State} (h : Ranges t) : Ranges (paperOut t) := by
  unfold paperOut
  try dsimp only
  with_reducible repeat' (first | assumption | apply setSlips_ranges)
  all_goals first | exact fun h => { h.slips with }

theorem paperSensorChange_ranges {t : State} (present : Bool) (h : Ranges t) : Ranges (paperSensorChange present t)
    := by
  unfold paperSensorChange
  try dsimp only
  with_reducible repeat'
    first
    | assumption | apply setPins_ranges | apply setSlips_ranges | apply paperOut_ranges | split
  all_goals first | exact fun h => { h.slips with }

theorem paperTimerExpiry_ranges {t : State} (h : Ranges t) : Ranges (paperTimerExpiry t) := by
  unfold paperTimerExpiry
  try dsimp only
  with_reducible repeat'
    first
    | assumption | apply setSlips_ranges | apply beginDotLine_ranges | apply slipEval_ranges | split
  all_goals first | exact fun h => { h.slips with }

theorem parkHead_ranges {t : State} (h : Ranges t) : Ranges (parkHead t) := by
  unfold parkHead
  try dsimp only
  with_reducible repeat' (first | assumption | apply setHead_ranges | apply applyScan_ranges | split)
  all_goals first | exact fun h => h.owed

theorem stopHead_ranges {t : State} (h : Ranges t) : Ranges (stopHead t) := by
  unfold stopHead
  try dsimp only
  with_reducible repeat' (first | assumption | apply setHead_ranges)
  all_goals first | exact fun h => h.owed | exact fun _ => Nat.zero_le _

theorem rewindStep_ranges {t : State} (h : Ranges t) : Ranges (rewindStep t) := by
  unfold rewindStep
  try dsimp only
  with_reducible repeat' (first | assumption | apply setHead_ranges | apply stopHead_ranges | split)
  all_goals first | exact fun h => h.owed

theorem enterRewind_ranges {t : State} (limit : Nat) (h : Ranges t) : Ranges (enterRewind limit t) := by
  unfold enterRewind
  try dsimp only
  with_reducible repeat'
    first
    | assumption | apply setHead_ranges | apply parkHead_ranges | apply stopHead_ranges
    | apply rewindStep_ranges | split
  all_goals first | exact fun h => h.owed | exact fun _ => Nat.zero_le _

theorem rewindHead_ranges {t : State} (h : Ranges t) : Ranges (rewindHead t) := by
  unfold rewindHead
  try dsimp only
  with_reducible repeat' (first | assumption | apply enterRewind_ranges | split)

theorem stopScanner_ranges {t : State} (h : Ranges t) : Ranges (stopScanner t) := by
  unfold stopScanner
  try dsimp only
  with_reducible repeat'
    first
    | assumption | apply setScan_ranges | apply withdrawPhoto_ranges | split
  all_goals first | exact fun h => ⟨h.scan.1, h.scan.2⟩

theorem flushStore_ranges {t : State} (h : Ranges t) : Ranges (flushStore t) := by
  unfold flushStore
  try dsimp only
  with_reducible repeat' (first | assumption | apply setStore_ranges)
  all_goals exact fun h => { h.store with fill := Nat.zero_le _, flushed := h.store.fill }

theorem closeSender_ranges {t : State} (outcome : AttemptOutcome) (h : Ranges t) : Ranges (closeSender outcome t) :=
    by
  unfold closeSender
  try dsimp only
  with_reducible repeat' (first | assumption | apply setSender_ranges | apply setPort_ranges | split)
  all_goals first | exact fun h => { h.port _ with } | exact fun h => h.linesSent

theorem finishRecord_ranges {t : State} (slot : Nat) (outcome : FinalOutcome) (cause : FailCause) (h : Ranges t) :
    Ranges (finishRecord slot outcome cause t) := by
  have key : Ranges ((modRec slot (fun r =>
      { r with state := .finished, final := some ⟨outcome, cause, clockReading t⟩ }) t).setPics _) :=
    setPics_ranges
      { (modRec slot (fun r => { r with state := .finished, final := some ⟨outcome, cause, clockReading t⟩ }) t).pics with
        finishOrder := (modRec slot (fun r =>
          { r with state := .finished, final := some ⟨outcome, cause, clockReading t⟩ }) t).pics.finishOrder ++ [slot]
        receiptTimer := none }
      (fun h => { h.pics with })
      (modRec_ranges _ _ (fun _ _ hr => { hr with granted := fun hs => by cases hs }) h)
  unfold finishRecord
  dsimp only
  split
  · exact requestSlip_ranges _ _ (rewindHead_ranges key)
  · exact requestSlip_ranges _ _ key

theorem awaitReceipts_ranges {t : State} (slot : Nat) (h : Ranges t) : Ranges (awaitReceipts slot t) :=
  setPics_ranges _ (fun h => { h.pics with })
    (modRec_ranges _ _ (fun _ _ hr => { hr with granted := fun hs => by cases hs }) h)

theorem grantAgain_ranges {t : State} (slot : Nat)
    (hg : ∀ r, t.rec? slot = some r → ∃ g, r.grant = some g ∧ r.attempts.length < g.allowed) (h : Ranges t) :
    Ranges (grantAgain slot t) := by
  unfold grantAgain
  split
  · exact finishRecord_ranges _ _ _ h
  · exact modRec_ranges _ _ (fun r hr ho => { ho with granted := fun _ => hg r hr })
      (setPics_ranges _ (fun h => { h.pics with }) h)

/-- A record whose attempts are fewer than its grant allows holds a grant. -/
theorem grant_of_left {t : State} {slot : Nat}
    (hl : ((t.rec? slot).getD recEmpty).attempts.length < (((t.rec? slot).getD recEmpty).grant.map (·.allowed)).getD 0) :
    ∀ r, t.rec? slot = some r → ∃ g, r.grant = some g ∧ r.attempts.length < g.allowed := by
  intro r hr
  rw [hr, Option.getD_some] at hl
  cases hg : r.grant with
  | none => simp [hg] at hl
  | some g => exact ⟨g, rfl, by simpa [hg] using hl⟩

theorem moveRecord_ranges {t : State} (slot : Nat) (outcome : AttemptOutcome) (h : Ranges t) :
    Ranges (moveRecord slot outcome t) := by
  unfold moveRecord
  cases outcome <;> dsimp only
  case line =>
    split
    · exact grantAgain_ranges _ (grant_of_left ‹_›) h
    · exact finishRecord_ranges _ _ _ h
  all_goals first | exact awaitReceipts_ranges _ h | exact finishRecord_ranges _ _ _ h

theorem closeAttempt_ranges {t : State} (outcome : AttemptOutcome) (h : Ranges t) : Ranges (closeAttempt outcome t)
    := by
  refine modAttempt_ranges _ (fun a ha => { ha with
    duration := ?_, lines := h.linesSent, underruns := h.store.underruns, overruns := h.store.overruns
    flushed := h.store.flushed }) h
  dsimp only
  split <;> omega

theorem endAttemptUse_ranges {t : State} (h : Ranges t) : Ranges (endAttemptUse t) := by
  unfold endAttemptUse
  try dsimp only
  with_reducible repeat'
    first
    | assumption | apply applyStandard_ranges | apply applyTone_ranges | apply applyScan_ranges | split

theorem attemptEnd_ranges {t : State} (outcome : AttemptOutcome) (h : Ranges t) : Ranges (attemptEnd outcome t) :=
    by
  unfold attemptEnd
  try dsimp only
  with_reducible repeat'
    first
    | assumption | apply flushStore_ranges | apply stopScanner_ranges | apply closeSender_ranges
    | apply closeAttempt_ranges | apply endAttemptUse_ranges | apply rewindHead_ranges
    | apply moveRecord_ranges | split

theorem raiseHeadFault_ranges {t : State} (h : Ranges t) : Ranges (raiseHeadFault t) := by
  unfold raiseHeadFault
  try dsimp only
  with_reducible repeat' (first | assumption | apply attemptEnd_ranges | apply stopHead_ranges)

theorem rewindInAttempt_ranges {t : State} (h : Ranges t) : Ranges (rewindInAttempt t) := by
  unfold rewindInAttempt
  try dsimp only
  with_reducible repeat'
    first
    | assumption | apply rewindHead_ranges | apply attemptEnd_ranges | split

theorem stepOut_ranges {t : State} (h : Ranges t) : Ranges (stepOut t) := by
  unfold stepOut
  try dsimp only
  with_reducible repeat'
    first
    | assumption | apply setHead_ranges | apply raiseHeadFault_ranges | split
  all_goals first | exact fun h => h.owed

theorem positionStep_ranges {t : State} (h : Ranges t) : Ranges (positionStep t) := by
  unfold positionStep
  try dsimp only
  with_reducible repeat' (first | assumption | apply setHead_ranges | apply stepOut_ranges | split)
  all_goals first | exact fun h => h.owed

theorem enterPositioning_ranges {t : State} (h : Ranges t) : Ranges (enterPositioning t) := by
  unfold enterPositioning
  try dsimp only
  with_reducible repeat' (first | assumption | apply setHead_ranges | apply positionStep_ranges | split)
  all_goals first | exact fun h => h.owed

theorem headEval_ranges {t : State} (s0 : State) (h : Ranges t) : Ranges (headEval s0 t) := by
  unfold headEval
  try dsimp only
  with_reducible repeat' (first | assumption | apply enterPositioning_ranges | split)

theorem lineBurst_ranges {t : State} (h : Ranges t) : Ranges (lineBurst t) := by
  unfold lineBurst
  dsimp only
  split
  · split
    · exact raiseHeadFault_ranges h
    · rename_i hn
      have key : Ranges (t.setHead { t.head with owed := t.head.owed + t.tables.scan.stepsPerLine }) :=
        setHead_ranges _ (fun _ => Nat.le_of_not_lt hn) h
      split
      · split
        · exact setHead_ranges _ (fun h => Nat.le_trans (Nat.sub_le _ _) h.owed) (stepOut_ranges key)
        · exact stepOut_ranges key
      · exact key
  · exact h

theorem checkHeadLate_ranges {t : State} (h : Ranges t) : Ranges (checkHeadLate t) := by
  unfold checkHeadLate
  try dsimp only
  with_reducible repeat' (first | assumption | apply countHeadLate_ranges | split)

theorem headAtCount_ranges {t : State} (rev pos : Nat) (h : Ranges t) : Ranges (headAtCount rev pos t) := by
  unfold headAtCount
  try dsimp only
  with_reducible repeat'
    first
    | assumption | apply lineBurst_ranges | apply checkHeadLate_ranges | split

theorem headAtIndex_ranges {t : State} (closing : Nat) (h : Ranges t) : Ranges (headAtIndex closing t) := by
  unfold headAtIndex
  try dsimp only
  with_reducible repeat'
    first
    | assumption | apply lineBurst_ranges | apply checkHeadLate_ranges | split

theorem stepTimerExpiry_ranges {t : State} (h : Ranges t) : Ranges (stepTimerExpiry t) := by
  have key : Ranges (t.setHead { t.head with stepTimer := none }) := setHead_ranges _ (fun h => h.owed) h
  unfold stepTimerExpiry
  split
  · exact h
  · dsimp only
    split
    · exact positionStep_ranges key
    · split
      · exact key
      · split
        · exact setHead_ranges _ (fun h => Nat.le_trans (Nat.sub_le _ _) h.owed) (stepOut_ranges key)
        · exact stepOut_ranges key
    · split
      · exact raiseHeadFault_ranges (rewindStep_ranges key)
      · exact rewindStep_ranges key
    all_goals exact key

theorem homeSensor_ranges {t : State} (level : Bool) (h : Ranges t) : Ranges (homeSensor level t) := by
  unfold homeSensor
  try dsimp only
  with_reducible repeat' (first | assumption | apply setPins_ranges | apply parkHead_ranges | split)

theorem lampEval_ranges {t : State} (s0 : State) (h : Ranges t) : Ranges (lampEval s0 t) := by
  unfold lampEval
  try dsimp only
  with_reducible repeat' (first | assumption | apply setLamp_ranges | split)

theorem lampWarm_ranges {t : State} (h : Ranges t) : Ranges (lampWarm t) := by
  unfold lampWarm
  try dsimp only
  with_reducible repeat' (first | assumption | apply setLamp_ranges | split)

theorem clampInt_range (x lo hi : Int) (h : lo ≤ hi) : lo ≤ clampInt x lo hi ∧ clampInt x lo hi ≤ hi := by
  unfold clampInt
  split
  · omega
  · split <;> omega

theorem integrate_range (m : SatMemory) (i e : Int) (hl : -524287 ≤ i) (hh : i ≤ 524287) :
    -524287 ≤ integrate m i e ∧ integrate m i e ≤ 524287 := by
  have := clampInt_range (i + e) (-524287) 524287 (by omega)
  unfold integrate
  dsimp only
  repeat' split
  all_goals first | exact this | exact ⟨hl, hh⟩

theorem dutyMax_le {p : DrumProfile} (h : DrumProfileOk p) : p.dutyMax ≤ 4096 := by
  have hc := h.checks
  simp only [drumOk, Bool.and_eq_true, decide_eq_true_eq] at hc
  have h12 : p.cycleExp ≤ 12 := hc.1.1.1.1.1.1.1.1.2
  calc p.dutyMax ≤ 2 ^ p.cycleExp := h.dutyMax
    _ ≤ 2 ^ 12 := Nat.pow_le_pow_right (by omega) h12
    _ = 4096 := by norm_num

/-- The duty written lies between duty_min and duty_max (R29). -/
theorem dutyWritten_range {p : DrumProfile} (h : DrumProfileOk p) (d : Int) :
    p.dutyMin ≤ dutyWritten p d ∧ dutyWritten p d ≤ p.dutyMax := by
  have := clampInt_range d p.dutyMin p.dutyMax (by exact_mod_cast h.dutyMin)
  unfold dutyWritten
  omega

theorem regulate_ranges {t : State} (period : Nat) (h : Ranges t) : Ranges (regulate period t) :=
  setDrum_ranges _
    (fun _ => ⟨Nat.le_trans (dutyWritten_range h.tables.drum _).2 (dutyMax_le h.tables.drum), h.drum.2, h.drum.3⟩)
    (setReg_ranges _
      (fun h => ⟨(integrate_range _ _ _ h.reg.1 h.reg.2).1, (integrate_range _ _ _ h.reg.1 h.reg.2).2, h.reg.3, h.reg.4⟩) h)

theorem enterSpinup_ranges {t : State} (h : Ranges t) : Ranges (enterSpinup t) :=
  have hm : t.tables.drum.dutyMin ≤ 4096 := Nat.le_trans h.tables.drum.dutyMin (dutyMax_le h.tables.drum)
  setDrum_ranges _ (fun _ => ⟨hm, hm, by simp⟩) (setEnc_ranges _ (fun h => { h.enc with reverseRun := Nat.zero_le _ }) h)

theorem enterBraking_ranges {t : State} (h : Ranges t) : Ranges (enterBraking t) := by
  unfold enterBraking
  try dsimp only
  with_reducible repeat' (first | assumption | apply setDrum_ranges)
  all_goals first | exact fun h => ⟨h.drum.1, h.drum.2, h.drum.3⟩ | exact fun h => ⟨h.drum.1, h.drum.2, by simp⟩

theorem enterStopped_ranges {t : State} (h : Ranges t) : Ranges (enterStopped t) := by
  unfold enterStopped
  try dsimp only
  with_reducible repeat' (first | assumption | apply setDrum_ranges | apply applyDrum_ranges)
  all_goals first | exact fun h => ⟨h.drum.1, h.drum.2, h.drum.3⟩ | exact fun h => ⟨h.drum.1, h.drum.2, by simp⟩

theorem enterCutoff_ranges {t : State} (f : DrumFault) (h : Ranges t) : Ranges (enterCutoff f t) := by
  unfold enterCutoff
  try dsimp only
  with_reducible repeat'
    first
    | assumption | apply setDrum_ranges | apply attemptEnd_ranges | apply stopHead_ranges
  all_goals first | exact fun h => ⟨h.drum.1, h.drum.2, h.drum.3⟩ | exact fun h => ⟨Nat.zero_le _, Nat.zero_le _, by simp⟩

theorem drumFault_ranges {t : State} (f : DrumFault) (h : Ranges t) : Ranges (drumFault f t) := by
  unfold drumFault
  try dsimp only
  with_reducible repeat' (first | assumption | apply enterCutoff_ranges | split)

theorem setStallDeadline_ranges {t : State} (h : Ranges t) : Ranges (setStallDeadline t) := by
  unfold setStallDeadline
  try dsimp only
  with_reducible repeat' (first | assumption | apply setDrum_ranges)
  all_goals exact fun h => ⟨h.drum.1, h.drum.2, h.drum.3⟩

theorem enterTracking_ranges {t : State} (h : Ranges t) : Ranges (enterTracking t) := by
  unfold enterTracking
  try dsimp only
  with_reducible repeat'
    first
    | assumption | apply setReg_ranges | apply setDrum_ranges | apply setStallDeadline_ranges
  all_goals first
    | exact fun h => { h.reg with }
    | exact fun h => { h.reg with lock := Nat.zero_le _ }
    | exact fun _ => ⟨show (-524287 : Int) ≤ 0 by decide, show (0 : Int) ≤ 524287 by decide, Nat.zero_le _, Nat.zero_le _⟩
    | exact fun h => ⟨h.drum.1, h.drum.2, h.drum.3⟩
    | exact fun h => ⟨h.drum.1, h.drum.2, by simp⟩

theorem decideLock_ranges {t : State} (eRaw : Int) (h : Ranges t) : Ranges (decideLock eRaw t) := by
  unfold decideLock
  dsimp only
  repeat' split
  all_goals
    first
    | exact h
    | exact setDrum_ranges _ (fun h => ⟨h.drum.1, h.drum.2, by simp⟩)
        (setReg_ranges _ (fun h => { h.reg with lock := Nat.zero_le _, unlock := Nat.zero_le _ }) h)
    | exact setReg_ranges _ (fun h => { h.reg with lock := satInc_le h.reg.3 }) h
    | exact setReg_ranges _ (fun h => { h.reg with lock := Nat.zero_le _ }) h
    | exact setReg_ranges _ (fun h => { h.reg with unlock := by dsimp only; omega }) h

theorem countUnlocked_ranges {t : State} (h : Ranges t) : Ranges (countUnlocked t) := by
  unfold countUnlocked
  try dsimp only
  with_reducible repeat'
    first
    | assumption | apply setDrum_ranges | apply countLockLost_ranges | apply attemptEnd_ranges | split
  all_goals exact fun h => ⟨h.drum.1, h.drum.2, h.drum.3⟩

theorem regulatedWindow_ranges {t : State} (period : Nat) (h : Ranges t) : Ranges (regulatedWindow period t) := by
  unfold regulatedWindow
  try dsimp only
  with_reducible repeat'
    first
    | assumption | apply drumFault_ranges | apply countUnlocked_ranges | apply decideLock_ranges
    | apply regulate_ranges | apply setStallDeadline_ranges | split

theorem windowEvent_ranges {t : State} (period : Nat) (h : Ranges t) : Ranges (windowEvent period t) := by
  unfold windowEvent
  try dsimp only
  with_reducible repeat'
    first
    | assumption | apply setDrum_ranges | apply enterTracking_ranges | apply regulatedWindow_ranges
    | apply enterStopped_ranges | split
  all_goals exact fun h => ⟨h.drum.1, h.drum.2, h.drum.3⟩

theorem takeBoundary_ranges {t : State} (b : Nat) (h : Ranges t) : Ranges (takeBoundary b t) := by
  unfold takeBoundary
  try dsimp only
  with_reducible repeat' (first | assumption | apply setEnc_ranges | apply windowEvent_ranges | split)
  all_goals first | exact fun h => { h.enc with }

theorem boundaryAt_ranges {t : State} (b : Nat) (h : Ranges t) : Ranges (boundaryAt b t) := by
  unfold boundaryAt
  try dsimp only
  with_reducible repeat' (first | assumption | apply takeBoundary_ranges | split)

theorem countForward_ranges {t : State} (h : Ranges t) : Ranges (countForward t) := by
  have key : Ranges (t.setEnc
      { t.enc with pos := if t.enc.pos = 8191 then 0 else t.enc.pos + 1, reverseRun := 0 }) := by
    refine setEnc_ranges _ (fun h => { h.enc with pos := ?_, reverseRun := Nat.zero_le _ }) h
    have := h.enc.1
    dsimp only
    split <;> omega
  have key2 : Ranges (if (if t.enc.pos = 8191 then 0 else t.enc.pos + 1) % 512 = 0 ∧
      (if t.enc.pos = 8191 then 0 else t.enc.pos + 1) ≠ 0 then
      boundaryAt ((if t.enc.pos = 8191 then 0 else t.enc.pos + 1) / 512) (t.setEnc
      { t.enc with pos := if t.enc.pos = 8191 then 0 else t.enc.pos + 1, reverseRun := 0 })
      else t.setEnc { t.enc with pos := if t.enc.pos = 8191 then 0 else t.enc.pos + 1, reverseRun := 0 }) := by
    generalize (if t.enc.pos = 8191 then 0 else t.enc.pos + 1) = pos at key ⊢
    split
    · exact boundaryAt_ranges _ key
    · exact key
  exact key2

theorem countReverse_ranges {t : State} (h : Ranges t) : Ranges (countReverse t) := by
  have key : Ranges (t.setEnc
      { t.enc with
        pos := if t.enc.pos = 0 then 8191 else t.enc.pos - 1
        reverseRun := satInc 255 t.enc.reverseRun }) := by
    refine setEnc_ranges _ (fun h => { h.enc with pos := ?_, reverseRun := satInc_le h.enc.2 }) h
    have := h.enc.1
    dsimp only
    split <;> omega
  unfold countReverse
  dsimp only
  split
  · exact drumFault_ranges _ key
  · exact key

theorem loseIndex_ranges {t : State} (h : Ranges t) : Ranges (loseIndex t) := by
  unfold loseIndex
  try dsimp only
  with_reducible repeat' (first | assumption | apply setEnc_ranges | apply drumFault_ranges)
  all_goals first | exact fun h => { h.enc with slipRun := Nat.zero_le _ }

theorem checkIndex_ranges {t : State} (h : Ranges t) : Ranges (checkIndex t) := by
  have key : Ranges (t.setEnc { t.enc with pos := 0 }) := setEnc_ranges _ (fun h => { h.enc with pos := Nat.zero_le _ }) h
  unfold checkIndex
  dsimp only
  repeat' split
  all_goals
    with_reducible repeat' (first | assumption | apply loseIndex_ranges | apply countIndexSlip_ranges | apply setEnc_ranges)
  all_goals first
    | exact fun h => { h.enc with slipRun := Nat.zero_le _ }
    | exact fun h => { h.enc with slipRun := by dsimp only [State.setEnc] at *; omega }

theorem evaluateDemand_ranges {t : State} (h : Ranges t) : Ranges (evaluateDemand t) := by
  unfold evaluateDemand
  try dsimp only
  with_reducible repeat'
    first
    | assumption | apply enterSpinup_ranges | apply enterBraking_ranges | split

theorem drumEval_ranges {t : State} (s0 : State) (h : Ranges t) : Ranges (drumEval s0 t) := by
  unfold drumEval
  try dsimp only
  with_reducible repeat' (first | assumption | apply evaluateDemand_ranges | split)

theorem standardEval_ranges {t : State} (s0 : State) (h : Ranges t) : Ranges (standardEval s0 t) := by
  unfold standardEval
  try dsimp only
  with_reducible repeat' (first | assumption | apply setReg_ranges | apply setDrum_ranges | split)
  all_goals first
    | exact fun h => { h.reg with }
    | exact fun h => { h.reg with lock := Nat.zero_le _ }
    | exact fun _ => ⟨show (-524287 : Int) ≤ 0 by decide, show (0 : Int) ≤ 524287 by decide, Nat.zero_le _, Nat.zero_le _⟩
    | exact fun h => ⟨h.drum.1, h.drum.2, h.drum.3⟩
    | exact fun h => ⟨h.drum.1, h.drum.2, by simp⟩

theorem clamp_le {x lo hi : Nat} (h : lo ≤ hi) : lo ≤ clamp x lo hi ∧ clamp x lo hi ≤ hi := by
  unfold clamp
  repeat' split
  all_goals omega

theorem rampTick_ranges {t : State} (h : Ranges t) : Ranges (rampTick t) := by
  unfold rampTick
  split
  · exact h
  · dsimp only
    split
    · refine setDrum_ranges _ (fun h => ⟨?_, h.drum.2, h.drum.3⟩) h
      have h1 := (clamp_le (x := (standardInForce t).dff) h.tables.drum.dutyMin).2
      have h2 := dutyMax_le h.tables.drum
      have h3 := h.drum.1
      dsimp only
      repeat' split
      all_goals omega
    · exact setDrum_ranges _ (fun h => ⟨h.drum.1, h.drum.2, h.drum.3⟩) h

theorem spinupTimerExpiry_ranges {t : State} (h : Ranges t) : Ranges (spinupTimerExpiry t) := by
  unfold spinupTimerExpiry
  try dsimp only
  with_reducible repeat' (first | assumption | apply drumFault_ranges | split)

theorem stallDeadline_ranges {t : State} (h : Ranges t) : Ranges (stallDeadline t) := by
  unfold stallDeadline
  try dsimp only
  with_reducible repeat' (first | assumption | apply drumFault_ranges | split)

theorem brakingTimerExpiry_ranges {t : State} (h : Ranges t) : Ranges (brakingTimerExpiry t) := by
  unfold brakingTimerExpiry
  try dsimp only
  with_reducible repeat' (first | assumption | apply enterStopped_ranges | split)

theorem silenceTimerExpiry_ranges {t : State} (h : Ranges t) : Ranges (silenceTimerExpiry t) := by
  unfold silenceTimerExpiry
  try dsimp only
  with_reducible repeat' (first | assumption | apply enterStopped_ranges | split)

theorem cycleEnd_ranges {t : State} (h : Ranges t) : Ranges (cycleEnd t) :=
  setDrum_ranges _ (fun h => ⟨h.drum.1, h.drum.1, fun hs => by
    obtain ⟨h1, h2⟩ := h.drum.3 hs
    simp [h1, h2]⟩) h

theorem coverChange_ranges {t : State} (closed : Bool) (h : Ranges t) : Ranges (coverChange closed t) := by
  unfold coverChange
  try dsimp only
  with_reducible repeat' (first | assumption | apply setPins_ranges | apply drumFault_ranges | split)

theorem rewindFromFault_ranges {t : State} (h : Ranges t) : Ranges (rewindFromFault t) := by
  unfold rewindFromFault
  try dsimp only
  with_reducible repeat' (first | assumption | apply enterRewind_ranges | split)

theorem mechClear_ranges {t u : State} (hu : mechClear t = some u) (h : Ranges t) : Ranges u := by
  unfold mechClear at hu
  split at hu
  · cases hu
  · cases hu
    apply rewindFromFault_ranges
    split
    · exact enterStopped_ranges h
    · exact h

theorem cadenceStart_ranges {t : State} (h : Ranges t) : Ranges (cadenceStart t) := by
  unfold cadenceStart
  try dsimp only
  with_reducible repeat' (first | assumption | apply setSender_ranges | split)
  all_goals first | exact fun h => h.linesSent

theorem offerEntry_ok (e : Entry) {x : LineStore} (h : StoreOk x) : StoreOk (offerEntry e x) := by
  unfold offerEntry
  split
  · exact { h with fill := by simp; omega, accepted := satInc_le h.accepted }
  · exact { h with overruns := satInc_le h.overruns }

theorem storeOffer_ranges {t : State} (e : Entry) (h : Ranges t) : Ranges (storeOffer e t) :=
  cadenceStart_ranges (setStore_ranges _ (fun h => offerEntry_ok e h.store) h)

theorem lastEntryWritten_ranges {t : State} (h : Ranges t) : Ranges (lastEntryWritten t) := by
  unfold lastEntryWritten
  try dsimp only
  with_reducible repeat' (first | assumption | apply setStore_ranges | apply setSender_ranges | split)
  all_goals first | exact fun h => { h.store with } | exact fun h => h.linesSent

theorem offerList_ranges {t : State} (l : List WaitEntry) (h : Ranges t) : Ranges (offerList l t) := by
  induction l generalizing t with
  | nil => exact setScan_ranges _ (fun h => ⟨h.scan.1, h.scan.2⟩) h
  | cons e rest ih =>
    unfold offerList
    split
    · exact ih (storeOffer_ranges _ h)
    · exact setScan_ranges _ (fun h => ⟨h.scan.1, h.scan.2⟩) h

theorem signalIfDue_ranges {t : State} (h : Ranges t) : Ranges (signalIfDue t) := by
  unfold signalIfDue
  try dsimp only
  with_reducible repeat'
    first
    | assumption | apply setScan_ranges | apply lastEntryWritten_ranges | apply rewindInAttempt_ranges | split
  all_goals first | exact fun h => ⟨h.scan.1, h.scan.2⟩

theorem offerReady_ranges {t : State} (h : Ranges t) : Ranges (offerReady t) := offerList_ranges _ h

theorem takeSample_ranges {t : State} (k : Nat) (h : Ranges t) : Ranges (takeSample k t) := by
  unfold takeSample
  try dsimp only
  with_reducible repeat'
    first
    | assumption | apply setScan_ranges | apply requestPhoto_ranges | apply offerReady_ranges | split
  all_goals first | exact fun h => ⟨h.scan.1, h.scan.2⟩

theorem whiteAfter_le {x : Scanner} (h : ScannerOk x) (hc : 0 < x.whiteCount) : whiteAfter x ≤ 4095 := by
  have hm : x.whiteSum / x.whiteCount ≤ 4095 := by
    rw [Nat.div_le_iff_le_mul hc]
    have := h.sum
    omega
  have := h.wRef
  unfold whiteAfter
  dsimp only
  split <;> omega

theorem updateWhite_ranges {t : State} (h : Ranges t) : Ranges (updateWhite t) := by
  unfold updateWhite
  split
  · exact setScan_ranges _ (fun h => ⟨h.scan.1, whiteAfter_le h.scan ‹_›⟩) h
  · exact h

theorem lampFault_ranges {t : State} (h : Ranges t) : Ranges (lampFault t) := by
  unfold lampFault
  try dsimp only
  with_reducible repeat'
    first
    | assumption | apply setLamp_ranges | apply attemptEnd_ranges | apply stopScanner_ranges

theorem finishRun_ranges {t : State} (h : Ranges t) : Ranges (finishRun t) :=
  signalIfDue_ranges (setScan_ranges _ (fun h => ⟨h.scan.1, h.scan.2⟩) h)

theorem finishAtSample_ranges {t : State} (h : Ranges t) : Ranges (finishAtSample t) := by
  unfold finishAtSample
  try dsimp only
  with_reducible repeat'
    first
    | assumption | apply updateWhite_ranges | apply lampFault_ranges | apply finishRun_ranges | split

theorem openRevolution_ranges {t : State} (rev : Nat) (h : Ranges t) : Ranges (openRevolution rev t) :=
  takeSample_ranges _ (setScan_ranges _ (fun h => ⟨Nat.zero_le _, h.scan.2⟩) h)

theorem closeRevolution_ranges {t : State} (h : Ranges t) : Ranges (closeRevolution t) := by
  unfold closeRevolution
  try dsimp only
  with_reducible repeat'
    first
    | assumption | apply updateWhite_ranges | apply lampFault_ranges | apply finishRun_ranges
    | apply openRevolution_ranges | split

theorem scannerAtIndex_ranges {t : State} (h : Ranges t) : Ranges (scannerAtIndex t) := by
  unfold scannerAtIndex
  try dsimp only
  with_reducible repeat'
    first
    | assumption | apply setScan_ranges | apply openRevolution_ranges | apply closeRevolution_ranges
    | split
  all_goals first | exact fun h => ⟨h.scan.1, h.scan.2⟩

theorem scannerAtCount_ranges {t : State} (pos : Nat) (h : Ranges t) : Ranges (scannerAtCount pos t) := by
  unfold scannerAtCount
  try dsimp only
  with_reducible repeat'
    first
    | assumption | apply takeSample_ranges | apply finishAtSample_ranges | split

theorem takeWhite_ranges {t : State} (reading : Nat) (hr : reading ≤ 4095) (h : Ranges t) :
    Ranges (takeWhite reading t) := by
  have key : Ranges (offerReady (t.setScan
      { t.scan with
        whiteSum := t.scan.whiteSum + reading, whiteCount := t.scan.whiteCount + 1
        waiting := fillWhite t.scan.waiting })) :=
    offerReady_ranges (setScan_ranges _ (fun h => ⟨by have := h.scan.1; dsimp only; omega, h.scan.2⟩) h)
  unfold takeWhite
  split
  · dsimp only
    split
    · exact finishAtSample_ranges key
    · exact key
  · exact signalIfDue_ranges (offerReady_ranges (setScan_ranges _ (fun h => ⟨h.scan.1, h.scan.2⟩) h))

theorem takePicture_ranges {t : State} (reading : Nat) (h : Ranges t) : Ranges (takePicture reading t) :=
  signalIfDue_ranges (offerReady_ranges (setScan_ranges _ (fun h => ⟨h.scan.1, h.scan.2⟩) h))

theorem handResult_ranges {t : State} (reading : Nat) (hr : reading ≤ 4095) (h : Ranges t) :
    Ranges (handResult reading t) := by
  unfold handResult
  split
  · exact h
  · exact takeTherm_ranges _ h
  · exact h
  · exact takeWhite_ranges _ hr h
  · exact takePicture_ranges _ h

theorem conversionComplete_ranges {t : State} (reading : Nat) (hr : reading ≤ 4095) (h : Ranges t) :
    Ranges (conversionComplete reading t) := by
  unfold conversionComplete
  split
  · exact h
  · exact startNextConversion_ranges (handResult_ranges _ hr h)

theorem encoderCount_ranges {t : State} (dir : Dir) (h : Ranges t) : Ranges (encoderCount dir t) := by
  unfold encoderCount
  try dsimp only
  with_reducible repeat'
    first
    | assumption | apply countForward_ranges | apply headAtCount_ranges | apply scannerAtCount_ranges
    | apply countReverse_ranges | split

theorem indexPulse_ranges {t : State} (h : Ranges t) : Ranges (indexPulse t) := by
  unfold indexPulse
  try dsimp only
  with_reducible repeat'
    first
    | assumption | apply boundaryAt_ranges | apply checkIndex_ranges | apply headAtIndex_ranges
    | apply scannerAtIndex_ranges

theorem startAttempt_ranges {t : State} (slot : Nat) (p : PortId) (substituted : Bool)
    (hg : ∀ r, t.rec? slot = some r → r.state = .granted) (h : Ranges t) :
    Ranges (startAttempt slot p substituted t) := by
  unfold startAttempt
  dsimp only
  refine setHead_ranges _ (fun _ => Nat.zero_le _) (setDrum_ranges _ (fun h => ⟨h.drum.1, h.drum.2, h.drum.3⟩)
    (setStore_ranges _ (fun _ => ⟨Nat.zero_le _, Nat.zero_le _, Nat.zero_le _, Nat.zero_le _, Nat.zero_le _, Nat.zero_le _⟩)
      (enterCarrying_ranges _ (setSender_ranges _ (fun _ => Nat.zero_le _)
      (setPics_ranges _ (fun h => { h.pics with }) (modRec_ranges _ _ (fun r hr ho => ?_) h))))))
  obtain ⟨g, h1, h2⟩ := ho.granted (hg r hr)
  have := (ho.grant g h1).allowed
  exact { ho with
    attempts := by simp; omega
    granted := fun hs => by cases hs
    each := fun a ha => by
      rcases List.mem_append.1 ha with ha | ha
      · exact ho.each a ha
      · rw [List.mem_singleton.1 ha]
        refine ⟨?_, Nat.zero_le _, Nat.zero_le _, Nat.zero_le _, Nat.zero_le _, Nat.zero_le _, Nat.zero_le _, Nat.zero_le _,
          Nat.zero_le _⟩
        simp only [newAttempt]; omega }

/-- The record of the on-drum slot has the on-drum record's state. -/
theorem onDrumState_slot {t : State} {slot : Nat} {r : PicRecord} (h1 : t.pics.onDrum = some slot)
    (h2 : t.rec? slot = some r) : onDrumState t = r.state := by
  simp [onDrumState, onDrumRec, h1, h2]

theorem attemptReady_granted {t : State} (h : attemptReady t = true) : onDrumState t = .granted := by
  simp only [attemptReady, Bool.and_eq_true, decide_eq_true_eq] at h
  exact h.1.1.1.1.1

theorem attemptStart_ranges {t : State} (h : Ranges t) : Ranges (attemptStart t) := by
  unfold attemptStart
  split
  · rename_i hr
    split
    · rename_i slot p sub hs _
      exact startAttempt_ranges _ _ _ (fun r h2 => (onDrumState_slot hs h2).symm.trans (attemptReady_granted hr)) h
    · exact h
  · exact h

theorem startToneExpiry_ranges {t : State} (h : Ranges t) : Ranges (startToneExpiry t) := by
  unfold startToneExpiry
  try dsimp only
  with_reducible repeat' (first | assumption | apply setSender_ranges | apply setScan_ranges | split)
  all_goals first | exact fun h => ⟨h.scan.1, h.scan.2⟩ | exact fun h => h.linesSent

theorem underrun_ranges {t : State} (h : Ranges t) : Ranges (underrun t) := by
  have key : Ranges (t.setStore { t.store with underruns := satInc 65535 t.store.underruns }) :=
    setStore_ranges _ (fun h => { h.store with underruns := satInc_le h.store.underruns }) h
  unfold underrun
  dsimp only
  split
  · exact modOnDrum_ranges _ (fun _ hr => { hr with }) (setStore_ranges _ (fun h => { h.store with }) key)
  · exact key

theorem takeEntry_ranges {t : State} (h : Ranges t) : Ranges (takeEntry t) := by
  unfold takeEntry
  split
  · rename_i e rest he
    refine setSender_ranges _ (fun h => ?_) (setStore_ranges _ (fun h => { h.store with
      fill := ?_, sent := satInc_le h.store.sent }) h)
    · unfold sendEntry
      dsimp only
      split
      · exact satInc_le h.linesSent
      · exact h.linesSent
    · have := h.store.fill
      rw [he] at this
      exact Nat.le_of_succ_le this
  · split
    · split
      · exact attemptEnd_ranges _ h
      · exact h
    · exact underrun_ranges h

theorem cadenceEvent_ranges {t : State} (h : Ranges t) : Ranges (cadenceEvent t) := by
  unfold cadenceEvent
  try dsimp only
  with_reducible repeat' (first | assumption | apply setSender_ranges | apply takeEntry_ranges | split)
  all_goals first | exact fun h => h.linesSent

theorem startReports_ranges {t : State} (h : Ranges t) : Ranges (startReports t) := by
  unfold startReports
  try dsimp only
  with_reducible repeat' (first | assumption | apply reportStart_ranges | split)

theorem stopToneExpiry_ranges {t : State} (h : Ranges t) : Ranges (stopToneExpiry t) := by
  unfold stopToneExpiry
  try dsimp only
  with_reducible repeat'
    first
    | assumption | apply startReports_ranges | apply setSender_ranges | apply setPort_ranges | apply leaveCarrying_ranges | split
  all_goals first | exact fun h => { h.port _ with } | exact fun h => h.linesSent

theorem lineupStart_ranges {t : State} (h : Ranges t) : Ranges (lineupStart t) := by
  unfold lineupStart
  try dsimp only
  with_reducible repeat'
    first
    | assumption | apply setSender_ranges | apply enterCarrying_ranges | split
  all_goals first | exact fun h => h.linesSent

theorem lineupWhiteExpiry_ranges {t : State} (h : Ranges t) : Ranges (lineupWhiteExpiry t) := by
  unfold lineupWhiteExpiry
  try dsimp only
  with_reducible repeat' (first | assumption | apply setSender_ranges | split)
  all_goals first | exact fun h => h.linesSent

theorem endLineup_ranges {t : State} (h : Ranges t) : Ranges (endLineup t) := by
  unfold endLineup
  try dsimp only
  with_reducible repeat'
    first
    | assumption | apply setSender_ranges | apply leaveCarrying_ranges | split
  all_goals first | exact fun h => h.linesSent

theorem lineupBlackExpiry_ranges {t : State} (h : Ranges t) : Ranges (lineupBlackExpiry t) := by
  unfold lineupBlackExpiry
  try dsimp only
  with_reducible repeat' (first | assumption | apply endLineup_ranges | split)

theorem loopCurrentLost_ranges {t : State} (p : PortId) (h : Ranges t) : Ranges (loopCurrentLost p t) := by
  unfold loopCurrentLost
  try dsimp only
  with_reducible repeat' (first | assumption | apply setPort_ranges | split)
  all_goals first | exact fun h => { h.port _ with }

theorem loopCurrentReturn_ranges {t : State} (p : PortId) (h : Ranges t) : Ranges (loopCurrentReturn p t) := by
  unfold loopCurrentReturn
  try dsimp only
  with_reducible repeat' (first | assumption | apply setPort_ranges)
  all_goals first | exact fun h => { h.port _ with }

theorem senderLoopFault_ranges {t : State} (h : Ranges t) : Ranges (senderLoopFault t) := by
  unfold senderLoopFault
  try dsimp only
  with_reducible repeat'
    first
    | assumption | apply setSender_ranges | apply attemptEnd_ranges | apply endLineup_ranges | split
  all_goals first | exact fun h => h.linesSent

theorem loopLossExpiry_ranges {t : State} (p : PortId) (h : Ranges t) : Ranges (loopLossExpiry p t) := by
  unfold loopLossExpiry
  try dsimp only
  with_reducible repeat'
    first
    | assumption | apply setPort_ranges | apply senderLoopFault_ranges | apply leaveCarrying_ranges
    | split
  all_goals first | exact fun h => { h.port _ with }

theorem breakTonePresent_ranges {t : State} (p : PortId) (h : Ranges t) : Ranges (breakTonePresent p t) := by
  unfold breakTonePresent
  try dsimp only
  with_reducible repeat' (first | assumption | apply setPort_ranges | split)
  all_goals first | exact fun h => { h.port _ with }

theorem breakToneAbsent_ranges {t : State} (p : PortId) (h : Ranges t) : Ranges (breakToneAbsent p t) := by
  unfold breakToneAbsent
  try dsimp only
  with_reducible repeat' (first | assumption | apply setPort_ranges)
  all_goals first | exact fun h => { h.port _ with }

theorem breakExpiry_ranges {t : State} (p : PortId) (h : Ranges t) : Ranges (breakExpiry p t) := by
  unfold breakExpiry
  try dsimp only
  with_reducible repeat' (first | assumption | apply setPort_ranges | apply attemptEnd_ranges | split)
  all_goals first | exact fun h => { h.port _ with }

theorem receptionStart_ranges {t : State} (p : PortId) (marks : Nat) (h : Ranges t) : Ranges (receptionStart p marks
    t) := by
  unfold receptionStart
  dsimp only
  split
  · split
    · exact setPort_ranges _ _ (fun h => { h.port _ with }) h
    · exact startReports_ranges (setPort_ranges _ _ (fun h => { h.port _ with }) h)
  · exact h

theorem receptionEnded_ok {x : Port} (h : PortRange x) : PortRange (receptionEnded x) := { h with }

theorem blockErrorEnded_ok {x : Port} (h : PortRange x) : PortRange (blockErrorEnded x) :=
  { h with blockErrors := satInc_le h.blockErrors }

theorem echoCounted_ok {x : Port} (good : Bool) (h : PortRange x) : PortRange (echoCounted good x) := by
  unfold echoCounted
  split
  · exact { h with consecutive := Nat.zero_le _ }
  · exact { h with echoFailures := satInc_le h.echoFailures, consecutive := satInc_le h.consecutive }

theorem portRestarted_ok {x : Port} (keep : Bool) (_ : PortRange x) : PortRange (portRestarted keep x) := by
  unfold portRestarted
  split <;> exact ⟨Nat.zero_le _, Nat.zero_le _, Nat.zero_le _⟩

theorem syncFailed_ranges {t : State} (p : PortId) (h : Ranges t) : Ranges (syncFailed p t) := by
  unfold syncFailed
  try dsimp only
  with_reducible repeat' (first | assumption | apply setPort_ranges | split)
  all_goals exact fun h => receptionEnded_ok (h.port _)

theorem blockError_ranges {t : State} (p : PortId) (h : Ranges t) : Ranges (blockError p t) := by
  unfold blockError
  try dsimp only
  with_reducible repeat' (first | assumption | apply setPort_ranges | split)
  all_goals first | exact fun h => receptionEnded_ok (h.port _) | exact fun h => blockErrorEnded_ok (h.port _)

theorem turnaroundExpiry_ranges {t : State} (p : PortId) (h : Ranges t) : Ranges (turnaroundExpiry p t) := by
  unfold turnaroundExpiry
  try dsimp only
  with_reducible repeat' (first | assumption | apply setPort_ranges | apply startReports_ranges | split)
  all_goals first | exact fun h => { h.port _ with }

theorem endReport_ranges {t : State} (p : PortId) (good : Bool) (h : Ranges t) : Ranges (endReport p good t) := by
  unfold endReport
  try dsimp only
  with_reducible repeat' (first | assumption | apply setPort_ranges | apply setSender_ranges | split)
  all_goals first | exact fun h => { echoCounted_ok good (h.port _) with } | exact fun h => h.linesSent

theorem echoFailure_ranges {t : State} (p : PortId) (echoes : List Echo) (h : Ranges t) : Ranges (echoFailure p echoes t) := by
  unfold echoFailure
  split
  · exact endReport_ranges _ _ h
  · exact h

theorem reportEnd_ranges {t : State} (p : PortId) (echoes : List Echo) (h : Ranges t) : Ranges (reportEnd p echoes t) :=
  endReport_ranges _ _ h

theorem lapseEval_ranges {t : State} (s0 : State) (h : Ranges t) : Ranges (lapseEval s0 t) := by
  unfold lapseEval
  try dsimp only
  with_reducible repeat' (first | assumption | apply setSender_ranges | split)
  all_goals first | exact fun h => h.linesSent

theorem portFailEval_ranges {t : State} (s0 : State) (h : Ranges t) : Ranges (portFailEval s0 t) := by
  unfold portFailEval
  try dsimp only
  with_reducible repeat' (first | assumption | apply finishRecord_ranges | split)

theorem attemptEval_ranges {t : State} (s0 : State) (h : Ranges t) : Ranges (attemptEval s0 t) := by
  unfold attemptEval
  with_reducible repeat' (first | assumption | apply attemptStart_ranges | split)

theorem lineupEval_ranges {t : State} (s0 : State) (h : Ranges t) : Ranges (lineupEval s0 t) := by
  unfold lineupEval
  with_reducible repeat' (first | assumption | apply lineupStart_ranges | split)

theorem settle_ranges {t : State} (s0 : State) (h : Ranges t) : Ranges (settle s0 t) := by
  unfold settle
  try dsimp only
  with_reducible repeat'
    first
    | assumption | apply portFailEval_ranges | apply lapseEval_ranges | apply drumEval_ranges
    | apply standardEval_ranges | apply lampEval_ranges | apply headEval_ranges
    | apply attemptEval_ranges | apply lineupEval_ranges

/-- What a judged content may hold: entries that passed their checks and clamps (R122, R123). -/
def ContentOk : LoadContent → Prop
  | .tone t => toneOk t
  | .standard _ e => standardOk e
  | .drum p => DrumProfileOk p
  | .scan p => scanOk p = true
  | .line _ lp => LineProfileOk lp
  | .accept t => acceptOk t = true ∧ t.length = 33
  | .roster _ e => rosterOk e
  | .template _ l => templateOk l = true
  | .strobe t => StrobeTableOk t

theorem placeLoad_ranges {t : State} (c : LoadContent) (hc : ContentOk c) (h : Ranges t) : Ranges (placeLoad c t) := by
  unfold placeLoad
  cases c with
  | tone x =>
    dsimp only
    split
    · exact setTables_ranges _ (fun h => { h.tables with tonePending := by rintro x' ⟨⟩; exact hc }) h
    · exact setTables_ranges _ (fun h => { h.tables with tone := hc }) h
  | standard k e =>
    dsimp only
    split
    · exact setTables_ranges _ (fun h => { h.tables with standardPending := by rintro k' e' ⟨⟩; exact hc }) h
    · refine setTables_ranges _ (fun h => { h.tables with standards := ?_, standardCount := ?_ }) h
      · intro x hx
        rcases List.mem_or_eq_of_mem_set hx with hx | rfl
        · exact h.tables.standards x hx
        · exact hc
      · simpa using h.tables.standardCount
  | drum p =>
    dsimp only
    split
    · exact setTables_ranges _ (fun h => { h.tables with drumPending := by rintro p' ⟨⟩; exact hc }) h
    · exact takeDrumProfile_ranges _ hc h
  | scan p =>
    dsimp only
    split
    · exact setTables_ranges _ (fun h => { h.tables with scanPending := by rintro p' ⟨⟩; exact hc }) h
    · exact setTables_ranges _ (fun h => { h.tables with scan := hc }) h
  | line p lp =>
    dsimp only
    split
    · exact setTables_ranges _ (fun h => { h.tables with linePending := by rintro q' p' ⟨⟩; exact hc }) h
    · exact takeLineProfile_ranges _ _ hc h
  | accept x => exact setTables_ranges _ (fun h => { h.tables with accept := hc.1, acceptCount := hc.2 }) h
  | roster i e =>
    refine setTables_ranges _ (fun h => { h.tables with
      rosterCount := by simpa using h.tables.rosterCount, roster := fun x hx => ?_ }) h
    rcases List.mem_or_eq_of_mem_set hx with hx | rfl
    · exact h.tables.roster x hx
    · exact hc
  | template i l =>
    refine setTables_ranges _ (fun h => { h.tables with
      templateCount := by simpa using h.tables.templateCount, template := fun x hx => ?_ }) h
    rcases List.mem_or_eq_of_mem_set hx with hx | rfl
    · exact h.tables.template x hx
    · exact hc
  | strobe x => exact setTables_ranges _ (fun h => { h.tables with strobe := hc }) h

theorem countLoad_ranges {t : State} (k : TableKind) (h : Ranges t) : Ranges (countLoad k t) := by
  refine setTables_ranges _ (fun h => { h.tables with counts := ⟨by simpa using h.tables.counts.1, fun n hn => ?_⟩ }) h
  rcases mem_modify hn with hm | ⟨q, _, rfl⟩
  · exact h.tables.counts.2 n hm
  · exact Nat.mod_lt _ (by decide)

/-- A byte's number is at most 255. -/
theorem byteAt_le (l : List Byte) (i : Nat) : byteAt l i ≤ 255 := by
  have := (l.getD i 0).isLt
  unfold byteAt
  omega

theorem mapM_option_length {α β : Type} (f : α → Option β) : ∀ (l : List α) (r : List β), l.mapM f = some r → r.length = l.length := by
  intro l
  induction l with
  | nil => intro r h; simp at h; simp [h]
  | cons a l ih =>
    intro r h
    simp only [List.mapM_cons, Option.pure_def, Option.bind_eq_bind, Option.bind_eq_some_iff] at h
    obtain ⟨b, _, r', hr, h⟩ := h
    cases h
    simp [ih r' hr]

theorem rising_map (f : Band → Band) (hf : ∀ b, (f b).threshold = b.threshold) : ∀ l : List Band, rising (l.map f) = rising l
  | [] => rfl
  | [_] => rfl
  | a :: b :: rest => by
    have := rising_map f hf (b :: rest)
    simp only [List.map_cons] at this
    simp [rising, hf, this]

/-- The clamps leave a checked strobe table within its bounds (R123, R134). -/
theorem clampStrobe_ok (c : List Byte) (h : strobeOk (rawStrobe c) = true) : StrobeTableOk (clampStrobe (rawStrobe c)) := by
  refine ⟨?_, by simp [clampStrobe, rawStrobe], fun b hb => ?_⟩
  · simp only [strobeOk, Bool.and_eq_true, decide_eq_true_eq, List.all_eq_true] at h ⊢
    refine ⟨⟨⟨⟨?_, fun b hb => ?_⟩, h.1.1.2⟩, h.1.2⟩, h.2⟩
    · rw [← h.1.1.1.1]; exact rising_map (fun b => { b with base := clamp b.base 100 4000 }) (fun _ => rfl) _
    · obtain ⟨b', hb', rfl⟩ := List.mem_map.1 hb
      exact h.1.1.1.2 b' hb'
  · obtain ⟨b', _, rfl⟩ := List.mem_map.1 hb
    exact clamp_le (by omega)

theorem readRoster_ok {s : State} {i : Nat} {c : List Byte} {e : RosterEntry} (hc : c.length = 10)
    (h : readRoster s i c = some e) : rosterOk e := by
  unfold readRoster at h
  dsimp only at h
  split at h
  · cases h; decide
  · split at h
    · rename_i hk
      cases h
      exact ⟨hk.1, by simp [hc], hk.2.1⟩
    · cases h

theorem judgeContent_ok {s : State} {k : TableKind} {i : Nat} {c : List Byte} {x : LoadContent} {b : Bool}
    (hl : contentLengthOk k c.length = true) (h : judgeContent s k i c = some (x, b)) : ContentOk x := by
  cases k <;> simp only [judgeContent] at h
  case tone =>
    cases h
    refine ⟨by simpa [readTone, contentLengthOk] using hl, fun v hv => ?_⟩
    obtain ⟨b, _, rfl⟩ := List.mem_map.1 hv
    have := b.isLt
    omega
  case standard =>
    simp only [readStandard] at h
    split at h
    · rename_i hc; cases h; exact hc
    · cases h
  case drum =>
    split at h
    · rename_i hc
      cases h
      refine ⟨?_, ?_, ?_⟩
      · exact hc
      · simp [clampDrum]
      · simp [clampDrum]
    · cases h
  case scan =>
    split at h
    · rename_i hc; cases h; exact hc
    · cases h
  case line =>
    cases hp : Polarity.ofCode (byteAt c 3) with
    | none => simp [hp] at h
    | some pol =>
      simp only [hp, Option.bind_some] at h
      split at h
      · rename_i hc
        cases h
        have hcar := clamp_le (x := (rawLine c pol).carrierFreq) (lo := 1200) (hi := 2400) (by omega)
        refine ⟨?_, ?_, hcar, ?_⟩
        · unfold lineOk at hc ⊢
          rw [Bool.and_eq_true] at hc ⊢
          refine ⟨hc.1, decide_eq_true ?_⟩
          have : (rawLine c pol).lossTime ≤ 2550 := of_decide_eq_true hc.2
          simp only [clampLine]
          omega
        · simp [clampLine]
        · simp [clampLine]
      · cases h
  case accept =>
    cases hr : readAccept c with
    | none => simp [hr] at h
    | some t =>
      simp only [hr, Option.bind_some] at h
      split at h
      · rename_i hc
        cases h
        have := mapM_option_length _ _ _ hr
        exact ⟨hc, by rw [this]; simpa [contentLengthOk] using hl⟩
      · cases h
  case roster =>
    cases hr : readRoster s i c with
    | none => simp [hr] at h
    | some e => simp only [hr, Option.map_some, Option.some.injEq, Prod.mk.injEq] at h; rw [← h.1]; exact readRoster_ok (by simpa [contentLengthOk] using hl) hr
  case template =>
    split at h
    · rename_i hc; cases h; exact hc
    · cases h
  case strobe =>
    split at h
    · rename_i hc; cases h; exact clampStrobe_ok c hc
    · cases h

theorem loadTable_ranges {t : State} (k : TableKind) (i : Nat) (c : List Byte) (hl : contentLengthOk k c.length = true)
    (h : Ranges t) :
    Ranges (loadTable k i c t).1 := by
  unfold loadTable
  split
  · exact h
  · split
    · exact h
    · exact countLoad_ranges _ (placeLoad_ranges _ (judgeContent_ok hl ‹_›) h)

theorem ownPoll_ranges {t : State} (o : Order) (h : Ranges t) : Ranges (ownPoll o t).1 := by
  unfold ownPoll
  try dsimp only
  with_reducible repeat' (first | assumption)

theorem judgeGrant_ranges {t : State} (slot : Nat) (r : PicRecord) (number : Nat) (g : Grant)
    (hr : t.rec? slot = some r) (hn : 1 ≤ number ∧ number ≤ 9999) (hg : GrantOk g) (h : Ranges t) :
    Ranges (judgeGrant slot r number g t).1 := by
  unfold judgeGrant
  repeat' split
  all_goals first | exact h | skip
  · rename_i hs hl
    refine modRec_ranges _ _ (fun q hq ho => ?_) h
    obtain rfl : r = q := Option.some.inj (hr.symm.trans hq)
    exact { ho with grant := by rintro g' ⟨⟩; exact hg, granted := fun _ => ⟨g, rfl, Nat.lt_of_not_le hl⟩ }
  · exact modRec_ranges _ _ (fun q _ ho =>
      { ho with
        receipts := Nat.zero_le _, attempts := Nat.zero_le _, granted := fun _ => ⟨g, rfl, hg.allowed.1⟩
        grant := by rintro g' ⟨⟩; exact hg
        each := (fun _ h => nomatch h), codes := (fun _ h => nomatch h), number := by rintro n' ⟨⟩; exact hn
        dropped := Nat.zero_le _ }) h

theorem grantOnDrum_ranges {t : State} (number : Nat) (g : Grant) (hn : 1 ≤ number ∧ number ≤ 9999) (hg : GrantOk g)
    (h : Ranges t) : Ranges (grantOnDrum number g t).1 := by
  unfold grantOnDrum
  split
  · rename_i slot r hs hr
    have hq : t.rec? slot = some r := by simpa [onDrumRec, hs] using hr
    repeat' split
    all_goals first | exact h | exact judgeGrant_ranges _ _ _ _ hq hn hg h
  · exact h

theorem ownGrant_ranges {t : State} (o : Order) (h : Ranges t) : Ranges (ownGrant o t).1 := by
  unfold ownGrant
  split
  · exact h
  · split
    · exact h
    · rename_i g hg
      unfold GrantFields.grant at hg
      split at hg
      · rename_i hc
        cases hg
        exact grantOnDrum_ranges _ _ ⟨hc.1, hc.2.1⟩ ⟨hc.2.2.1, ⟨hc.2.2.2.1, hc.2.2.2.2.1⟩, hc.2.2.2.2.2.2⟩ h
      · cases hg

theorem ownCancel_ranges {t : State} (o : Order) (h : Ranges t) : Ranges (ownCancel o t).1 := by
  unfold ownCancel
  try dsimp only
  with_reducible repeat'
    first
    | assumption | apply attemptEnd_ranges | apply finishRecord_ranges | split

theorem resolve_ranges {t : State} (slot : Nat) (h : Ranges t) : Ranges (resolve slot t) := by
  unfold resolve
  dsimp only
  split
  · rename_i hl
    exact grantAgain_ranges _ (grant_of_left hl.2) h
  · split
    · exact finishRecord_ranges _ _ _ h
    · exact finishRecord_ranges _ _ _ h

theorem mergeItem_ok (m : Merge) (i : Nat × Nat) (h : RecordOk m.record) : RecordOk (mergeItem m i).record := by
  have hd : RecordOk (dropItem m).record := { h with dropped := satInc_le h.dropped }
  unfold mergeItem
  split
  · exact hd
  · split
    · exact hd
    · unfold mergeValid
      dsimp only
      split
      · split
        · exact h
        · refine { h with receipts := by simpa using h.receipts, codes := fun x hx => ?_ }
          obtain ⟨y, hy, rfl⟩ := List.mem_map.1 hx
          have := h.codes y hy
          split <;> exact this
      · split
        · refine { h with receipts := by simp; omega, codes := fun x hx => ?_ }
          rcases List.mem_append.1 hx with hx | hx
          · exact h.codes x hx
          · rw [List.mem_singleton.1 hx]
            dsimp only
            omega
        · exact hd

theorem mergeAll_ok (items : List (Nat × Nat)) (r : PicRecord) (h : RecordOk r) : RecordOk (mergeAll items r).record := by
  have key : ∀ (l : List (Nat × Nat)) (m : Merge), RecordOk m.record → RecordOk (l.foldl mergeItem m).record := by
    intro l
    induction l with
    | nil => exact fun _ h => h
    | cons i l ih => exact fun m h => ih _ (mergeItem_ok m i h)
  exact key items _ h

theorem ownReceipt_ranges {t : State} (o : Order) (h : Ranges t) : Ranges (ownReceipt o t).1 := by
  unfold ownReceipt
  split
  · exact h
  · rename_i slot _
    have key : Ranges (modRec slot
        (fun _ => (mergeAll (receiptPairs o.payload) ((t.rec? slot).getD recEmpty)).record) t) :=
      modRec_ranges _ _ (fun _ _ _ => mergeAll_ok _ _ (recD_ok h slot)) h
    dsimp only
    split
    · exact h
    · exact key
    · split
      · exact key
      · exact resolve_ranges _ key
    · split
      · exact requestSlip_ranges _ _ key
      · exact key
    all_goals exact h

theorem ownLoad_ranges {t : State} (o : Order) (hl : lengthOk .load o.payload = true) (h : Ranges t) :
    Ranges (ownLoad o t).1 := by
  unfold ownLoad
  split
  · exact h
  · rename_i k hk
    have hc : contentLengthOk k (o.payload.drop 2).length = true := by
      simp only [lengthOk, hk, Bool.and_eq_true, decide_eq_true_eq] at hl
      simpa using hl.2
    split
    · rename_i u clamped he
      have := loadTable_ranges k (byteAt o.payload 1) (o.payload.drop 2) hc h
      rw [he] at this
      exact this
    · exact h
    · exact h

theorem clockAt_ok {r : Reading} (h : readingOk r = true) : ClockOk (clockAt r) := by
  simp only [readingOk, Bool.and_eq_true, decide_eq_true_eq] at h
  obtain ⟨⟨⟨⟨⟨⟨⟨h1, h2⟩, h3⟩, h4⟩, h5⟩, h6⟩, h7⟩, h8⟩ := h
  exact ⟨⟨h1, h2⟩, ⟨h3, h4⟩, h5, h6, h7, h8⟩

theorem ownClock_ranges {t : State} (o : Order) (h : Ranges t) : Ranges (ownClock o t).1 := by
  unfold ownClock
  split
  · exact setClock_ranges _ (fun _ => clockAt_ok ‹_›) h
  · exact h

theorem ownLineup_ranges {t : State} (o : Order) (h : Ranges t) : Ranges (ownLineup o t).1 := by
  unfold ownLineup
  try dsimp only
  with_reducible repeat' (first | assumption | apply setSender_ranges | split)
  all_goals first | exact fun h => h.linesSent

theorem clearPort_ranges {t : State} (named : Bool) (p : PortId) (h : Ranges t) : Ranges (clearPort named p t) := by
  unfold clearPort
  try dsimp only
  with_reducible repeat' (first | assumption | apply setPort_ranges | split)
  all_goals first | exact fun h => { h.port _ with consecutive := Nat.zero_le _ }

theorem ownLineClear_ranges {t : State} (o : Order) (h : Ranges t) : Ranges (ownLineClear o t).1 := by
  unfold ownLineClear
  try dsimp only
  with_reducible repeat' (first | assumption | apply clearPort_ranges | split)

theorem ownMechClear_ranges {t : State} (o : Order) (h : Ranges t) : Ranges (ownMechClear o t).1 := by
  unfold ownMechClear
  split
  · exact mechClear_ranges ‹_› h
  · exact h

theorem ownSlip_ranges {t : State} (o : Order) (h : Ranges t) : Ranges (ownSlip o t).1 := by
  unfold ownSlip
  split
  · exact h
  · rename_i slot _
    have := requestSlip_ranges slot .reprint h
    split
    · split <;> rename_i he <;> rw [he] at this <;> first | exact h | exact this
    · exact h

theorem restartLineup_ranges {t : State} (h : Ranges t) : Ranges (restartLineup t) := by
  unfold restartLineup
  try dsimp only
  with_reducible repeat' (first | assumption | apply setSender_ranges | apply endLineup_ranges | split)
  all_goals first | exact fun h => h.linesSent

theorem restartAll_ranges {t : State} (own : Option PortId) (h : Ranges t) : Ranges (restartAll own t) := by
  unfold restartAll
  try dsimp only
  with_reducible repeat'
    first
    | assumption | apply setOrders_ranges | apply setPort_ranges | apply setDrum_ranges
    | apply restartLineup_ranges | apply attemptEnd_ranges
  all_goals first
    | exact fun _ => Nat.zero_le _
    | exact fun h => ⟨h.drum.1, h.drum.2, h.drum.3⟩
    | exact fun h => portRestarted_ok _ (h.port _)

theorem ownRestart_ranges {t : State} (o : Order) (h : Ranges t) : Ranges (ownRestart o t).1 := by
  unfold ownRestart
  try dsimp only
  with_reducible repeat' (first | assumption | apply restartAll_ranges)

theorem placeAnswer_ranges {t : State} (o : Order) (r : Report) (h : Ranges t) : Ranges (placeAnswer o r t) := by
  unfold placeAnswer
  try dsimp only
  with_reducible repeat' (first | assumption | apply setPort_ranges | split)
  all_goals first | exact fun h => { h.port _ with }

theorem answerAtOnce_ranges {t : State} (p : PortId) (r : Report) (h : Ranges t) : Ranges (answerAtOnce p r t) := by
  unfold answerAtOnce
  try dsimp only
  with_reducible repeat' (first | assumption | apply reportStart_ranges | apply addItem_ranges)

theorem joinQueue_ranges {t : State} (o : Order) (ho : t.orders.length < 4) (h : Ranges t) : Ranges (joinQueue o t) := by
  have key : ∀ x : Order, Ranges (t.setOrders (t.orders ++ [x])) := fun x =>
    setOrders_ranges _ (fun _ => by simp; omega) h
  unfold joinQueue
  dsimp only
  split
  · exact key _
  · exact addItem_ranges _ _ (key _)

theorem takeAtFull_ranges {t : State} (o : Order) (h : Ranges t) : Ranges (takeAtFull o t) := by
  unfold takeAtFull
  try dsimp only
  with_reducible repeat'
    first
    | assumption | apply answerAtOnce_ranges | apply restartAll_ranges | split

theorem admission_ranges {t : State} (o : Order) (h : Ranges t) : Ranges (admission o t) := by
  unfold admission
  split
  · exact joinQueue_ranges _ ‹_› h
  · exact takeAtFull_ranges _ h

theorem takeBroadcast_ranges {t : State} (p : PortId) (b : Block) (h : Ranges t) : Ranges (takeBroadcast p b t) :=
    by
  unfold takeBroadcast
  try dsimp only
  with_reducible repeat' (first | assumption | apply admission_ranges | split)

theorem takeAddressed_ranges {t : State} (p : PortId) (b : Block) (h : Ranges t) : Ranges (takeAddressed p b t) :=
    by
  unfold takeAddressed
  try dsimp only
  with_reducible repeat' (first | assumption | apply answerAtOnce_ranges | apply admission_ranges | split)

theorem takeGood_ranges {t : State} (p : PortId) (b : Block) (h : Ranges t) : Ranges (takeGood p b t) := by
  unfold takeGood
  try dsimp only
  with_reducible repeat'
    first
    | assumption | apply takeBroadcast_ranges | apply takeAddressed_ranges | split

theorem blockTake_ranges {t : State} (p : PortId) (bytes : List Byte) (h : Ranges t) : Ranges (blockTake p bytes t)
    := by
  unfold blockTake
  try dsimp only
  with_reducible repeat' (first | assumption | apply setPort_ranges | apply takeGood_ranges | split)
  all_goals first
    | exact fun h => receptionEnded_ok (h.port _)
    | exact fun h => blockErrorEnded_ok (h.port _)
    | exact fun h => { h.port _ with }

theorem panelTransmit_ranges {t : State} (h : Ranges t) : Ranges (panelTransmit t) := by
  unfold panelTransmit
  try dsimp only
  with_reducible repeat' (first | assumption | apply setPanel_ranges | split)

theorem markChanged_ranges {t : State} (old : PanelOut) (h : Ranges t) : Ranges (markChanged old t) := by
  unfold markChanged
  try dsimp only
  with_reducible repeat' (first | assumption | apply setPanel_ranges | split)

theorem panelRecordSent_ranges {t : State} (h : Ranges t) : Ranges (panelRecordSent t) := by
  unfold panelRecordSent
  try dsimp only
  with_reducible repeat' (first | assumption | apply setPanel_ranges | apply panelTransmit_ranges)

theorem giveNotice_ranges {t : State} (k : PanelKind) (n : Notice) (h : Ranges t) : Ranges (giveNotice k n t) := by
  unfold giveNotice
  try dsimp only
  with_reducible repeat' (first | assumption | apply setPanel_ranges)

theorem mount_ok {lines : Nat} {slug : List Byte} (h : mountOk lines slug = true) {serial : Nat}
    (hs : 1 ≤ serial ∧ serial ≤ 65535) : MountOk ⟨serial, slug, lines⟩ := by
  simp only [mountOk, Bool.and_eq_true, decide_eq_true_eq] at h
  exact ⟨hs, ⟨h.1.1.1.1, h.1.1.1.2⟩, ⟨h.1.2, h.2⟩⟩

theorem newRecord_ok {serial : Nat} {slug : List Byte} {lines : Nat} (h : MountOk ⟨serial, slug, lines⟩) :
    RecordOk (newRecord serial slug lines) :=
  { recEmpty_ok with granted := (fun hs => nomatch hs), mount := by rintro m ⟨⟩; exact h }

theorem set_ok {t : State} (h : Ranges t) (slot : Nat) {x : PicRecord} (hx : RecordOk x) :
    ∀ r ∈ t.pics.records.set slot x, RecordOk r := by
  intro r hr
  rcases List.mem_or_eq_of_mem_set hr with hr | rfl
  · exact h.records r hr
  · exact hx

theorem createRecord_ranges {t : State} (slot : Nat) (slug : List Byte) (lines : Nat) (hm : mountOk lines slug = true)
    (h : Ranges t) : Ranges (createRecord slot slug lines t) := by
  refine setPics_ranges _ (fun h => ⟨by simpa using h.slots, set_ok h _ (newRecord_ok (mount_ok hm h.serial)), ?_⟩) h
  have := h.serial
  dsimp only [serialAfter]
  split <;> omega

theorem editRecord_ranges {t : State} (slug : List Byte) (lines : Nat) (hm : mountOk lines slug = true) (h : Ranges t) :
    Ranges (editRecord slug lines t) := by
  refine modOnDrum_ranges _ (fun r hr => { hr with mount := fun m h => ?_ }) h
  obtain ⟨m', h1, rfl⟩ := Option.map_eq_some_iff.1 h
  exact mount_ok hm (hr.mount m' h1).serial

theorem loadPhotograph_ranges {t : State} (lines : Nat) (slug : List Byte) (h : Ranges t) : Ranges (loadPhotograph
    lines slug t) := by
  unfold loadPhotograph
  split
  · exact giveNotice_ranges _ _ h
  · rename_i hm
    have hm : mountOk lines slug = true := by simpa using hm
    repeat' split
    all_goals first
      | exact giveNotice_ranges _ _ h | exact editRecord_ranges _ _ hm h | exact createRecord_ranges _ _ _ hm h

theorem spinKey_ranges {t : State} (h : Ranges t) : Ranges (spinKey t) := by
  unfold spinKey
  try dsimp only
  with_reducible repeat' (first | assumption | apply setDrum_ranges | apply giveNotice_ranges | split)
  all_goals exact fun h => ⟨h.drum.1, h.drum.2, h.drum.3⟩

theorem stopKey_ranges {t : State} (h : Ranges t) : Ranges (stopKey t) := by
  unfold stopKey
  try dsimp only
  with_reducible repeat' (first | assumption | apply setDrum_ranges | apply giveNotice_ranges | split)
  all_goals exact fun h => ⟨h.drum.1, h.drum.2, h.drum.3⟩

theorem emptyRecord_ranges {t : State} (slot : Nat) (h : Ranges t) : Ranges (emptyRecord slot t) :=
  setPics_ranges _ (fun h => { h.pics with slots := by simpa using h.slots, records := set_ok h _ recEmpty_ok }) h

theorem abortKey_ranges {t : State} (h : Ranges t) : Ranges (abortKey t) := by
  unfold abortKey
  try dsimp only
  with_reducible repeat'
    first
    | assumption | apply giveNotice_ranges | apply emptyRecord_ranges | apply finishRecord_ranges
    | apply attemptEnd_ranges | split

theorem reprintKey_ranges {t : State} (h : Ranges t) : Ranges (reprintKey t) := by
  unfold reprintKey
  split
  · exact giveNotice_ranges _ _ h
  · rename_i slot _
    have := requestSlip_ranges slot .reprint h
    split
    · split <;> rename_i he <;> rw [he] at this <;> first | exact giveNotice_ranges _ _ h | exact this
    · exact giveNotice_ranges _ _ h

theorem resetMechKey_ranges {t : State} (h : Ranges t) : Ranges (resetMechKey t) := by
  unfold resetMechKey
  split
  · exact mechClear_ranges ‹_› h
  · exact giveNotice_ranges _ _ h

theorem panelHunting_ranges {t : State} (h : Ranges t) : Ranges (panelHunting t) := by
  unfold panelHunting
  try dsimp only
  with_reducible repeat' (first | assumption | apply setPanel_ranges)

theorem panelOwner_ranges {t : State} (k : PanelKind) (content : List Byte) (h : Ranges t) : Ranges (panelOwner k
    content t) := by
  unfold panelOwner
  try dsimp only
  with_reducible repeat'
    first
    | assumption | apply loadPhotograph_ranges | apply spinKey_ranges | apply stopKey_ranges
    | apply abortKey_ranges | apply reprintKey_ranges | apply resetMechKey_ranges | split

theorem panelPush_ranges {t : State} (b : Byte) (h : Ranges t) : Ranges (panelPush b t) := by
  unfold panelPush
  try dsimp only
  with_reducible repeat' (first | assumption | apply setPanel_ranges)

theorem panelPosition_ranges {t : State} (b : Byte) (h : Ranges t) : Ranges (panelPosition b t) := by
  unfold panelPosition
  try dsimp only
  with_reducible repeat'
    first
    | assumption | apply panelPush_ranges | apply panelHunting_ranges | apply panelOwner_ranges | split

theorem panelByte_ranges {t : State} (b : Option Byte) (h : Ranges t) : Ranges (panelByte b t) := by
  unfold panelByte
  try dsimp only
  with_reducible repeat'
    first
    | assumption | apply setPanel_ranges | apply panelHunting_ranges | apply panelPosition_ranges
    | split

theorem panelGap_ranges {t : State} (h : Ranges t) : Ranges (panelGap t) := by
  unfold panelGap
  try dsimp only
  with_reducible repeat' (first | assumption | apply panelHunting_ranges | split)

theorem panelLoad_ranges {t : State} (lines : Nat) (slug : List Byte) (h : Ranges t) : Ranges (panelLoad lines slug
    t) := by
  unfold panelLoad
  try dsimp only
  with_reducible repeat'
    first
    | assumption | apply panelHunting_ranges | apply loadPhotograph_ranges | split

theorem daysInMonth_pos (m y : Nat) : 1 ≤ daysInMonth m y := by
  unfold daysInMonth
  repeat' split
  all_goals omega

theorem nextDay_ok {c : Clock} (h : ClockOk c) : ClockOk (nextDay c) := by
  obtain ⟨⟨h1, h2⟩, ⟨h3, h4⟩, h5, h6, h7, h8⟩ := h
  unfold nextDay
  split
  · exact ⟨⟨h1, h2⟩, ⟨by dsimp only; omega, by dsimp only; omega⟩, h5, h6, h7, h8⟩
  · split
    · exact ⟨⟨by dsimp only; omega, by dsimp only; omega⟩, ⟨Nat.le_refl _, daysInMonth_pos _ _⟩, h5, h6, h7, h8⟩
    · refine ⟨⟨Nat.le_refl _, by dsimp only; omega⟩, ⟨Nat.le_refl _, daysInMonth_pos _ _⟩, ?_, h6, h7, h8⟩
      dsimp only
      split <;> omega

theorem nextSecond_ok {c : Clock} (h : ClockOk c) : ClockOk (nextSecond c) := by
  obtain ⟨hm, hd, h5, h6, h7, h8⟩ := h
  unfold nextSecond
  dsimp only
  split
  · exact ⟨hm, hd, h5, h6, h7, by dsimp only; omega⟩
  · split
    · exact ⟨hm, hd, h5, h6, by dsimp only; omega, Nat.zero_le _⟩
    · split
      · exact ⟨hm, hd, h5, by dsimp only; omega, Nat.zero_le _, Nat.zero_le _⟩
      · exact nextDay_ok ⟨hm, hd, h5, Nat.zero_le _, Nat.zero_le _, Nat.zero_le _⟩

theorem clockSecond_ranges {t : State} (h : Ranges t) : Ranges (clockSecond t) :=
  setClock_ranges _ (fun h => nextSecond_ok h.clock) h

theorem receiptExpiry_ranges {t : State} (h : Ranges t) : Ranges (receiptExpiry t) := by
  unfold receiptExpiry
  try dsimp only
  with_reducible repeat' (first | assumption | apply finishRecord_ranges | split)

/-! ### Events and the orders at the head of the queue -/

theorem shown_ranges {f : State → State} (hf : ∀ u, Ranges u → Ranges (f u)) {s : State} (h : Ranges s) :
    Ranges (shown f s) :=
  panelTransmit_ranges (markChanged_ranges _ (hf _ (panelTransmit_ranges h)))

theorem event_ranges {f : State → State} (hf : ∀ u, Ranges u → Ranges (f u)) {s : State} (h : Ranges s) :
    Ranges (event f s) :=
  shown_ranges (fun _ hu => settle_ranges _ (hf _ hu)) h

theorem panelFeed_ranges {t : State} (bytes : List (Option Byte)) (h : Ranges t) : Ranges (panelFeed bytes t) := by
  induction bytes generalizing t with
  | nil => exact h
  | cons b rest ih => exact ih (event_ranges (fun _ hu => panelByte_ranges b hu) h)

theorem executeHead_ranges {k : OrderKind} {owner : Order → State → State × Verdict}
    (hf : ∀ o u, lengthOk k o.payload = true → Ranges u → Ranges (owner o u).1) {s : State} (h : Ranges s) :
    Ranges (executeHead k owner s) := by
  unfold executeHead
  split
  · rename_i o rest ho
    have key : Ranges (s.setOrders rest) := by
      refine setOrders_ranges _ (fun h => ?_) h
      have := h.orders
      rw [ho] at this
      exact Nat.le_of_succ_le this
    split
    · rename_i hk
      unfold executeOrder
      split
      · rename_i hl
        rw [hk.2] at hl
        exact startReports_ranges (placeAnswer_ranges _ _ (hf _ _ hl key))
      · exact startReports_ranges (placeAnswer_ranges _ _ key)
    · exact h
  · exact h

end Sys2Proof.Machine
end

