-- ==== Sys2Proof/WellFormed.lean ====
section
/-! DEFINITION. Which commands are well formed: the bounds the spec's formats put on operands.
A meaning does not need them (every command has one on any operands, log 31); they say which
operands an event at the part's connections can carry. -/

namespace Sys2Proof

/-- The most bytes a reception can decode: 2 sync bytes, 5 header bytes, 96 payload bytes and 2 CRC bytes (R100, R101). -/
def maxReceptionBytes : Nat := 105

/-- The most bytes of a report on the line: the sync bytes, the header, 96 payload bytes and the CRC (R114). -/
def maxReportBytes : Nat := 105

/-- The most bytes a panel record can hold: start, kind, length, 18 content bytes and end (R170). -/
def maxPanelBytes : Nat := 22

/-- The operands lie within what the formats allow: at most a reception's bytes (R100, R101), a mark run counted up to 16
(06, section 6.1), at most one echo for each byte of a report (R80), a slug of 1 to 16 bytes (11, section 11.5), at least
one byte in a malformed panel record. -/
def Instr.wellFormed : Instr → Bool
  | .blockTake _ bytes => decide (bytes.length ≤ maxReceptionBytes)
  | .receptionStart _ marks => decide (marks ≤ 16)
  | .echoFailure heard => decide (heard.echoes.length ≤ maxReportBytes)
  | .reportEnd heard => decide (heard.echoes.length ≤ maxReportBytes)
  | .panelLoad _ slug => decide (1 ≤ slug.length) && decide (slug.length ≤ 16)
  | .panelRecordMalformed bytes => decide (1 ≤ bytes.length) && decide (bytes.length ≤ maxPanelBytes)
  | _ => true

end Sys2Proof
end

