-- ==== Sys2Proof/Tests/Slice0.lean ====
section
/-! SUPPORT. Tests: operands that the well-formedness check refuses, the spec's worked numbers, one step on small states, and
for every statement that has hypotheses a state that meets them. -/

namespace Sys2Proof.Tests

open Sys2Proof Sys2Proof.Machine

/-! ### Well-formedness: each check refuses an ill-formed operand -/

theorem test_wf_block_too_long : (Instr.blockTake .a (List.replicate 106 0)).wellFormed = false := by decide
theorem test_wf_block_longest : (Instr.blockTake .a (List.replicate 105 0)).wellFormed = true := by decide
theorem test_wf_marks : (Instr.receptionStart .b 17).wellFormed = false := by decide
theorem test_wf_echoes : (Instr.reportEnd ⟨.a, List.replicate 106 .absent⟩).wellFormed = false ∧
    (Instr.echoFailure ⟨.a, List.replicate 106 .absent⟩).wellFormed = false := by decide
theorem test_wf_slug_empty : (Instr.panelLoad 10 []).wellFormed = false := by decide
theorem test_wf_slug_long : (Instr.panelLoad 10 (List.replicate 17 65)).wellFormed = false := by decide
theorem test_wf_record_empty : (Instr.panelRecordMalformed []).wellFormed = false := by decide
theorem test_wf_record_long : (Instr.panelRecordMalformed (List.replicate 23 none)).wellFormed = false := by decide

/-! ### The spec's worked numbers -/

/-- 02, the trim across the fill and its rounding. -/
theorem test_trim : [0, 64, 120, 128, 141, 200, 256].map (fun f => trim true f drumDefault) =
      [-256, -128, -16, 0, 26, 144, 256] ∧
    [121, 135].map (fun f => trim true f { drumDefault with g := 10 }) = [-4, 4] ∧
    [0, 256].map (fun f => trim true f { drumDefault with g := 255 }) = [-400, 400] ∧
    trim false 0 drumDefault = 0 := by decide

/-- 02, the worked window at normal values. -/
theorem test_regulator_normal : rawError 62710 62500 26 = 184 ∧ integrate .neither 12000 184 = 12184 ∧
    correction drumDefault 184 12184 = 132 ∧ dutyWritten drumDefault 532 = 532 ∧
    memoryAfter drumDefault 532 = .neither := by decide

/-- 02, rounding of the correction. -/
theorem test_correction_floor : correction drumDefault (-3) 0 = -2 ∧ correction drumDefault 3 0 = 1 := by decide

/-- 02, saturated high and the hold that follows. -/
theorem test_regulator_high : clampedError 12500 = 8191 ∧ integrate .neither 520000 8191 = 524287 ∧
    correction drumDefault 8191 524287 = 5887 ∧ dutyWritten drumDefault 6287 = 960 ∧
    memoryAfter drumDefault 6287 = .high ∧ integrate .high 524287 5 = 524287 ∧
    integrate .high 524287 (-200) = 524087 ∧ correction drumDefault (-200) 524087 = 642 := by decide

/-- 02, saturated low, and leaving it. -/
theorem test_regulator_low : correction drumDefault (-2500) (-102500) = -1713 ∧ dutyWritten drumDefault (-1313) = 40 ∧
    memoryAfter drumDefault (-1313) = .low ∧ integrate .low (-102500) (-2000) = -102500 ∧
    integrate .low (-102500) 150 = -102350 ∧ correction drumDefault 150 (-102350) = -57 ∧
    memoryAfter drumDefault 343 = .neither := by decide

/-- R61, R62: the clamps of the normalised reading, the ends of the default tone table. -/
theorem test_tone_path : normalise 180 180 3000 = 0 ∧ normalise 3000 180 3000 = 4095 ∧ normalise 4000 180 3000 = 4095 ∧
    toneLevel toneDefault 0 = 0 ∧ toneLevel toneDefault 4095 = 255 ∧ toneLevel toneDefault 256 = 16 := by decide

/-- R62: a fraction of exactly one half rounds upward. -/
theorem test_tone_half : toneLevel [0, 1] 128 = 1 ∧ toneLevel [1, 0] 128 = 1 := by decide

/-- R91: the ends of the default line profile. -/
theorem test_amplitude : amplitude lineDefault 0 = 90 ∧ amplitude lineDefault 255 = 900 := by decide

/-- R89: S and rev_ticks of standards 0 and 3. -/
theorem test_cadence_numbers : samplesPerRev State.reset = 2048 ∧ revTicks State.reset = 1000000 := by decide

/-- R123: a duty_max of 1,000 with cycle_exp 9 becomes 512, and a duty_min of 600 then 512 as well. -/
theorem test_drum_clamps : clampDrum { drumDefault with cycleExp := 9, dutyMax := 1000, dutyMin := 600 } =
    { drumDefault with cycleExp := 9, dutyMax := 512, dutyMin := 512 } := by decide

/-- 07: the power-on tables pass their own checks. -/
theorem test_defaults_pass : drumOk drumDefault = true ∧ scanOk scanDefault = true ∧ lineOk lineDefault = true ∧
    acceptOk acceptDefault = true ∧ strobeOk strobeDefault = true := by decide

/-- R138: with steps_per_line 32, 1,242 lines pass and 1,243 do not. -/
theorem test_length_check :
    let s := State.reset.setTables { tablesDefault with scan := { scanDefault with stepsPerLine := 32 } }
    tooLong s 1242 = false ∧ tooLong s 1243 = true := by decide

/-- R162: durations of 252 s and 4,000 s. -/
theorem test_durations : durationText 252 = ascii ['0', '0', '4', ':', '1', '2'] ∧
    durationText 4000 = ascii ['0', '6', '6', ':', '4', '0'] ∧
    durationText 60000 = ascii ['9', '9', '9', ':', '5', '9'] := by decide

/-- The bits of the first sync byte, 0xA7, after the preamble (R79, R114): space, 1 1 1 0 0 1 0 1, mark. -/
theorem test_line_bits : (blockBits [0xA7]).map LineBit.hz = List.replicate 16 1400 ++
    [2000, 1400, 1400, 1400, 2000, 2000, 1400, 2000, 1400, 1400] := by decide

/-- R102: the CRC of an ACK from station 7, worked by hand from the rule. -/
theorem test_crc : blockBytes 63 1 0x82 7 [7, 2, 0] = [0xA7, 0x3C, 63, 1, 0x82, 7, 3, 7, 2, 0, 24, 204] := by decide +kernel

/-- 11, section 11.2: the STATUS of a station after power-on, 71 bytes. -/
theorem test_status_layout : statusPayload .a State.reset =
    [0x46, 1, 1, 2, 0, 0, 5, 0, 0, 2] ++ [1, 0, 0, 0, 0, 0] ++ [0, 0, 0, 0, 0, 0] ++ [0, 0] ++
      List.replicate 32 0 ++ [0, 0, 0] ++ List.replicate 9 0 ++ [0, 0, 0] := by decide

/-- R174: February has 29 days in a year divisible by 4. -/
theorem test_months : daysInMonth 2 24 = 29 ∧ daysInMonth 2 25 = 28 ∧ daysInMonth 12 1 = 31 := by decide

/-- R176: code 5 with two code straps set needs the parity strap. -/
theorem test_straps : strapsGood 0b1000101#7 = true ∧ strapsGood 0b0000101#7 = false ∧ strapsGood 0b1111111#7 = false ∧
    strapsGood 0b1000000#7 = false := by decide

/-- R134, R165: the band of a reading on the default strobe table. -/
theorem test_bands : bandBase strobeDefault 1000 = 1600 ∧ bandBase strobeDefault 1001 = 1500 ∧
    bandBase strobeDefault 3600 = 900 ∧ resumeLevel strobeDefault = 3536 := by decide

/-! ### Small states -/

/-- What a step answers, when it is a next state. -/
def after (c : Instr) (s : State) : Option State :=
  match exec c s with
  | .next t => some t
  | .fault _ => none
  | .refused _ => none

/-- A field of the state after a command. -/
def read {α : Type} (c : Instr) (s : State) (f : State → α) : Option α := (after c s).map f

/-- The drum in a state, without demand. -/
def drumIn (d : DrumState) : State := State.reset.setDrum { State.reset.drum with state := d }

/-- The drum turning under the SPIN latch. -/
def spun (d : DrumState) : State := State.reset.setDrum { State.reset.drum with state := d, spinLatch := true, pendingDuty := 40, activeDuty := 40 }

/-- A grant for standard 0 on port A with two attempts. -/
def grant0 : Grant := { port := .a, standard := 0, allowed := 2, policy := .same, wait := 60 }

/-- A first attempt on port A. -/
def attempt0 : Attempt := newAttempt 1 .a false none

/-- A record of picture 7. -/
def record (st : RecState) (as : List Attempt) : PicRecord :=
  { recEmpty with
    state := st, mount := some ⟨1, [65], 100⟩, number := some 7, grant := some grant0, attempts := as }

/-- A record placed in slot 0 and on drum. -/
def mounted (r : PicRecord) (s : State) : State :=
  s.setPics { s.pics with records := s.pics.records.set 0 r, onDrum := some 0 }

/-- A LOADED record on drum. -/
def loaded : State := mounted { recEmpty with state := .loaded, mount := some ⟨1, [65], 100⟩ } State.reset

/-- The sender attached to port A, which is CARRYING, in a state. -/
def carryingIn (st : SenderState) (s : State) : State :=
  (s.setPort .a { s.portA with activity := .carrying }).setSender
    { s.sender with state := st, port := some .a, stageTimer := some 1 }

/-- The encoder of a turning drum, boundary 0 the last one captured. -/
def turning : Encoder :=
  { pos := 0, indexFound := true, reverseRun := 0, slipRun := 0, curCap := some 5, prevCap := some 1, lastBoundary := some 0 }

/-- An attempt in progress in PICTURE, the drum LOCKED, the head SCANNING. -/
def sending : State :=
  (((carryingIn .picture (mounted (record .sending [attempt0]) (spun .locked))).setHead
    { State.reset.head with state := .scanning }).setLamp { state := .warm, warmTimer := none }).setEnc turning

/-- A port whose receiver has just heard the preamble. -/
def hearing (s : State) : State := s.setPort .a { s.portA with rx := { rxIdle with state := .syncing, markRun := 16 } }

/-- An order on port A with its reservation, alone in the queue. -/
def ordered (k : OrderKind) (payload : List Byte) (s : State) : State :=
  (s.setPort .a { s.portA with activity := .answerDue, list := [.reservation] }).setOrders
    [{ port := .a, broadcast := false, kind := k, tag := 9, payload := payload, reserved := true }]

/-- The order that `ordered` queues. -/
def order (k : OrderKind) (payload : List Byte) : Order :=
  { port := .a, broadcast := false, kind := k, tag := 9, payload := payload, reserved := true }

/-- The slip unit printing a one-line slip for slot 0. -/
def printing (phase : DotPhase) (pos : PrintPos) : State :=
  (mounted (record .finished []) State.reset).setSlips
    { State.reset.slips with
      queue := [⟨0, .final⟩], started := true, image := [⟨[65], false⟩], printer := .printing, pos := pos, phase := phase }

/-! ### One step of a command -/

theorem test_queue_front : (match step { State.reset with pending := [.stop, .spin] } with
    | .next t => t.pending
    | .fault _ => []
    | .refused _ => []) = [.spin] := by decide

theorem test_encoder_wraps : read (.encoderCount .forward)
    (State.reset.setEnc { State.reset.enc with pos := 8191, reverseRun := 4 }) (fun t => (t.enc.pos, t.enc.reverseRun)) =
    some (0, 0) := by decide

theorem test_encoder_reverse : read (.encoderCount .reverse) State.reset (fun t => (t.enc.pos, t.enc.reverseRun)) =
    some (8191, 1) := by decide

theorem test_index_found : read .indexPulse State.reset (fun t => (t.enc.indexFound, t.enc.lastBoundary)) =
    some (true, some 0) := by decide

theorem test_ramp : read .rampTick
    ((spun .spinup).setDrum { (spun .spinup).drum with pendingDuty := 396, rampTimer := some 0 })
    (fun t => t.drum.pendingDuty) = some 400 := by decide

theorem test_spinup_expiry : read .spinupTimerExpiry
    ((spun .spinup).setDrum { (spun .spinup).drum with spinupTimer := some 0 })
    (fun t => (t.drum.state, t.drum.lastFault)) = some (.cutoff, .stall) := by decide

theorem test_cycle_end : read .cycleEnd
    (State.reset.setDrum { State.reset.drum with pendingDuty := 77, modeReq := some .drive })
    (fun t => (t.drum.activeDuty, t.drum.mode)) = some (77, .drive) := by decide

theorem test_cover_opens : read (.coverChange false) (spun .locked) (fun t => (t.drum.lastFault, t.head.state)) =
    some (.cover, .fault) := by decide

theorem test_spin_starts : read .spin State.reset (fun t => (t.drum.state, t.drum.pendingDuty)) =
    some (.spinup, 40) := by decide

theorem test_stop_brakes : read .stop (spun .locked) (fun t => (t.drum.state, t.drum.silenceTimer)) =
    some (.braking, some 625000) := by decide

theorem test_stop_sending : read .stop sending (fun t => (t.drum.spinLatch, t.panel.notice.isSome)) =
    some (true, true) := by decide

theorem test_conversion_white : read (.conversionComplete 1000)
    ((sending.setScan { State.reset.scan with state := .running, rev := 1, k := 5, whiteSum := 7, whiteCount := 1 }).setConv
      { current := some (.photocell .white false), photoWaiting := [], thermWaiting := true })
    (fun t => (t.scan.whiteSum, t.scan.whiteCount, t.conv.current)) = some (1007, 2, some .thermistor) := by decide

/-- R41, R42: the reading at the end of the run, where a white-patch entry is the last one out, precedes the rewind (R44). -/
theorem test_signal_then_rewind :
    let s := ((sending.setScan { State.reset.scan with
        state := .finished, waiting := [⟨.gap, some 255, false, true⟩], signalDue := true }).setConv
      { current := some (.photocell .white false), photoWaiting := [], thermWaiting := false })
    (s.head.state, s.store.lastWritten) = (.scanning, false) ∧
      read (.conversionComplete 1000) s (fun t => (t.store.entries.length, t.store.lastWritten, t.head.state, t.lamp.state)) =
        some (1, true, .rewinding, .off) := by decide

theorem test_lamp_warm : read .lampWarmTimerExpiry (State.reset.setLamp { state := .warming, warmTimer := some 0 })
    (fun t => t.lamp.state) = some .warm := by decide

/-- R142: the lamp's warm-up completes the conditions of an attempt, which starts in the same event. -/
theorem test_lamp_starts_attempt : read .lampWarmTimerExpiry
    (((mounted (record .granted []) (spun .locked)).setHead { State.reset.head with state := .ready }).setLamp
      { state := .warming, warmTimer := some 0 })
    (fun t => (onDrumState t, t.sender.state, t.portA.activity)) = some (.sending, .startTone, .carrying) := by decide

theorem test_step_limit : read .stepTimerExpiry
    (sending.setHead { sending.head with pos := 40000, owed := 1, stepTimer := some 0 })
    (fun t => (t.head.state, t.sender.held)) = some (.fault, some .head) := by decide

theorem test_home_parks : read (.homeSensorAssert true)
    (State.reset.setHead { State.reset.head with state := .rewinding, pos := 3 }) (fun t => (t.head.state, t.head.pos)) =
    some (.parked, 0) := by decide

theorem test_cadence_counts_line : read .cadenceEvent
    ((sending.setSender { sending.sender with cadenceOn := true, acc := 1000100 }).setStore
      { storeCleared with entries := [⟨.picture, 33, true⟩] })
    (fun t => (t.sender.acc, t.sender.lastLevel, t.sender.linesSent)) = some (100, 33, 1) := by decide

theorem test_stop_tone_done : read .stopToneTimerExpiry
    ((carryingIn .stopTone State.reset).setSender
      { (carryingIn .stopTone State.reset).sender with held := some .cancelled, closing := some (7, attempt0) })
    (fun t => (t.portA.activity, t.portA.list)) = some (.reporting,
      [.report ⟨.done, 0, [7, 0, 1, 6, 0, 0, 0, 0, 0, 0, 0, 0, 0, 0, 0, 0, 0, 0, 0, 0, 0, 0]⟩]) := by decide

theorem test_loop_loss : read (.loopLossTimerExpiry .a)
    (sending.setPort .a { sending.portA with loopCurrent := false, loopTimer := some 0 })
    (fun t => (t.portA.cause, t.sender.state, onDrumState t)) = some (.loop, .free, .granted) := by decide

theorem test_break : read (.breakTimerExpiry .a) (sending.setPort .a { sending.portA with breakTimer := some 0 })
    (fun t => (t.sender.state, t.pics.receiptTimer)) = some (.stopTone, some 60000000) := by decide

theorem test_echo_fault : read (.echoFailure ⟨.b, [.absent]⟩)
    (State.reset.setPort .b { portReset with activity := .reporting, list := [.report ⟨.busy, 1, []⟩], consecEcho := 1 })
    (fun t => (t.portB.cause, t.portB.activity)) = some (.echo, .idle) := by decide

/-- R100: an error before RECEIVING is a failed sync and is not counted. -/
theorem test_sync_error_uncounted : read (.blockError .a .framing) (hearing State.reset)
    (fun t => (t.portA.blockErrors, t.portA.rx.state)) = some (0, .hunting) := by decide

theorem test_take_load : read (.blockTake .a (blockBytes 1 63 5 9 [1, 0])) (hearing State.reset)
    (fun t => (t.orders, t.portA.list)) = some ([order .load [1, 0]], [.reservation]) := by decide +kernel

theorem test_take_broadcast_poll : read (.blockTake .a (blockBytes 0 63 1 9 [])) (hearing State.reset)
    (fun t => (t.orders, t.portA.list)) = some ([], []) := by decide +kernel

theorem test_poll_answer : read .poll (ordered .poll [] State.reset) (fun t => (t.orders.length, t.portA.activity)) =
    some (0, .reporting) := by decide

theorem test_grant : read .grant (ordered .grant [7, 0, 0, 3, 1, 0, 9] loaded)
    (fun t => (onDrumState t, standardNumber t, t.drum.state)) = some (.granted, 3, .spinup) := by decide

theorem test_cancel : read .cancel (ordered .cancel [7, 0] sending) (fun t => (onDrumState t, t.sender.held)) =
    some (.finished, some .cancelled) := by rfl

theorem test_receipt_delivers : read .receipt
    (ordered .receipt [7, 0, 0, 1, 4, 0] (mounted (record .awaiting [attempt0]) State.reset))
    (fun t => (onDrumRec t).bind (·.final)) = some (some ⟨.delivered, .none, none⟩) := by decide

/-- R149, R152: an item dropped with the dropped count at its largest value asks for no LATE slip. -/
theorem test_receipt_saturated : read .receipt
    (ordered .receipt [7, 0, 0, 1, 63, 0] (mounted { record .finished [attempt0] with dropped := 65535 } State.reset))
    (fun t => (t.slips.queue, (onDrumRec t).map (·.dropped))) = some ([], some 65535) := by decide

theorem test_load_standard : read .load (ordered .load [2, 1, 0x10, 0x27, 8, 5, 0] State.reset)
    (fun t => (t.tables.standards.getD 1 ⟨0, 0, 0⟩, t.tables.counts.getD 1 0)) = some (⟨10000, 8, 5⟩, 1) := by decide

theorem test_clock_order : read .clock (ordered .clock [29, 2, 24, 23, 59, 59] State.reset)
    (fun t => (t.clock.day, t.clock.isSet)) = some (29, true) := by decide

/-- 06, the worked sequence of a full queue: the answer waits while the next order is executed at the same moment; a start bit
on the other port, which holds that order back, lets it go out. -/
theorem test_answer_and_next_order : (after .clock
    ((ordered .clock [29, 2, 24, 23, 59, 59] State.reset).setOrders
      [order .clock [29, 2, 24, 23, 59, 59], { order .poll [] with port := .b, reserved := false }])).map
    (fun s => (s.portA.activity, s.orders.length, read (.receptionStart .b 16) s (fun t => t.portA.activity))) =
    some (.answerDue, 1, some .reporting) := by decide

theorem test_clock_leap : read .clockSecond
    (State.reset.setClock { day := 29, month := 2, year := 24, hour := 23, minute := 59, second := 59, sub := 9, isSet := true })
    (fun t => (t.clock.day, t.clock.month, t.clock.sub)) = some (1, 3, 0) := by decide

theorem test_restart : read .restart (ordered .restart [] sending)
    (fun t => (t.orders, t.sender.held, t.drum.spinLatch)) = some ([], some .restarted, false) := by decide +kernel

theorem test_panel_load : read (.panelLoad 4000 [72, 73]) State.reset
    (fun t => ((onDrumRec t).bind (·.mount), t.pics.nextSerial)) = some (some ⟨1, [72, 73], 4000⟩, 2) := by decide

theorem test_panel_load_too_many : read (.panelLoad 4001 [72, 73]) State.reset
    (fun t => (t.pics.onDrum, t.panel.notice)) = some (none, some (.load, .badValue)) := by decide

/-- R7, R8, R170: of SPIN and STOP heard in one run of bytes, SPIN starts the drum before STOP brakes it. -/
theorem test_panel_spin_then_stop :
    read (.panelRecordMalformed ([0x02, 0x12, 0, 0x03, 0x02, 0x13, 0, 0x03].map some)) State.reset
      (fun t => (t.drum.state, t.drum.spinLatch)) = some (.braking, false) := by decide +kernel

/-- R172: of SPIN and ABORT refused in one run of bytes, a FREE transmitter sends the first notice, and the second waits. -/
theorem test_panel_two_notices :
    read (.panelRecordMalformed ([0x02, 0x12, 0, 0x03, 0x02, 0x14, 0, 0x03].map some))
      ((drumIn .cutoff).setPanel { State.reset.panel with changed := false })
      (fun t => (t.panel.tx, t.panel.notice)) =
    some (some (.notice .spin .drumCutoff), some (.abort, .noPicture)) := by decide +kernel

theorem test_paper_out : read (.paperSensorChange false) (printing .reading (.row 0 3))
    (fun t => (t.slips.printer, t.slips.started)) = some (.paperOut, true) := by decide

/-- R168: a strobe table loaded after the band was chosen leaves the line's feed interval as it is. -/
theorem test_feed_kept : read .feedIntervalExpiry
    ((printing .feedFirst (.row 0 3)).setTables
      { tablesDefault with strobe := { strobeDefault with feedInterval := 5000 } })
    (fun t => t.slips.dotTimer) = some (some 2000) := by decide

theorem test_slip_completes : read .feedIntervalExpiry (printing .feedSecond (.feed 79))
    (fun t => (t.slips.queue, (onDrumRec t).map (·.slip))) = some ([], some .printed) := by decide

theorem test_power_on : read (.powerOn false false 0b0000101#7) sending
    (fun t => (t.station.mute, t.slips.printer, t.pics.onDrum)) = some (true, .paperOut, none) := by decide

theorem test_first_state : read (.powerOn true true 0b1000101#7) State.reset (fun t => t.panel.tx) =
    some (some (.state 0x100
      (ascii ['N', 'E', 'E', 'D', 'S', ' ', 'R', 'E', 'S', 'E', 'T', ' ', 'M', 'E', 'C', 'H']) 0 0)) := by decide

/-! ### Every statement with hypotheses has states that meet them

One theorem a statement; its conjuncts are the hypotheses of the statement's clauses, in their order, on a concrete state. -/

/-- The links of a state, as a check. -/
def linksB (s : State) : Bool :=
  let ok (p : PortId) (x : Port) : Bool := decide (x.list.length ≤ 8) &&
    decide (x.activity = .idle ∨ x.activity = .carrying → x.list = []) &&
    decide (x.activity = .carrying → x.cause = .none) &&
    decide (x.activity = .carrying ↔ (s.sender.port = some p ∧ s.sender.state.online = true))
  ok .a s.portA && ok .b s.portB && decide (attemptInProgress s = s.sender.state.sendingAttempt) &&
    decide (s.scan.state ≠ .idle → attemptInProgress s = true) &&
    decide (s.head.state = .scanning → attemptInProgress s = true) &&
    decide (s.sender.cadenceOn = true → s.sender.state.paced = true) &&
    decide (s.store.accepted = s.store.sent + s.store.flushed + s.store.entries.length) &&
    decide (attemptInProgress s = true → s.store.flushed = 0)

/-- A state that passes the check has its links. -/
theorem links_of {s : State} (h : linksB s = true) : Links s := by
  simp only [linksB, Bool.and_eq_true, decide_eq_true_eq] at h
  obtain ⟨⟨⟨⟨⟨⟨⟨a, b⟩, c⟩, d⟩, e⟩, f⟩, g⟩, i⟩ := h
  exact ⟨⟨a.1.1.1, a.1.1.2, a.1.2⟩, ⟨b.1.1.1, b.1.1.2, b.1.2⟩, fun p => by cases p <;> [exact a.2; exact b.2],
    c, d, e, f, fun _ => g, i⟩

/-- With the scanner in IDLE a command is away from it. -/
theorem unscanned_of {c : Instr} {s : State} (h : s.scan.state = .idle) : Unscanned c s :=
  And.intro (by simp [h]) (by simp [h])

/-- The state a period after a capture at tick 5. -/
def timed (period : Nat) (s : State) : State :=
  (s.setEnc { s.enc with indexFound := true, curCap := some 5, prevCap := some 1 }).setNow (5 + BitVec.ofNat 32 period)

theorem timed_period {period : Nat} (s : State) (h : period ≤ 1048575) :
    period = min ((timed period s).now - 5).toNat 1048575 := by
  have : (timed period s).now - 5 = BitVec.ofNat 32 period := by
    show 5 + BitVec.ofNat 32 period - 5 = _
    rw [BitVec.add_comm, BitVec.add_sub_cancel]
  rw [this, BitVec.toNat_ofNat]
  omega

/-- About to count onto boundary 15. -/
def atBoundary (period : Nat) (s : State) : State :=
  timed period (s.setEnc { s.enc with pos := 7679, lastBoundary := some 14 })

/-- About to meet the index pulse at P = 2, boundary 15 the last one captured. -/
def atIndex (period : Nat) (s : State) : State :=
  timed period (s.setEnc { s.enc with pos := 2, lastBoundary := some 15 })

theorem count_window {period : Nat} (s : State) (h : period ≤ 1048575) :
    WindowAt (.encoderCount .forward) (atBoundary period s) 15 5 period where
  boundary := .inl ⟨rfl, by decide, by decide, rfl⟩
  found := rfl
  fresh := (by decide : some 14 ≠ some 15)
  capture := rfl
  period := timed_period _ h

theorem index_window {period : Nat} (s : State) (ht : 2 ≤ s.tables.drum.indexTol) (h : period ≤ 1048575) :
    WindowAt .indexPulse (atIndex period s) 0 5 period where
  boundary := .inr ⟨rfl, rfl, And.intro rfl (And.intro (by decide : 2 ≤ 8191) ht)⟩
  found := rfl
  fresh := (by decide : some 15 ≠ some 0)
  capture := rfl
  period := timed_period _ h

/-- The order that `ordered` queues is the head order when its length is right and the ports are quiet. -/
theorem ordered_head (k : OrderKind) (payload : List Byte) (s : State) (h : lengthOk k payload = true)
    (hr : s.portA.rx.state = .hunting) (hb : s.portB.activity ≠ .reporting ∧ s.portB.rx.state = .hunting) :
    HeadOrder k (order k payload) (ordered k payload s) where
  head := rfl
  kind := rfl
  length := h
  quiet := fun p => by
    cases p
    · exact ⟨(by decide : Activity.answerDue ≠ .reporting), hr⟩
    · exact hb

/-- An attempt in progress on port B with an order on port A. -/
def sendingOrdered (k : OrderKind) (payload : List Byte) : State :=
  ordered k payload (((sending.setPort .a portReset).setPort .b { portReset with activity := .carrying }).setSender
    { sending.sender with port := some .b })

/-- `sending` with the drum in a state, under the SPIN latch or not. -/
def sendingWith (d : DrumState) (latch : Bool) : State :=
  sending.setDrum { sending.drum with state := d, spinLatch := latch, stallDeadline := some 9 }

/-! The block as a whole. -/

theorem reset_tables : TablesOk State.reset.tables where
  standards := by decide
  standardPending := fun _ _ h => nomatch h
  drum := ⟨by decide, by decide, by decide⟩
  drumPending := fun _ h => nomatch h
  scan := by decide
  scanPending := fun _ h => nomatch h
  lineA := ⟨by decide, by decide, by decide, by decide⟩
  lineB := ⟨by decide, by decide, by decide, by decide⟩
  linePending := fun _ _ h => nomatch h
  accept := by decide
  standardCount := by decide
  rosterCount := by decide
  templateCount := by decide
  acceptCount := by decide
  tone := by decide
  tonePending := fun _ h => nomatch h
  roster := fun e he => by
    have he : e ∈ List.replicate 32 rosterEmpty := he
    exact List.eq_of_mem_replicate he ▸ (by decide)
  template := by decide
  strobe := ⟨by decide, by decide, by decide⟩
  neverPending := by decide
  counts := by decide

theorem empty_ok : RecordOk recEmpty where
  receipts := by decide
  attempts := by decide
  granted := fun h => nomatch h
  grant := fun _ h => nomatch h
  each := fun _ h => nomatch h
  codes := fun _ h => nomatch h
  mount := fun _ h => nomatch h
  number := fun _ h => nomatch h
  dropped := by decide
  prints := by decide

theorem record_ok (st : RecState) (h : st ≠ .granted) : RecordOk (record st [attempt0]) where
  receipts := Nat.zero_le _
  attempts := (by decide : 1 ≤ 3)
  granted := fun hg => absurd hg h
  grant := fun g h => by cases h; exact ⟨by decide, by decide, by decide⟩
  each := fun a h => by
    cases List.mem_singleton.mp h
    exact ⟨by decide, by decide, by decide, by decide, by decide, by decide, by decide, by decide, by decide⟩
  codes := fun _ h => nomatch h
  mount := fun m h => by cases h; exact ⟨by decide, by decide, by decide⟩
  number := fun n h => by cases h; decide
  dropped := Nat.zero_le _
  prints := Nat.zero_le _

theorem sending_ranges : Ranges sending where
  enc := ⟨by decide, by decide, by decide⟩
  drum := ⟨by decide, by decide, by decide⟩
  reg := ⟨by decide, by decide, by decide, by decide⟩
  scan := ⟨by decide, by decide⟩
  owed := by decide
  store := ⟨by decide, by decide, by decide, by decide, by decide, by decide⟩
  portA := ⟨by decide, by decide, by decide⟩
  portB := ⟨by decide, by decide, by decide⟩
  linesSent := by decide
  orders := by decide
  tables := reset_tables
  slots := by decide
  records := fun r hr => by
    have hr : r = record .sending [attempt0] ∨ r ∈ List.replicate 7 recEmpty := List.mem_cons.mp hr
    rcases hr with rfl | hr
    · exact record_ok _ (by decide)
    · exact List.eq_of_mem_replicate hr ▸ empty_ok
  serial := by decide
  slips := ⟨by decide, by decide, by decide, by decide, by decide⟩
  clock := ⟨by decide, by decide, by decide, by decide, by decide, by decide⟩

theorem sending_links : Links sending := links_of (by decide)

theorem sending_footing : Footing sending where
  captures := by decide
  duties := by decide
  counters := by decide
  entries := by decide
  attached := by decide
  unlocked := by decide
  revolution := by decide
  sample := by decide
  travel := by decide
  request := by decide

/-- An attempt on drum, and in slot 1 a FINISHED record whose FINAL slip waits. -/
def filing : State :=
  let done := { record .finished [attempt0] with number := some 8, slip := .queued }
  let s := sending.setPics { sending.pics with records := sending.pics.records.set 1 done, finishOrder := [1] }
  s.setSlips { s.slips with queue := [⟨1, .final⟩] }

theorem filing_slot {i : Nat} {r : PicRecord} (h : filing.rec? i = some r) :
    (i = 0 ∧ r = record .sending [attempt0]) ∨
      (i = 1 ∧ r = { record .finished [attempt0] with number := some 8, slip := .queued }) ∨
      (2 ≤ i ∧ i < 8 ∧ r = recEmpty) := by
  match i, h with
  | 0, h => exact .inl ⟨rfl, (Option.some.inj h).symm⟩
  | 1, h => exact .inr (.inl ⟨rfl, (Option.some.inj h).symm⟩)
  | n + 2, h =>
    have h : (List.replicate 6 recEmpty)[n]? = some r := h
    obtain ⟨hn, hr⟩ := List.getElem?_eq_some_iff.mp h
    rw [List.getElem_replicate] at hr
    rw [List.length_replicate] at hn
    exact .inr (.inr ⟨by omega, by omega, hr.symm⟩)

theorem filing_filed : Filed filing where
  active := fun i r h he hf => by
    rcases filing_slot h with ⟨rfl, rfl⟩ | ⟨rfl, rfl⟩ | ⟨_, _, rfl⟩
    · rfl
    · exact absurd rfl hf
    · exact absurd rfl he
  mounted := fun i h => by
    cases h
    exact ⟨_, rfl, by decide⟩
  numbers := fun i j r q n hi hj he hq hn hm => by
    rcases filing_slot hi with ⟨rfl, rfl⟩ | ⟨rfl, rfl⟩ | ⟨_, _, rfl⟩ <;>
      rcases filing_slot hj with ⟨rfl, rfl⟩ | ⟨rfl, rfl⟩ | ⟨_, _, rfl⟩ <;> first
      | rfl
      | exact absurd rfl he
      | exact absurd rfl hq
      | (cases hn; cases hm)
  order := by decide
  ordered := fun i => by
    constructor
    · intro h
      cases List.mem_singleton.mp h
      exact ⟨_, rfl, rfl⟩
    · rintro ⟨r, h, hf⟩
      rcases filing_slot h with ⟨rfl, rfl⟩ | ⟨rfl, rfl⟩ | ⟨_, _, rfl⟩
      · cases hf
      · decide
      · cases hf
  codes := by decide
  status := fun i r h hf => by
    rcases filing_slot h with ⟨rfl, rfl⟩ | ⟨rfl, rfl⟩ | ⟨_, _, rfl⟩
    · cases hf
    · decide
    · cases hf
  unasked := by decide
  requests := fun q h => by
    cases List.mem_singleton.mp h
    exact ⟨_, rfl, rfl⟩
  owers := fun i h => by
    have h : ((List.replicate 8 (⟨false, false⟩ : OwedSet)).getD i ⟨false, false⟩).isEmpty = false := h
    rw [List.getD_eq_getElem?_getD, List.getElem?_replicate] at h
    split at h <;> cases h
  owed := by decide

theorem sending_settled : Settled sending where
  spins := by decide
  brakes := by decide
  stopped := by decide
  lampOn := by decide
  lampOff := by decide
  head := by decide
  attempt := by decide
  lineup := by decide
  reports := fun _ p => by cases p <;> decide

/-- A step from a state of an attempt, its cadence event waiting. -/
theorem witness_StepKeepsRanges : Ranges { sending with pending := [.cadenceEvent] } ∧
    (∃ t, step { sending with pending := [.cadenceEvent] } = .next t) :=
  ⟨{ sending_ranges with }, _, rfl⟩

theorem witness_StepKeepsLinks : Links sending ∧ (∃ t, step { sending with pending := [.cadenceEvent] } = .next t) :=
  ⟨sending_links, _, rfl⟩

theorem witness_StepKeepsFooting : Ranges sending ∧ Links sending ∧ Footing sending ∧ (∃ t, step sending = .next t) :=
  ⟨sending_ranges, sending_links, sending_footing, _, rfl⟩

theorem filing_ranges : Ranges filing :=
  { sending_ranges with
    records := fun r hr => by
      obtain ⟨i, hi⟩ := List.mem_iff_getElem?.mp hr
      rcases filing_slot hi with ⟨_, rfl⟩ | ⟨_, rfl⟩ | ⟨_, _, rfl⟩
      · exact record_ok _ (by decide)
      · exact { record_ok .finished (by decide) with number := fun n h => by cases h; decide }
      · exact empty_ok
    slips := ⟨by decide, by decide, by decide, by decide, by decide⟩ }

theorem witness_StepKeepsFiled : Ranges filing ∧ Filed filing ∧ (∃ t, step filing = .next t) :=
  ⟨filing_ranges, filing_filed, _, rfl⟩

theorem witness_NothingLeftDue : Settled sending ∧ (∃ t, step sending = .next t) := ⟨sending_settled, _, rfl⟩

/-- The record on its way to the panel, a drum fault raised meanwhile. -/
theorem witness_ShownChangeSetsMark :
    let s := (spun .locked).setPanel { State.reset.panel with tx := some (stateRecord State.reset) }
    s.panel.tx ≠ none ∧ (after (.coverChange false) s).map stateRecord ≠ some (stateRecord s) := by decide

/-! The encoder counter, the drum drive, the speed regulator. -/

/-- Forward from 8,191 and from 510 with the index found; reverse from 0 with a run of 255; the run's 32nd count. -/
theorem witness_EncoderCounts :
    (let s := State.reset.setEnc { State.reset.enc with pos := 8191, indexFound := true }
     s.enc.pos ≤ 8191 ∧ s.scan.state ≠ .running ∧ s.enc.pos = 8191) ∧
    (let s := State.reset.setEnc { State.reset.enc with pos := 510, indexFound := true }
     s.enc.pos ≤ 8191 ∧ s.scan.state ≠ .running ∧ (s.enc.pos + 1) % 512 ≠ 0) ∧
    (let s := State.reset.setEnc { State.reset.enc with reverseRun := 255 }
     s.enc.pos ≤ 8191 ∧ s.enc.reverseRun ≠ 31) ∧
    (let s := (spun .spinup).setEnc { State.reset.enc with reverseRun := 31 }
     s.enc.reverseRun = 31 ∧ s.drum.state = .spinup) := by decide

/-- An index pulse at P = 0, 2, 3 and 8,191 with the tolerance 2; at the third slip in a row, of a drum at rest and of one
that turns; a slip of an attempt, and an index of one at P = 2. -/
theorem witness_IndexPulseChecks :
    [0, 2, 3, 8191].map (fun n => decide ((if n < 4096 then n else 8192 - n) ≤ drumDefault.indexTol)) =
      [true, true, false, true] ∧
    (let s := State.reset.setEnc { State.reset.enc with pos := 3, indexFound := true, slipRun := 2 }
     s.drum.state = .stopped ∧ s.scan.state = .idle ∧ attemptInProgress s = false ∧ s.enc.pos ≤ 8191 ∧
       3 ≤ s.enc.slipRun + 1) ∧
    (let s := (spun .braking).setEnc { turning with pos := 3, slipRun := 2 }
     s.drum.state = .braking ∧ s.enc.indexFound = true ∧ s.enc.pos ≤ 8191 ∧ ¬ IndexGood s ∧ 2 ≤ s.enc.slipRun) ∧
    (let s := sending.setEnc { turning with pos := 3 }
     s.pics.onDrum = some 0 ∧ s.rec? 0 = some (record .sending [attempt0]) ∧
       (record .sending [attempt0]).attempts.getLast? = some attempt0 ∧ s.enc.indexFound = true ∧ ¬ IndexGood s) ∧
    IndexGood (sending.setEnc { turning with pos := 2 }) :=
  ⟨by decide, by decide, ⟨by decide, by decide, by decide, fun h => absurd h.2.2 (by decide), by decide⟩,
    ⟨by decide, by decide, by decide, by decide, fun h => absurd h.2.2 (by decide)⟩,
    And.intro rfl (And.intro (by decide) (by decide))⟩

/-- At W/2, the shortest period that is regulated, by a count and by an index pulse; an attempt with 30 unlocked windows; in
band at 125 and out of band at 126 in TRACKING, in and out of the unlock band at 500 and 501 in LOCKED; lock counts 14
and 15. -/
theorem witness_WindowEventRegulates :
    WindowAt (.encoderCount .forward) (atBoundary 31250 (spun .tracking)) 15 5 31250 ∧
    WindowAt .indexPulse (atIndex 31250 (spun .locked)) 0 5 31250 ∧
    (standardInForce (atBoundary 31250 (spun .tracking))).w ≤ 2 * 31250 ∧
    attemptInProgress (atBoundary 31250 (spun .tracking)) = false ∧
    demand (atBoundary 31250 (spun .tracking)) = true ∧ Unscanned .indexPulse (atIndex 31250 (spun .locked)) ∧
    attemptReady ((atBoundary 31250 (spun .tracking)).setDrum { (spun .tracking).drum with state := .locked }) = false ∧
    (let s := atBoundary 31250 (sending.setDrum { sending.drum with unlocked := 30 })
     attemptInProgress s = true ∧ s.drum.unlocked < 31 ∧ s.drum.state = .locked) ∧
    [62625, 62626].map (fun p => decide ((eRawOf p (atBoundary p (spun .tracking))).natAbs ≤ drumDefault.lockBand)) =
      [true, false] ∧
    [63000, 63001].map (fun p => decide ((eRawOf p (atBoundary p (spun .locked))).natAbs ≤ drumDefault.unlockBand)) =
      [true, false] ∧
    14 + 1 < drumDefault.lockCount ∧ drumDefault.lockCount ≤ 15 + 1 :=
  ⟨count_window _ (by decide), index_window _ (by decide) (by decide), by decide, by decide, by decide, unscanned_of rfl,
    by decide, by decide, by decide, by decide, by decide, by decide⟩

/-- In SPINUP at 2W and above it, in TRACKING below W/2. -/
theorem witness_WindowEventsAtTheEdges :
    WindowAt (.encoderCount .forward) (atBoundary 125000 (spun .spinup)) 15 5 125000 ∧
    WindowAt .indexPulse (atIndex 125001 (spun .spinup)) 0 5 125001 ∧
    WindowAt (.encoderCount .forward) (atBoundary 31249 (spun .tracking)) 15 5 31249 ∧
    Unscanned .indexPulse (atIndex 125001 (spun .spinup)) ∧ demand (atBoundary 125000 (spun .spinup)) = true ∧
    125000 ≤ 2 * (standardInForce (atBoundary 125000 (spun .spinup))).w ∧
    2 * (standardInForce (atIndex 125001 (spun .spinup))).w < 125001 ∧
    2 * 31249 < (standardInForce (atBoundary 31249 (spun .tracking))).w :=
  ⟨count_window _ (by decide), index_window _ (by decide) (by decide), count_window _ (by decide), unscanned_of rfl,
    by decide, by decide, by decide, by decide⟩

/-- In an attempt: the window that stays unlocked, the 31st and the 32nd, in TRACKING at 126 beyond the setpoint and in LOCKED
at 501 after one such window; the 16th window in band, which locks, and one at 500 in LOCKED. -/
theorem witness_UnlockedWindows :
    let u (d : DrumState) (n lock out period : Nat) := atBoundary period
      (((sendingWith d true).setDrum { (sendingWith d true).drum with unlocked := n }).setReg
        { State.reset.reg with lockCount := lock, unlockCount := out })
    let far (s : State) (period : Nat) := (eRawOf period s).natAbs
    Links (u .tracking 30 15 0 62370) ∧ WindowAt (.encoderCount .forward) (u .tracking 30 15 0 62370) 15 5 62370 ∧
    Unscanned (.encoderCount .forward) (u .tracking 30 15 0 62370) ∧
    (standardInForce (u .tracking 30 15 0 62370)).w ≤ 2 * 62370 ∧
    (u .tracking 30 15 0 62370).pics.onDrum = some 0 ∧
    (u .tracking 30 15 0 62370).rec? 0 = some (record .sending [attempt0]) ∧
    far (u .tracking 31 15 0 62370) 62370 = 126 ∧ far (u .tracking 31 15 0 62369) 62369 = 125 ∧
    far (u .locked 31 0 1 62745) 62745 = 501 ∧ far (u .locked 31 0 1 62744) 62744 = 500 ∧
    satInc 255 15 = drumDefault.lockCount :=
  ⟨links_of (by decide), count_window _ (by decide), unscanned_of rfl, by decide, by decide,
    by decide, by decide, by decide, by decide, by decide, by decide⟩

/-- The floor of the duty range and its top; 40 at the floor, 960 at the top. -/
theorem witness_RegulatorStages : drumDefault.dutyMin ≤ drumDefault.dutyMax ∧ (40 : Int) ≤ 960 ∧
    (drumDefault.dutyMin : Int) ≤ 40 ∧ (960 : Int) ≤ drumDefault.dutyMax := by decide

/-- A GRANT of standard 3, and of standard 0, to a LOADED record on a drum LOCKED under the SPIN latch; one on a drum in BRAKING. -/
theorem witness_StandardChangeRelocks :
    let at' (k : Byte) := ordered .grant [7, 0, 0, k, 1, 0, 1] (loaded.setDrum (spun .locked).drum)
    (∀ k ∈ [(3 : Byte), 0], byteAt ([7, 0, 0, k, 1, 0, 1] : List Byte) 3 ≤ 3 ∧ (at' k).pics.onDrum = some 0 ∧
      (at' k).rec? 0 = some { recEmpty with state := .loaded, mount := some ⟨1, [65], 100⟩ } ∧
      (∀ x ∈ (at' k).pics.records, x.number = some 7 → x.state = .empty) ∧ ((at' k).port .a).cause = .none ∧
      (at' k).tables.scan.startOffset + 100 * (at' k).tables.scan.stepsPerLine ≤ (at' k).tables.scan.travelLimit ∧
      (at' k).drum.state = .locked ∧ (at' k).drum.spinLatch = true ∧ (at' k).lamp.state ≠ .warm) ∧
    HeadOrder .grant (order .grant [7, 0, 0, 3, 1, 0, 1]) (at' 3) ∧
    HeadOrder .grant (order .grant [7, 0, 0, 0, 1, 0, 1]) (at' 0) ∧ standardNumber (at' 3) = 0 ∧
    (let s := ordered .grant [7, 0, 0, 3, 1, 0, 1] (loaded.setDrum (drumIn .braking).drum)
     HeadOrder .grant (order .grant [7, 0, 0, 3, 1, 0, 1]) s ∧ s.drum.state = .braking ∧ s.drum.spinLatch = false) :=
  ⟨by decide, ordered_head _ _ _ (by decide) rfl (by decide), ordered_head _ _ _ (by decide) rfl (by decide),
    by decide, ordered_head _ _ _ (by decide) rfl (by decide), by decide⟩

theorem witness_DutyReachesTheBridge :
    (let s := (spun .spinup).setDrum { (spun .spinup).drum with rampTimer := some 0, pendingDuty := 400 }
     s.drum.state = .spinup ∧ s.drum.rampTimer.isSome = true ∧ s.tables.drum.dutyMin ≤ s.tables.drum.dutyMax) ∧
    State.reset.drum.mode = .off := by decide

theorem witness_CoverAndDrumFaults :
    (let s := (spun .spinup).setDrum { (spun .spinup).drum with spinupTimer := some 0 }
     attemptInProgress s = false ∧ s.drum.state = .spinup ∧ s.drum.spinupTimer.isSome = true) ∧
    (let s := (spun .locked).setDrum { (spun .locked).drum with stallDeadline := some 0 }
     attemptInProgress s = false ∧ s.drum.state = .locked ∧ s.drum.stallDeadline.isSome = true) ∧
    ((spun .braking).drum.state ≠ .stopped ∧ (spun .braking).drum.state ≠ .cutoff) ∧
    (State.reset.drum.state = .stopped ∧ demand State.reset = false) ∧
    (let s := (spun .stopped).setPins { State.reset.pins with coverClosed := false }
     s.drum.state = .stopped ∧ demand s = true ∧ s.pins.coverClosed = false ∧ s.tables.drumPending = none) := by decide

/-- Each fault in its turn; a step past the travel limit in SCANNING and in POSITIONING. -/
theorem witness_FaultsEndAttempts :
    (Links (sendingWith .tracking false) ∧ onDrumState (sendingWith .tracking false) = .sending ∧
      (sendingWith .tracking false).drum.stallDeadline.isSome = true) ∧
    (let s := (sendingWith .locked true).setEnc { turning with reverseRun := 31 }
     Links s ∧ s.drum.state = .locked ∧ s.enc.reverseRun = 31) ∧
    (let s := (sendingWith .locked true).setEnc { turning with pos := 8189, slipRun := 2 }
     Links s ∧ s.enc.indexFound = true ∧ s.enc.pos ≤ 8191 ∧ ¬ IndexGood s ∧ 2 ≤ s.enc.slipRun) ∧
    (let s := atBoundary 31249 (sendingWith .locked true)
     Links s ∧ WindowAt (.encoderCount .forward) s 15 5 31249 ∧ 2 * 31249 < (standardInForce s).w) ∧
    (let s := sending.setHead { sending.head with pos := 40000, owed := 1, stepTimer := some 0 }
     Links s ∧ s.head.stepTimer.isSome = true ∧ s.head.state = .scanning ∧ 1 ≤ s.head.owed ∧
       s.tables.scan.travelLimit < s.head.pos + 1 ∧ s.pics.onDrum = some 0) ∧
    (let s := State.reset.setHead { State.reset.head with state := .positioning, pos := 40000, stepTimer := some 0 }
     s.head.stepTimer.isSome = true ∧ s.tables.scan.travelLimit < s.head.pos + 1 ∧ attemptInProgress s = false) :=
  ⟨⟨links_of (by decide), by decide, by decide⟩, ⟨links_of (by decide), by decide, by decide⟩,
    ⟨links_of (by decide), by decide, by decide, fun h => absurd h.2.2 (by decide), by decide⟩,
    ⟨links_of (by decide), count_window _ (by decide), by decide⟩,
    ⟨links_of (by decide), by decide⟩, by decide⟩

/-- Both timers with a pending profile; windows of ten times the braking W and of one tick more. -/
theorem witness_BrakingEndsInStopped :
    (let s := ((drumIn .braking).setDrum { (drumIn .braking).drum with brakingTimer := some 0, silenceTimer := some 0 }).setTables
      { tablesDefault with drumPending := some drumDefault }
     s.drum.state = .braking ∧ demand s = false ∧ s.drum.brakingTimer.isSome = true ∧
       s.drum.silenceTimer.isSome = true ∧ s.tables.drumPending = some drumDefault) ∧
    (let b := (drumIn .braking).setDrum { (drumIn .braking).drum with brakingW := 62500 }
     WindowAt (.encoderCount .forward) (atBoundary 625000 b) 15 5 625000 ∧ Unscanned .indexPulse (atIndex 625001 b) ∧
       WindowAt .indexPulse (atIndex 625001 b) 0 5 625001 ∧ demand (atIndex 625001 b) = false ∧
       625000 ≤ 10 * b.drum.brakingW ∧ 10 * b.drum.brakingW < 625001) :=
  ⟨by decide, count_window _ (by decide), unscanned_of rfl, index_window _ (by decide) (by decide), by decide, by decide,
    by decide⟩

/-! The scanner, the converter, the tone path, the lamp, the head. -/

/-- A discarded result; a white-patch entry and a PICTURE entry with a ready one and a waiting one behind them; a full store. -/
theorem witness_ConversionGoesOut :
    (State.reset.setConv { current := some (.photocell .white true), photoWaiting := [], thermWaiting := false }).conv.current =
      some (.photocell .white true) ∧
    (∀ e ∈ [(⟨.gap, some 255, true, true⟩ : WaitEntry), ⟨.picture, none, true, false⟩],
      let ready : List WaitEntry := [⟨.gap, some 255, false, false⟩]
      let stuck : List WaitEntry := [⟨.picture, none, false, false⟩]
      let s := ((sending.setScan { State.reset.scan with
          state := .running, rev := 16, k := 5, waiting := e :: ready ++ stuck }).setConv
        { current := some (.photocell (if e.white then .white else .picture) false), photoWaiting := [.picture]
          thermWaiting := false }).setSender { sending.sender with state := .prefill }
      s.scan.waiting = e :: ready ++ stuck ∧ (∀ x ∈ ready, x.white = false ∧ x.level ≠ none) ∧
        (∀ x ∈ stuck.take 1, x.white = true ∨ x.level = none) ∧ s.scan.signalDue = false ∧ s.scan.state = .running ∧
        lastSampleTaken s = false ∧ s.sender.cadenceOn = false) ∧
    (List.replicate 256 (⟨.gap, 255, false⟩ : Entry)).length = 256 :=
  ⟨by decide, by decide, List.length_replicate⟩

theorem witness_TonePath : 180 < 3000 ∧ 180 ≤ 180 ∧ 3000 ≤ 3000 ∧ 180 ≤ 2999 ∧ 2999 < 3000 ∧ 4095 % 256 = 255 ∧
    3840 % 256 = 0 := by decide

/-- A good index pulse of an attempt, boundary 0 taken already. -/
theorem quiet_of {s : State} (h : attemptInProgress s = true ∧ (s.drum.state = .tracking ∨ s.drum.state = .locked) ∧
    s.enc.indexFound = true ∧ s.enc.pos ≤ 8191 ∧
    (if s.enc.pos < 4096 then s.enc.pos else 8192 - s.enc.pos) ≤ s.tables.drum.indexTol ∧
    s.enc.lastBoundary = some 0) : QuietIndex s :=
  ⟨h.1, h.2.1, And.intro h.2.2.1 (And.intro h.2.2.2.1 h.2.2.2.2.1), .inl h.2.2.2.2.2⟩

/-- An attempt in PREFILL, its scanner ARMED, the white patch `front` positions into the turn. -/
def armed (front : Nat) : State :=
  ((sending.setSender { sending.sender with state := .prefill }).setScan { State.reset.scan with state := .armed }).setTables
    { tablesDefault with scan := { scanDefault with whiteStart := front, whiteEnd := front + 8 } }

/-- The white patch behind the index and at it; the pulse with boundary 0 taken, and as an in-time window event. -/
theorem witness_ScannerStarts :
    (∀ x ∈ [(7952 : Nat), 0], (armed x).scan.state = .armed ∧ (armed x).scan.waiting = [] ∧
      (armed x).scan.signalDue = false ∧ (armed x).store.entries.length < 127 ∧ (armed x).store.carry = false ∧
      1 ≤ (carryingLine (armed x)).nPhase ∧ 0 < (carryingLine (armed x)).phasingWidth ∧
      0 < (armed x).tables.scan.whiteEnd ∧ (armed x).tables.scan.whiteStart = x ∧ (armed x).conv.current = none) ∧
    QuietIndex (armed 7952) ∧ QuietIndex (armed 0) ∧ QuietIndex (atIndex 31250 (armed 7952)) :=
  ⟨by decide, quiet_of (by decide), quiet_of (by decide),
    ⟨by decide, by decide, And.intro rfl (And.intro (by decide) (by decide)),
      .inr ⟨5, rfl, by decide, by decide⟩⟩⟩

/-- The scanner before sample `k` of a revolution. -/
def beforeSample (rev k : Nat) : State :=
  (sending.setScan { State.reset.scan with state := .running, rev := rev, k := k }).setEnc { turning with pos := 4 * k - 1 }

theorem beforeSample_at : ∀ x ∈ [(1, 65), (16, 65), (16, 1983), (16, 1989)], SampleAt (beforeSample x.1 x.2) x.2 := by
  intro x hx
  simp only [List.mem_cons, List.not_mem_nil, or_false] at hx
  rcases hx with rfl | rfl | rfl | rfl <;>
    exact ⟨by decide, by decide, by decide, by decide, by decide, by decide, by decide⟩

/-- A phasing revolution; in a picture revolution the window's second position, the last before its end, and the patch; the
entry that brings the fill to 128. -/
theorem witness_SamplesTaken :
    (∀ x ∈ [(1, 65), (16, 65), (16, 1983), (16, 1989)], SampleAt (beforeSample x.1 x.2) x.2 ∧
      (beforeSample x.1 x.2).conv.current = none) ∧
    (carryingLine (beforeSample 1 65)).nPhase = 15 ∧ inWindow scanDefault 260 = true ∧
    inWindow scanDefault 7932 = true ∧ inPatch scanDefault 7956 = true ∧ inWindow scanDefault 7956 = false ∧
    (let s := ((beforeSample 1 65).setSender { sending.sender with state := .prefill }).setStore
        { storeCleared with entries := List.replicate 127 ⟨.phasing, 0, false⟩ }
     s.sender.state = .prefill ∧ s.sender.cadenceOn = false ∧ 127 ≤ s.store.entries.length ∧
       s.store.entries.length < 256) :=
  ⟨fun x hx => ⟨beforeSample_at x hx, (by decide : State.reset.conv.current = none)⟩, by decide, by decide,
    by decide, by decide, by decide, rfl, rfl, Nat.le_of_eq List.length_replicate.symm,
    List.length_replicate.trans_lt (by decide)⟩

/-- The scanner RUNNING in a revolution with white-patch readings, boundary 0 the last one captured. -/
def running (rev count sum : Nat) : State :=
  sending.setScan
    { State.reset.scan with state := .running, rev := rev, k := 9, whiteCount := count, whiteSum := sum, wRef := 3000 }

/-- A span of 511 and one of 512 above the dark level; the phasing's end without a reading; the first, the 14th and the 15th
revolution of a run of 115; the window at the index, and the white patch. -/
theorem witness_RevolutionCloses :
    (Links (running 1 1 691) ∧ QuietIndex (running 1 1 691) ∧ (running 1 1 691).scan.state = .running ∧
      (running 1 1 691).pics.onDrum = some 0 ∧ Dims (running 1 1 691)) ∧
    Dims (running 15 0 0) ∧
    (∀ rev ∈ [1, 14, 15], ¬ Dims (running rev 1 692) ∧
      (running rev 1 692).scan.rev ≠ (carryingLine (running rev 1 692)).nPhase + onDrumLines (running rev 1 692) ∧
      (running rev 1 692).scan.waiting = [] ∧ (running rev 1 692).scan.signalDue = false ∧
      (running rev 1 692).head.owed + (running rev 1 692).tables.scan.stepsPerLine ≤ 255 ∧
      (running rev 1 692).head.pos < (running rev 1 692).tables.scan.travelLimit) ∧
    (let s := (running 15 1 692).setTables
        { tablesDefault with scan := { scanDefault with windowStart := 0, windowEnd := 8 } }
     Links s ∧ QuietIndex s ∧ ¬ Dims s ∧ s.tables.scan.windowStart = 0 ∧ 0 < s.tables.scan.windowEnd) ∧
    (let s := (running 14 1 692).setTables { tablesDefault with scan := { scanDefault with whiteStart := 0, whiteEnd := 8 } }
     Links s ∧ QuietIndex s ∧ ¬ Dims s ∧ s.tables.scan.whiteStart = 0 ∧ 0 < s.tables.scan.whiteEnd) :=
  ⟨⟨links_of (by decide), quiet_of (by decide), by decide, by decide, .inl (by decide)⟩,
    .inr (by decide), fun rev h => by
      simp only [List.mem_cons, List.not_mem_nil, or_false] at h
      rcases h with rfl | rfl | rfl <;>
        exact ⟨fun h => by rcases h with h | h <;> exact absurd h (by decide), by decide⟩,
    ⟨links_of (by decide), quiet_of (by decide),
      fun h => by rcases h with h | h <;> exact absurd h (by decide), by decide, by decide⟩,
    links_of (by decide), quiet_of (by decide),
    fun h => by rcases h with h | h <;> exact absurd h (by decide), by decide, by decide⟩

/-- An entry waits for its conversion after the run's last sample, 2,047 at 8,188, in the white patch. -/
def closing (st : ScannerState) (e : WaitEntry) : State :=
  ((sending.setScan { State.reset.scan with
      state := st, rev := 115, k := 2048, waiting := [e], signalDue := decide (st = .finished) }).setConv
    { current := some (.photocell (if e.white then .white else .picture) false), photoWaiting := [], thermWaiting := false }).setTables
    { tablesDefault with scan := { scanDefault with whiteStart := 8180, whiteEnd := 8192 } }

/-- The last revolution of the run, 115, by the index pulse, an entry waiting or none, and by its last sample outside patch and
window, in the window and in the patch; spans of 511 and of 512; the patch's reading and one after the finish. -/
theorem witness_RunFinishes :
    (∀ sum ∈ [691, 692], attemptInProgress (running 115 1 sum) = true ∧ (running 115 1 sum).pics.onDrum = some 0 ∧
      (running 115 1 sum).store.carry = false ∧
      (running 115 1 sum).scan.state = .running ∧ (running 115 1 sum).scan.waiting = [] ∧
      (running 115 1 sum).scan.signalDue = false ∧
      (running 115 1 sum).scan.rev = (carryingLine (running 115 1 sum)).nPhase + onDrumLines (running 115 1 sum) ∧
      1 ≤ onDrumLines (running 115 1 sum) ∧ 0 < (running 115 1 sum).scan.whiteCount ∧
      closingWhite (running 115 1 sum) = sum ∧ (running 115 1 sum).head.state = .scanning ∧
      2 ≤ (running 115 1 sum).head.pos + (running 115 1 sum).tables.scan.rewindMargin ∧
      (running 115 1 sum).drum.state ≠ .cutoff) ∧
    Links (running 115 1 692) ∧ QuietIndex (running 115 1 692) ∧ 691 < scanDefault.darkLevel + 512 ∧
    ¬ (692 < scanDefault.darkLevel + 512) ∧
    (let s := (running 115 1 692).setScan { (running 115 1 692).scan with waiting := [⟨.gap, some 255, false, true⟩] }
     Links s ∧ QuietIndex s ∧ s.scan.waiting ≠ [] ∧
       s.scan.waiting.all (fun e => e.white || e.level.isNone) = true) ∧
    (let s := beforeSample 115 2047
     Links s ∧ attemptInProgress s = true ∧ s.scan.waiting = [] ∧ s.scan.k + 1 = samplesPerRev s ∧ 1 ≤ s.scan.k ∧
       s.enc.pos + 1 = samplePos s s.scan.k ∧ s.enc.pos + 1 < 8192 ∧ (s.enc.pos + 1) % 512 ≠ 0 ∧
       inWindow s.tables.scan (s.enc.pos + 1) = false ∧ inPatch s.tables.scan (s.enc.pos + 1) = false ∧
       s.conv.current = none ∧ inWindow { scanDefault with windowEnd := 8192 } (s.enc.pos + 1) = true ∧
       inPatch { scanDefault with whiteStart := 8180, whiteEnd := 8192 } (s.enc.pos + 1) = true) ∧
    (let s := closing .running ⟨.gap, some 255, false, true⟩
     let read (r : Nat) := s.setScan { s.scan with whiteSum := s.scan.whiteSum + r, whiteCount := s.scan.whiteCount + 1 }
     Links s ∧ s.store.carry = false ∧ s.scan.state = .running ∧ s.conv.photoWaiting = [] ∧ s.head.state = .scanning ∧
       s.scan.k = samplesPerRev s ∧ s.tables.scan.whiteStart ≤ samplePos s (s.scan.k - 1) ∧
       samplePos s (s.scan.k - 1) < s.tables.scan.whiteEnd ∧ closingWhite (read 691) = 691 ∧ closingWhite (read 692) = 692) ∧
    (∀ e ∈ [(⟨.gap, some 255, false, true⟩ : WaitEntry), ⟨.picture, none, false, false⟩],
      Links (closing .finished e) ∧ (closing .finished e).scan.signalDue = true ∧
        (closing .finished e).scan.waiting = [e]) :=
  ⟨by decide, links_of (by decide), quiet_of (by decide), by decide, by decide,
    ⟨links_of (by decide), quiet_of (by decide), by decide, by decide⟩, ⟨links_of (by decide), by decide⟩,
    ⟨links_of (by decide), by decide⟩, fun e h => by
      simp only [List.mem_cons, List.not_mem_nil, or_false] at h
      rcases h with rfl | rfl <;> exact ⟨links_of (by decide), by decide⟩⟩

/-- The head in a picture revolution with steps owed, P before a position. -/
def bursting (rev owed pos : Nat) : State :=
  ((running rev 1 692).setHead { sending.head with owed := owed }).setEnc { turning with pos := pos - 1 }

/-- The run's last sample, 1,023 at pitch 8, at the window_start of a window [8,184, 8,192), with steps owed. -/
def lastAtStart (owed : Nat) : State :=
  (((running 115 1 692).setScan { (running 115 1 692).scan with k := 1023 }).setHead { sending.head with owed := owed }
    |>.setEnc { turning with pos := 8183 }).setTables
    { tablesDefault with
      standards := tablesDefault.standards.set 0 ⟨62500, 8, 400⟩
      scan := { scanDefault with windowStart := 8184, windowEnd := 8192, whiteStart := 8, whiteEnd := 16 } }

/-- R53: the line is head-late at the count that its run finishes with. -/
theorem test_late_at_last_sample : read (.encoderCount .forward) (lastAtStart 3)
    (fun t => (t.scan.state, (onDrumRec t).bind fun r => r.attempts.getLast?.map (·.headLate))) =
    some (.finished, some 1) := by decide

/-- A count onto window_end, 7,936, with 251 and 252 steps owed in the first and the last but one of the burst revolutions, 16
and 114, and in 15 and 115 where there is no burst; one onto window_start, 256, in 17 and 115, and in 16, and one that is the run's last sample; the index pulse
with the window at the turn's ends. -/
theorem witness_BurstsAndLateLines :
    (let s := bursting 16 251 7936
     Links s ∧ s.pics.onDrum = some 0 ∧ s.rec? 0 = some (record .sending [attempt0]) ∧ s.scan.state = .running ∧
       s.head.state = .scanning ∧ s.scan.k + 1 < samplesPerRev s ∧ s.enc.pos + 1 = s.tables.scan.windowEnd ∧
       (s.enc.pos + 1) % 512 ≠ 0 ∧ (carryingLine s).nPhase = 15 ∧ onDrumLines s = 100 ∧
       s.tables.scan.windowStart ≠ s.tables.scan.windowEnd ∧ s.head.owed + s.tables.scan.stepsPerLine = 255 ∧
       s.head.pos < s.tables.scan.travelLimit) ∧
    (Links (bursting 114 252 7936) ∧
      255 < (bursting 114 252 7936).head.owed + (bursting 114 252 7936).tables.scan.stepsPerLine) ∧
    Links (bursting 115 0 256) ∧ (bursting 115 0 256).enc.pos + 1 = scanDefault.windowStart ∧
    (∀ owed ∈ [(1 : Nat), 0],
      let s := lastAtStart owed
      Links s ∧ s.scan.state = .running ∧ s.head.state = .scanning ∧ s.head.owed = owed ∧ s.pics.onDrum = some 0 ∧
        s.enc.pos + 1 = s.tables.scan.windowStart ∧ s.tables.scan.windowStart ≠ s.tables.scan.windowEnd ∧
        (s.enc.pos + 1) % 512 ≠ 0 ∧ s.enc.pos + 1 < 8192 ∧ s.enc.pos + 1 < s.tables.scan.windowEnd ∧
        (carryingLine s).nPhase + 2 ≤ s.scan.rev ∧ s.scan.rev = (carryingLine s).nPhase + onDrumLines s ∧
        s.scan.k + 1 = samplesPerRev s ∧ 1 ≤ s.scan.k ∧ s.enc.pos + 1 = samplePos s s.scan.k ∧
        ¬ (s.tables.scan.whiteStart ≤ s.enc.pos + 1 ∧ s.enc.pos + 1 < s.tables.scan.whiteEnd) ∧
        s.tables.scan.darkLevel + 512 ≤ closingWhite s) ∧
    (∀ w ∈ [(8 : Nat), 0], Links ((running 20 1 692).setTables
        { tablesDefault with scan := { scanDefault with windowStart := w, windowEnd := 8192, whiteStart := 0, whiteEnd := 8 } }) ∧
      QuietIndex ((running 20 1 692).setTables
        { tablesDefault with scan := { scanDefault with windowStart := w, windowEnd := 8192, whiteStart := 0, whiteEnd := 8 } })) ∧
    ¬ Dims (running 20 1 692) :=
  ⟨⟨links_of (by decide), by decide⟩, ⟨links_of (by decide), by decide⟩,
    links_of (by decide), by decide, fun owed h => by
      simp only [List.mem_cons, List.not_mem_nil, or_false] at h
      rcases h with rfl | rfl <;> exact ⟨links_of (by decide), by decide⟩, fun w h => by
      simp only [List.mem_cons, List.not_mem_nil, or_false] at h
      rcases h with rfl | rfl <;> exact ⟨links_of (by decide), quiet_of (by decide)⟩,
    fun h => by rcases h with h | h <;> exact absurd h (by decide)⟩

/-- The lamp, the home sensor; the last positioning step, the last owed step, a rewind step, the one that reaches the limit. -/
theorem witness_HeadAndLamp :
    (let s := State.reset.setLamp { state := .warming, warmTimer := some 0 }
     s.lamp.state = .warming ∧ s.lamp.warmTimer.isSome = true ∧
       attemptReady (s.setLamp { state := .warm, warmTimer := none }) = false) ∧
    (let s := State.reset.setHead { State.reset.head with state := .rewinding, pos := 3 }
     s.head.state = .rewinding ∧ onDrumState s ≠ .granted ∧ s.tables.scanPending = none) ∧
    State.reset.head.state ≠ .rewinding ∧
    (let s := State.reset.setHead { State.reset.head with state := .positioning, pos := 239, stepTimer := some 0 }
     s.head.stepTimer.isSome = true ∧ s.head.pos + 1 = s.tables.scan.startOffset ∧
       s.head.pos + 1 ≤ s.tables.scan.travelLimit ∧
       attemptReady (s.setHead { s.head with state := .ready, pos := s.head.pos + 1 }) = false) ∧
    (let s := sending.setHead { sending.head with pos := 39999, owed := 1, stepTimer := some 0 }
     s.head.stepTimer.isSome = true ∧ s.head.state = .scanning ∧ s.head.pos + 1 ≤ s.tables.scan.travelLimit) ∧
    (let s := State.reset.setHead
        { State.reset.head with state := .rewinding, stepTimer := some 0, rewindCount := 8, rewindLimit := 10 }
     s.head.stepTimer.isSome = true ∧ attemptInProgress s = false ∧ s.head.rewindCount + 1 < s.head.rewindLimit) ∧
    (let s := State.reset.setHead
        { State.reset.head with state := .rewinding, stepTimer := some 0, rewindCount := 9, rewindLimit := 10 }
     s.head.stepTimer.isSome = true ∧ attemptInProgress s = false ∧ s.head.rewindLimit ≤ s.head.rewindCount + 1) := by
  decide

/-- An attempt and a GRANTED record with the head out; the sensor asserted with a pending profile; limits of 0, 1 and 2. -/
theorem witness_HeadRewinds :
    (onDrumState sending = .sending ∧ Links sending ∧ sending.head.state = .scanning ∧ sending.pins.homeAsserted = false ∧
      2 ≤ sending.head.pos + sending.tables.scan.rewindMargin) ∧
    (let s := ((mounted (record .granted []) State.reset).setHead { State.reset.head with state := .ready, pos := 240 }).setPins
        { State.reset.pins with homeAsserted := true }
     onDrumState s = .granted ∧ s.head.state = .ready ∧ s.pins.homeAsserted = true ∧
       (s.setTables { tablesDefault with scanPending := some scanDefault }).tables.scanPending = some scanDefault) ∧
    (let s := ((mounted (record .granted []) State.reset).setHead { State.reset.head with state := .positioning }).setTables
        { tablesDefault with scan := { scanDefault with rewindMargin := 0 } }
     onDrumState s = .granted ∧ s.head.state = .positioning ∧ s.head.pos + s.tables.scan.rewindMargin = 0 ∧
       1 + s.tables.scan.rewindMargin = 1) ∧
    onDrumState (mounted (record .granted []) State.reset) = .granted ∧ State.reset.head.state = .fault :=
  ⟨⟨by decide, sending_links, by decide⟩, by decide, by decide, by decide, by decide⟩

/-! The picture sender and the line ports. -/

theorem witness_CarrierAmplitudeBetweenEnds : 255 ≤ 255 ∧ sending.sender.state = .picture := by decide

/-- A phasing entry in PREFILL and a gap in PICTURE; the underrun that passes the limit and one that does not; the drained
answer in DRAIN. -/
theorem witness_CadenceEvents :
    (let s := (sending.setSender { sending.sender with state := .prefill, cadenceOn := true }).setStore
      { storeCleared with entries := [⟨.phasing, 0, true⟩] }
     s.sender.cadenceOn = true ∧ s.store.entries = [⟨.phasing, 0, true⟩] ∧ s.sender.state = .prefill) ∧
    (let s := (sending.setSender { sending.sender with cadenceOn := true }).setStore { storeCleared with underruns := 64 }
     s.sender.cadenceOn = true ∧ s.store.entries = [] ∧ s.store.lastWritten = false ∧
       (carryingLine s).underrunLimit < satInc 65535 s.store.underruns ∧ s.store.skewReported = false ∧
       s.pics.onDrum = some 0 ∧ s.rec? 0 = some (record .sending [attempt0])) ∧
    satInc 65535 63 ≤ (carryingLine sending).underrunLimit ∧
    (let s := (sending.setSender { sending.sender with state := .drain, cadenceOn := true }).setStore
        { storeCleared with lastWritten := true }
     s.sender.cadenceOn = true ∧ s.store.lastWritten = true ∧ s.sender.state = .drain ∧ Links s) :=
  ⟨by decide, by decide, by decide, by decide, by decide, by decide, links_of (by decide)⟩

/-- A GRANTED record whose port A is in FAULT, so that its attempt goes to port B. -/
def waiting (d : DrumState) (h : Head) (l : Lamp) : State :=
  (((mounted (record .granted []) (spun d)).setHead h).setLamp l).setPort .a { portReset with cause := .loop }

theorem waiting_waits (d : DrumState) (h : Head) (l : Lamp) :
    Waiting 0 (record .granted []) grant0 .b (waiting d h l) :=
  ⟨rfl, rfl, rfl, rfl, rfl, rfl, rfl⟩

/-- All ready; the lamp, the head and the drum each the last to come. -/
theorem witness_AttemptStarts :
    let ready : Head := { State.reset.head with state := .ready, pos := 240 }
    let warm : Lamp := { state := .warm, warmTimer := none }
    (Waiting 0 (record .granted []) grant0 .b (waiting .locked ready warm) ∧
      (waiting .locked ready warm).sender.state = .free) ∧
    (Waiting 0 (record .granted []) grant0 .b (waiting .locked ready { state := .warming, warmTimer := some 0 })) ∧
    (let h : Head := { State.reset.head with state := .positioning, pos := 239, stepTimer := some 0 }
     Waiting 0 (record .granted []) grant0 .b (waiting .locked h warm) ∧ h.stepTimer.isSome = true ∧
       h.pos + 1 = scanDefault.startOffset ∧ scanDefault.startOffset ≤ scanDefault.travelLimit) ∧
    (let s := atBoundary 62625 ((waiting .tracking ready warm).setReg { State.reset.reg with lockCount := 15 })
     Waiting 0 (record .granted []) grant0 .b s ∧ WindowAt (.encoderCount .forward) s 15 5 62625 ∧
       Unscanned (.encoderCount .forward) s ∧ s.drum.state = .tracking ∧ (standardInForce s).w ≤ 2 * 62625 ∧
       (eRawOf 62625 s).natAbs ≤ s.tables.drum.lockBand ∧ s.tables.drum.lockCount ≤ s.reg.lockCount + 1) :=
  ⟨⟨waiting_waits _ _ _, by decide⟩, waiting_waits _ _ _, ⟨waiting_waits _ _ _, by decide⟩,
    ⟨rfl, rfl, rfl, rfl, by decide, by decide, by decide⟩, count_window _ (by decide), unscanned_of rfl, by decide⟩

/-- The tones' ends, in MUTE too; a line-up at each stage. -/
theorem witness_TonesAndLineups :
    (let s := carryingIn .startTone State.reset
     s.sender.state = .startTone ∧ s.sender.stageTimer.isSome = true ∧ s.scan.state = .idle) ∧
    (let s := (carryingIn .stopTone State.reset).setSender
        { (carryingIn .stopTone State.reset).sender with held := some .broken, closing := some (7, attempt0) }
     s.sender.stageTimer.isSome = true ∧ s.sender.port = some .a ∧ (s.port .a).list = [] ∧
       s.tables.linePending = none ∧ s.station.mute = false ∧ s.sender.held = some .broken ∧
       s.sender.closing = some (7, attempt0) ∧ (s.port PortId.a.other).reportDue = false ∧ onDrumState s ≠ .granted ∧ s.sender.lineupReq = none ∧
       (s.setStation { code := 0, mute := true }).station.mute = true) ∧
    (let s := State.reset.setSender { State.reset.sender with lineupReq := some .b }
     s.sender.state = .free ∧ s.sender.lineupReq = some .b ∧ (s.port .b).cause = .none ∧
       (s.port .b).activity = .idle) ∧
    (let s := carryingIn .lineupWhite State.reset
     s.sender.state = .lineupWhite ∧ s.sender.stageTimer.isSome = true ∧ s.sender.port = some .a) ∧
    (let s := carryingIn .lineupBlack State.reset
     s.sender.state = .lineupBlack ∧ s.sender.stageTimer.isSome = true ∧ s.sender.port = some .a ∧
       (s.port .a).activity = .carrying ∧ s.tables.linePending = none ∧ onDrumState s ≠ .granted ∧
       s.sender.lineupReq = none) := by decide

/-- Loss and return; the loop's fault with an attempt left and the other port fit or not, and with none left, in the stop tone and
in a line-up with a profile of the port pending; the break tone sensed, ignored, and its timer's end. -/
theorem witness_LoopAndBreak :
    (State.reset.port .a).loopCurrent = true ∧
    (let s := sending.setPort .a { sending.portA with loopTimer := some 0, breakTimer := some 0 }
     Links s ∧ Footing s ∧ s.pics.onDrum = some 0 ∧ s.rec? 0 = some (record .sending [attempt0]) ∧
       (record .sending [attempt0]).grant = some grant0 ∧ (s.port .a).activity = .carrying ∧
       (s.port .a).loopTimer.isSome = true ∧ s.sender.lineupReq = none ∧ [attempt0].length < grant0.allowed ∧
       (s.port PortId.a.other).cause = .none ∧ s.tables.scanPending = none ∧ 2 ≤ s.tables.scan.startOffset ∧
       attemptInProgress s = true ∧ (s.port .a).breakTimer.isSome = true) ∧
    (Links (sending.setPort .b { portReset with cause := .echo }) ∧
      ((sending.setPort .b { portReset with cause := .echo }).port PortId.a.other).cause ≠ .none) ∧
    (let s := mounted (record .sending [attempt0, attempt0]) sending
     Links s ∧ grant0.allowed ≤ (record .sending [attempt0, attempt0]).attempts.length) ∧
    (∀ st ∈ [SenderState.stopTone, .lineupWhite, .lineupBlack],
      let s := ((carryingIn st State.reset).setPort .a
        { portReset with activity := .carrying, loopTimer := some 0 }).setTables
        { tablesDefault with linePending := some (.a, lineDefault) }
      (s.port .a).activity = .carrying ∧ (s.port .a).loopTimer.isSome = true ∧ s.sender.port = some .a ∧
        onDrumState s ≠ .granted ∧ s.sender.lineupReq = none ∧ s.sender.state = st ∧
        s.tables.linePending = some (.a, lineDefault)) ∧
    ((sending.port .a).activity = .carrying ∧ sending.sender.state.sendingAttempt = true ∧
      (sending.port .a).breakTimer = none) ∧
    (State.reset.port .a).activity ≠ .carrying :=
  ⟨by decide, ⟨links_of (by decide), { sending_footing with }, by decide⟩, ⟨links_of (by decide), by decide⟩,
    ⟨links_of (by decide), by decide⟩, by decide, by decide, by decide⟩

/-- A report and a reservation at the head; a REPORTING port whose report is a DONE with one failure behind it. -/
theorem witness_ReportsStartAndEnd :
    (let s := ordered .clock [29, 2, 24, 23, 59, 59] State.reset
     HeadOrder .clock (order .clock [29, 2, 24, 23, 59, 59]) s ∧ (s.port .a).list = .reservation :: [] ∧
       (s.port .a).activity = .answerDue ∧ (s.port .a).turn = .stopped ∧ s.orders.tail = [] ∧
       (s.orders ++ s.orders).tail ≠ []) ∧
    (State.reset.port .b).reportDue = false ∧ State.reset.orders = [] ∧
    (let x : Port := { portReset with activity := .answerDue, turn := .running 0, list := [.report ⟨.ack, 1, []⟩] }
     x.turn = .running 0 ∧ x.activity = .answerDue ∧ x.list = .report ⟨.ack, 1, []⟩ :: [] ∧
       ({ x with list := [.reservation] } : Port).list = .reservation :: []) ∧
    (let s := (State.reset.setPort .a
        { portReset with activity := .reporting, list := [.report ⟨.done, 0, []⟩], consecEcho := 1 }).setSender
        { State.reset.sender with state := .doneOut, port := some .a }
     (s.port .a).activity = .reporting ∧ onDrumState s ≠ .granted ∧ s.sender.lineupReq = none ∧
       (s.port .a).consecEcho = 1 ∧ (s.port .a).cause = .none ∧ s.sender.state = .doneOut ∧ s.sender.port = some .a ∧
       bytesSent .a s = [] ++ 0xA7 :: (bytesSent .a s).tail ∧ Echo.framing ≠ .byte 0xA7 ∧ Echo.byte 0xA6 ≠ .byte 0xA7 ∧
       ([] : List Echo) ≠ (bytesSent .a s).map .byte ∧ (s.port .a).list = .report ⟨.done, 0, []⟩ :: [] ∧
       (bytesSent .a s)[0]? = some 0xA7 ∧ (bytesSent .a s)[8]? ≠ none ∧ (bytesSent .a s)[9]? = none ∧
       (s.port .b).activity ≠ .reporting) :=
  ⟨⟨ordered_head _ _ _ (by decide) rfl (by decide), by decide⟩, by decide, by decide, by decide, by decide +kernel⟩

/-! The receivers and the order unit. -/

theorem witness_BlockRoundTrip : (List.replicate 96 (0 : Byte)).length ≤ 96 ∧
    ((hearing State.reset).port .a).rx.state = .syncing ∧ ((hearing State.reset).port .a).rx.bytes = [] := by decide

theorem hearing_hears (s : State) (h : s.portA.activity = .idle ∨ s.portA.activity = .answerDue) :
    Hearing .a (hearing s) := ⟨h, rfl, rfl⟩

/-- A start bit after 16 and after 15 bit times; a receiver SYNCING and one RECEIVING; a wrong CRC, the address 2 of another
station, a block from a station. -/
theorem witness_ReceptionsStartAndEnd : (State.reset.port .a).activity = .idle ∧
    (State.reset.port .a).rx.state = .hunting ∧ (∀ q, (State.reset.port q).reportDue = false) ∧
    ({ portReset with activity := .answerDue, list := [.report ⟨.ack, 1, []⟩] } : Port).reportDue = true ∧ 16 ≤ 16 ∧ 15 < 16 ∧
    ((hearing State.reset).port .a).rx.state = .syncing ∧
    (let s := State.reset.setPort .b { portReset with rx := { rxIdle with state := .receiving } }
     (s.port .b).activity = .idle ∧ (s.port .b).rx.state = .receiving) ∧
    Hearing .a (hearing State.reset) ∧ (0 : Byte).toNat + 256 * (0 : Byte).toNat ≠ (crcOf [1, 63, 1, 9, 0]).toNat ∧
    (2 : Byte) ≠ 0 ∧ (2 : Byte).toNat ≠ State.reset.station.code.toNat ∧ (62 : Byte) ≠ 63 :=
  ⟨by decide, by decide, fun q => by cases q <;> decide, by decide, by decide, by decide, by decide, by decide,
    hearing_hears _ (.inl rfl), by decide +kernel, by decide, by decide, by decide⟩

/-- An order taken, with a list that is empty and one that holds 8; the head in FAULT refuses a GRANT, an attempt makes it
BUSY; four orders fill the queue, a RESTART and a broadcast CLOCK come then, a report on its way on the other port; kinds 0
and 12; a broadcast GRANT, a broadcast CLOCK that the table does not take; a SLIP of one byte. -/
theorem witness_OrdersTaken : Hearing .a (hearing State.reset) ∧
    acceptEntry (hearing State.reset) .load = .take ∧ (hearing State.reset).orders.length < 4 ∧
    (hearing State.reset).station.mute = false ∧ 1 ≤ (hearing State.reset).station.code.toNat ∧
    ((hearing State.reset).port .a).list.length < 8 ∧
    (let s := hearing (State.reset.setPort .a
        { portReset with activity := .answerDue, list := List.replicate 8 .reservation })
     Hearing .a s ∧ 8 ≤ (s.port .a).list.length) ∧
    (0x0B < (12 : Byte).toNat ∧ acceptEntry (hearing State.reset) .grant = .refuse) ∧
    (let s := hearing ((State.reset.setHead { State.reset.head with state := .parked }).setSender
        { State.reset.sender with state := .picture, port := some .b })
     acceptEntry s .grant = .busy ∧ (s.port .a).list.length < 8 ∧ s.station.mute = false) ∧
    (let s := hearing (State.reset.setOrders (List.replicate 4 (order .load [])))
     Hearing .a s ∧ 4 ≤ s.orders.length ∧ acceptEntry s .cancel = .take ∧ attemptInProgress s = false ∧
       s.sender.state.inLineup = false ∧ onDrumState s ≠ .granted ∧
       ({ portReset with activity := .reporting, list := [.report ⟨.ack, 1, []⟩] } : Port).activity = .reporting) ∧
    (∀ k ∈ [OrderKind.load, .clock, .restart], (2 : Byte) ≠ k.code) ∧ OrderKind.clock.code ≠ OrderKind.restart.code ∧
    (let s := hearing (State.reset.setTables { tablesDefault with accept := List.replicate 33 .busy })
     Hearing .a s ∧ acceptEntry s .clock ≠ .take) ∧
    (let s := State.reset.setOrders [order .slip [7]]
     s.orders.head? = some (order .slip [7]) ∧ lengthOk .slip [7] = false ∧
       ∀ p, (s.port p).activity ≠ .reporting ∧ (s.port p).rx.state = .hunting) :=
  ⟨hearing_hears _ (.inl rfl), by decide, by decide, by decide, by decide, by decide,
    ⟨hearing_hears _ (.inr rfl), by decide⟩, by decide, by decide, ⟨hearing_hears _ (.inl rfl), by decide⟩,
    by decide, by decide, ⟨hearing_hears _ (.inl rfl), by decide⟩, by decide, by decide, fun p => by cases p <;> decide⟩

theorem witness_PollAnswersStatus : HeadOrder .poll (order .poll []) (ordered .poll [] State.reset) ∧ Ranges sending ∧
    sending.rec? 7 = some recEmpty ∧ sending.tables.counts[8]? = some 0 ∧ (sending.port .a).activity ≠ .idle ∧
    (sending.port .b).activity = .idle ∧ ({ portReset with cause := .loop } : Port).cause ≠ .none :=
  ⟨ordered_head _ _ _ (by decide) rfl (by decide), sending_ranges, by decide, by decide, by decide, by decide, by decide⟩

/-- A GRANTED record on drum 0 whose grant is standard 0 on port A with 2 attempts, and an order of another grant. -/
def regranted (p : List Byte) (as : List Attempt) (s : State) : State := ordered .grant p (mounted (record .granted as) s)

/-- A grant of the largest values, applied; grants that fail each check; and for a GRANTED record another number, the same
grant, and another with each check failing in turn. -/
theorem witness_GrantJudged :
    (let p : List Byte := [0x0F, 0x27, 1, 3, 3, 1, 255]
     let s := ordered .grant p (loaded.setHead { State.reset.head with state := .parked })
     HeadOrder .grant (order .grant p) s ∧ s.drum.state ≠ .cutoff ∧ wordAt p 0 = 9999 ∧
       s.rec? 0 = some { recEmpty with state := .loaded, mount := some ⟨1, [65], 100⟩ } ∧
       (∀ x ∈ s.pics.records, x.number = some 9999 → x.state = .empty) ∧ (s.port .b).cause = .none ∧
       s.lamp.state ≠ .warm ∧
       s.tables.scan.startOffset + 100 * s.tables.scan.stepsPerLine ≤ s.tables.scan.travelLimit ∧
       s.drum.state = .stopped ∧ s.drum.spinLatch = false ∧ s.pins.coverClosed = true ∧
       s.tables.drumPending = none ∧ s.head.pos = 0 ∧ 2 ≤ s.tables.scan.startOffset ∧ s.scan.state ≠ .finished) ∧
    HeadOrder .grant (order .grant [7, 0, 0, 0, 1, 0, 1]) (ordered .grant [7, 0, 0, 0, 1, 0, 1] (drumIn .cutoff)) ∧
    ¬ (1 ≤ byteAt ([7, 0, 0, 0, 0, 0, 1] : List Byte) 4) ∧
    onDrumState (ordered .grant [7, 0, 0, 0, 1, 0, 1] State.reset) = .empty ∧
    onDrumState (ordered .grant [7, 0, 0, 0, 1, 0, 1] sending) = .sending ∧
    (let s := loaded.setPics { loaded.pics with records := loaded.pics.records.set 1 (record .finished []) }
     numberElsewhere s 0 7 = true) ∧ numberElsewhere loaded 0 7 = false ∧
    ((loaded.setPort .a { portReset with cause := .loop }).port .a).cause ≠ .none ∧
    (let s := loaded.setTables { tablesDefault with scan := { scanDefault with travelLimit := 639 } }
     s.tables.scan.travelLimit < s.tables.scan.startOffset + 100 * s.tables.scan.stepsPerLine) ∧
    (∀ p ∈ [([8, 0, 0, 0, 2, 0, 60] : List Byte), [7, 0, 0, 0, 2, 0, 60], [7, 0, 0, 0, 1, 0, 60]],
      HeadOrder .grant (order .grant p) (regranted p [attempt0] State.reset)) ∧
    ((regranted [] [attempt0] State.reset).pics.onDrum = some 0 ∧
      (regranted [] [attempt0] State.reset).rec? 0 = some (record .granted [attempt0]) ∧
      (record .granted [attempt0]).number = some 7 ∧ (record .granted [attempt0]).grant = some grant0 ∧
      grant0 = { port := .a, standard := 0, allowed := 2, policy := .same, wait := 60 } ∧
      (record .granted [attempt0]).grant ≠ some { grant0 with allowed := 1 } ∧
      numberElsewhere (regranted [] [attempt0] State.reset) 0 7 = false ∧
      byteAt ([7, 0, 0, 0, 1, 0, 60] : List Byte) 4 ≤ [attempt0].length ∧
      [attempt0].length < byteAt ([7, 0, 0, 0, 3, 0, 60] : List Byte) 4) :=
  ⟨⟨ordered_head _ _ _ (by decide) rfl (by decide), by decide⟩, ordered_head _ _ _ (by decide) rfl (by decide),
    by decide, by decide, by decide, by decide, by decide, by decide, by decide, fun p h => by
      simp only [List.mem_cons, List.not_mem_nil, or_false] at h
      rcases h with rfl | rfl | rfl <;> exact ordered_head _ _ _ (by decide) rfl (by decide), by decide⟩

theorem witness_CancelJudged :
    HeadOrder .cancel (order .cancel [7, 0]) (ordered .cancel [7, 0] State.reset) ∧
    slotOfNumber (ordered .cancel [7, 0] State.reset) 7 = none ∧
    slotOfNumber (ordered .cancel [7, 0] (mounted (record .finished []) State.reset)) 7 = some 0 ∧
    slotOfNumber (ordered .cancel [7, 0] (mounted (record .granted []) State.reset)) 7 = some 0 ∧
    HeadOrder .cancel (order .cancel [7, 0]) (sendingOrdered .cancel [7, 0]) ∧ Links (sendingOrdered .cancel [7, 0]) ∧
    slotOfNumber (sendingOrdered .cancel [7, 0]) 7 = some 0 ∧ (sendingOrdered .cancel [7, 0]).pics.onDrum = some 0 :=
  ⟨ordered_head _ _ _ (by decide) rfl (by decide), by decide, by decide, by decide,
    ordered_head _ _ _ (by decide) rfl (by decide), links_of (by decide), by decide, by decide⟩

theorem witness_AbortAndReceiptTimer : State.reset.pics.onDrum = none ∧
    onDrumState (mounted (record .finished []) State.reset) = .finished ∧
    (loaded.pics.onDrum = some 0 ∧ onDrumState loaded = .loaded) ∧
    onDrumState (mounted (record .awaiting [attempt0]) State.reset) = .awaiting ∧ onDrumState sending = .sending ∧
    Links sending ∧
    (let s := mounted (record .awaiting [attempt0]) State.reset
     (s.setPics { s.pics with receiptTimer := some 0 }).pics.receiptTimer.isSome = true) :=
  ⟨by decide, by decide, by decide, by decide, by decide, sending_links, by decide⟩

/-- A FINISHED record with these receipts, the dropped count at its largest value. -/
def finishedWith (rs : List ReceiptItem) : State :=
  ordered .receipt [7, 0, 0, 1, 62, 3] (mounted { record .finished [attempt0] with receipts := rs, dropped := 65535 } State.reset)

/-- Codes 1 and 62 with the last outcome; a held code; 32 held items; code 63 and outcome 4; the empty RECEIPT; a FINISHED
record that holds the item, does not, or is full, holds another outcome for it, or is given an item that does not count, the
LATE slip waiting already or not; an item that resolves an AWAITING record. -/
theorem witness_ReceiptJudged :
    HeadOrder .receipt (order .receipt [7, 0, 0, 1, 62, 3])
      (ordered .receipt [7, 0, 0, 1, 62, 3] (mounted (record .granted [attempt0]) State.reset)) ∧
    slotOfNumber (ordered .receipt [7, 0, 0, 1, 62, 3] (mounted (record .granted [attempt0]) State.reset)) 7 = some 0 ∧
    ReceiptOutcome.ofCode 3 = some .silent ∧ (∀ i ∈ (record .granted [attempt0]).receipts, i.code ≠ 62) ∧
    (List.replicate 32 (⟨1, .good⟩ : ReceiptItem)).length = 32 ∧
    [(⟨62, .poor⟩ : ReceiptItem)] = [] ++ ⟨62, .poor⟩ :: [] ∧ (62 : Nat) < (63 : Byte).toNat ∧ 3 < (4 : Byte).toNat ∧
    HeadOrder .receipt (order .receipt [7, 0, 1, 0])
      (ordered .receipt [7, 0, 1, 0] (mounted (record .awaiting [attempt0]) State.reset)) ∧
    slotOfNumber (ordered .receipt [7, 0, 0, 0] State.reset) 7 = none ∧
    (let e : RosterEntry := { code := 4, name := List.replicate 8 65, required := true }
     let s := State.reset.setTables { tablesDefault with roster := tablesDefault.roster.set 0 e }
     let r (out : ReceiptOutcome) := { record .awaiting [attempt0] with receipts := [⟨4, out⟩] }
     requiredCodes s = [4] ∧ outcomeFor (r .resend) 4 = some .resend ∧ [attempt0].length < grant0.allowed ∧
       outcomeFor (r .poor) 4 = some .poor ∧ outcomeFor (r .silent) 4 = some .silent) ∧
    (HeadOrder .receipt (order .receipt [7, 0, 0, 1, 62, 3]) (finishedWith [⟨62, .silent⟩]) ∧
      slotOfNumber (finishedWith [⟨62, .silent⟩]) 7 = some 0 ∧
      (finishedWith [⟨62, .silent⟩]).rec? 0 =
        some { record .finished [attempt0] with receipts := [⟨62, .silent⟩], dropped := 65535 } ∧
      (finishedWith [⟨62, .silent⟩]).slips.queue.length < 8 ∧
      (⟨0, .late⟩ : SlipReq) ∉ waitingRequests (finishedWith [⟨62, .silent⟩]).slips ∧
      ([(⟨62, .silent⟩ : ReceiptItem)].map (·.code)).Nodup) ∧
    (∀ i ∈ List.replicate 32 (⟨1, .good⟩ : ReceiptItem), i.code ≠ 62) ∧
    (let s := ordered .receipt [7, 0, 0, 1, 62, 3] (mounted (record .awaiting [attempt0]) State.reset)
     HeadOrder .receipt (order .receipt [7, 0, 0, 1, 62, 3]) s ∧ slotOfNumber s 7 = some 0 ∧
       s.rec? 0 = some (record .awaiting [attempt0]) ∧ (0 : Byte).getLsbD 0 = false ∧
       (record .awaiting [attempt0]).receipts.length < 32 ∧ ((record .awaiting [attempt0]).receipts.map (·.code)).Nodup) ∧
    HeadOrder .receipt (order .receipt [7, 0, 0, 1, 63, 3])
      (ordered .receipt [7, 0, 0, 1, 63, 3] (mounted (record .finished [attempt0]) State.reset)) ∧
    ((record .finished [attempt0]).dropped < 65535 ∧ ReceiptOutcome.poor ≠ .silent) ∧
    (let u := { State.reset.slips with queue := [⟨0, .final⟩, ⟨0, .late⟩], started := true }
     (⟨0, .late⟩ : SlipReq) ∈ waitingRequests u) :=
  ⟨ordered_head _ _ _ (by decide) rfl (by decide), by decide, by decide, by decide, by decide, by decide, by decide,
    by decide, ordered_head _ _ _ (by decide) rfl (by decide), by decide, by decide,
    ⟨ordered_head _ _ _ (by decide) rfl (by decide), by decide, by decide, by decide, by decide, by decide⟩,
    by decide, ⟨ordered_head _ _ _ (by decide) rfl (by decide), by decide⟩,
    ordered_head _ _ _ (by decide) rfl (by decide), by decide, by decide⟩

/-- A LOAD of a content at an entry of a kind. -/
def loading (kind i : Byte) (c : List Byte) (s : State) : State := ordered .load ([kind, i] ++ c) s

/-- What the clauses of a LOAD of each kind ask of its content. -/
theorem loading_head (kind i : Byte) (c : List Byte) (s : State) (h : lengthOk .load ([kind, i] ++ c) = true)
    (hr : s.portA.rx.state = .hunting) (hb : s.portB.activity ≠ .reporting ∧ s.portB.rx.state = .hunting) :
    HeadOrder .load (order .load ([kind, i] ++ c)) (loading kind i c s) := ordered_head _ _ _ h hr hb

/-- A standard entry of 10,000 ticks. -/
def standardBytes : List Byte := [0x10, 0x27, 8, 5, 0]

/-- A drum profile whose duties both clamp to 512. -/
def drumBytes : List Byte := [2, 9, 16, 0x58, 2, 0xE8, 3, 8, 150, 50, 16, 125, 0, 244, 1, 40, 6, 32, 144, 1]

/-- The default scan profile. -/
def scanBytes : List Byte :=
  [0, 1, 0, 31, 16, 31, 240, 31, 180, 0, 30, 4, 144, 1, 150, 0, 240, 0, 200, 0, 64, 156]

/-- The default line profile with a polarity and a carrier of 1,000 Hz, which is clamped. -/
def lineBytes (pol : Byte) : List Byte :=
  [15, 0, 2, pol, 255, 64, 0, 232, 3, 132, 3, 90, 0, 20, 5, 188, 2, 30, 194, 1, 188, 2, 20, 244, 1, 50]

/-- The default strobe table with a feed interval. -/
def strobeBytes (feed : List Byte) : List Byte :=
  (strobeDefault.bands.flatMap fun b => le2 b.threshold ++ le2 b.base) ++ [3] ++ feed

/-- For each kind: an index past the table or a content that fails, and one that passes, in use and not. -/
theorem witness_LoadJudged :
    (HeadOrder .load (order .load ([2, 4] ++ standardBytes)) (loading 2 4 standardBytes State.reset) ∧
      entryCount .standard ≤ 4 ∧ TableKind.ofCode 2 = some .standard) ∧
    (HeadOrder .load (order .load ([1, 0] ++ List.replicate 17 9)) (loading 1 0 (List.replicate 17 9) State.reset) ∧
      HeadOrder .load (order .load ([1, 0] ++ List.replicate 17 9))
        (loading 1 0 (List.replicate 17 9) (sending.setPort .a portReset)) ∧
      attemptInProgress (loading 1 0 (List.replicate 17 9) sending) = true) ∧
    (standardOk { w := 10000, pitch := 8, dff := 5 } ∧ ¬ standardOk { w := 9999, pitch := 8, dff := 5 } ∧
      standardNumber sending = 0 ∧ standardNumber State.reset = 0 ∧ (spun .locked).drum.state = .locked ∧
      demand (spun .locked) = true ∧ (standardInForce (spun .locked)).w ≠ 10000) ∧
    (HeadOrder .load (order .load ([3, 0] ++ drumBytes)) (loading 3 0 drumBytes State.reset) ∧
      drumOk (rawDrum drumBytes) = true ∧ (rawDrum drumBytes).dutyMax = 1000 ∧ (rawDrum drumBytes).dutyMin = 600 ∧
      min 1000 (2 ^ (rawDrum drumBytes).cycleExp) = 512 ∧ drumOk (rawDrum (List.replicate 20 0)) = false ∧
      (spun .locked).drum.state ≠ .stopped) ∧
    (HeadOrder .load (order .load ([4, 0] ++ scanBytes)) (loading 4 0 scanBytes State.reset) ∧
      rawScan scanBytes = scanDefault ∧ scanOk (rawScan scanBytes) = true ∧
      scanOk (rawScan (List.replicate 22 0)) = false ∧ State.reset.head.state ≠ .parked) ∧
    (HeadOrder .load (order .load ([5, 1] ++ lineBytes 1)) (loading 5 1 (lineBytes 1) State.reset) ∧
      Polarity.ofCode (byteAt (lineBytes 1) 3) = some .whiteOnBlack ∧ 1 < byteAt (lineBytes 2) 3 ∧
      lineOk (rawLine (lineBytes 1) .whiteOnBlack) = true ∧ (rawLine (lineBytes 1) .whiteOnBlack).carrierFreq = 1000 ∧
      lineOk (rawLine (List.replicate 26 0) .blackOnWhite) = false ∧ (State.reset.port .b).activity ≠ .carrying ∧
      (sending.port .a).activity = .carrying) ∧
    (HeadOrder .load (order .load ([6, 0] ++ List.replicate 33 0)) (loading 6 0 (List.replicate 33 0) State.reset) ∧
      (List.replicate 33 (0 : Byte)).map (fun b => Accept.ofCode b.toNat) = (List.replicate 33 Accept.take).map some ∧
      ((1 : Byte) :: List.replicate 32 0).map (fun b => Accept.ofCode b.toNat) =
        (Accept.busy :: List.replicate 32 .take).map some ∧
      (Accept.busy :: List.replicate 32 .take).take 3 ≠ [.take, .take, .take] ∧ 2 < (3 : Byte).toNat) ∧
    (HeadOrder .load (order .load ([7, 31, 62] ++ List.replicate 8 65 ++ [1]))
        (loading 7 31 ([62] ++ List.replicate 8 65 ++ [1]) State.reset) ∧
      (List.replicate 8 (65 : Byte)).all isText = true ∧ 62 ≤ 62 ∧
      (∀ j, j < 32 → j ≠ 31 → (State.reset.tables.roster.getD j rosterEmpty).code ≠ 62) ∧ ¬ (63 ≤ 62)) ∧
    (HeadOrder .load (order .load ([8, 11] ++ [32, 126, 128, 141])) (loading 8 11 [32, 126, 128, 141] State.reset) ∧
      (∀ b ∈ ([32, 126, 128, 141] : List Byte), (32 ≤ b.toNat ∧ b.toNat ≤ 126) ∨ (128 ≤ b.toNat ∧ b.toNat ≤ 141)) ∧
      ∀ n ∈ [31, 127, 142], ¬ ((32 ≤ n ∧ n ≤ 126) ∨ (128 ≤ n ∧ n ≤ 141))) ∧
    (HeadOrder .load (order .load ([9, 0] ++ strobeBytes [136, 19])) (loading 9 0 (strobeBytes [136, 19]) State.reset) ∧
      strobeOk (rawStrobe (strobeBytes [136, 19])) = true ∧ strobeOk (rawStrobe (strobeBytes [137, 19])) = false) :=
  ⟨⟨loading_head _ _ _ _ (by decide) rfl (by decide), by decide, by decide⟩,
    ⟨loading_head _ _ _ _ (by decide) rfl (by decide), loading_head _ _ _ _ (by decide) rfl (by decide), by decide⟩,
    by decide, ⟨loading_head _ _ _ _ (by decide) rfl (by decide), by decide⟩,
    ⟨loading_head _ _ _ _ (by decide) rfl (by decide), by decide⟩,
    ⟨loading_head _ _ _ _ (by decide) rfl (by decide), by decide⟩,
    ⟨loading_head _ _ _ _ (by decide) rfl (by decide), by decide⟩,
    ⟨loading_head _ _ _ _ (by decide) rfl (by decide), by decide⟩,
    ⟨loading_head _ _ _ _ (by decide) rfl (by decide), by decide⟩,
    ⟨loading_head _ _ _ _ (by decide) rfl (by decide), by decide⟩⟩

/-- An attempt's end with copies pending, the head PARKED and REWINDING; the home sensor with a pending profile; the stop
tone's end with the profile of its port and of the other pending. -/
theorem witness_PendingCopiesApplied :
    let tables : Tables := { tablesDefault with
      tonePending := some toneDefault, standardPending := some (3, ⟨10000, 2, 0⟩), scanPending := some scanDefault
      linePending := some (.a, lineDefault) }
    (∀ h ∈ [HeadState.parked, .rewinding],
      Links ((sending.setTables tables).setHead { State.reset.head with state := h }) ∧
        onDrumState ((sending.setTables tables).setHead { State.reset.head with state := h }) = .sending) ∧
    (∀ st ∈ [RecState.granted, .finished],
      let s := ((mounted (record st []) State.reset).setTables tables).setHead { State.reset.head with state := .rewinding }
      s.head.state = .rewinding ∧ attemptInProgress s = false ∧ s.tables.scanPending = some scanDefault ∧
        2 ≤ scanDefault.startOffset ∧ 1 ≤ scanDefault.travelLimit) ∧
    (let s := (carryingIn .stopTone State.reset).setTables tables
     s.tables.linePending = some (.a, lineDefault) ∧ s.sender.state = .stopTone ∧
       s.sender.stageTimer.isSome = true ∧ s.sender.port = some .a ∧ PortId.a ≠ .b) :=
  ⟨fun h hh => by
      simp only [List.mem_cons, List.not_mem_nil, or_false] at hh
      rcases hh with rfl | rfl <;> exact ⟨links_of (by decide), by decide⟩,
    by decide, by decide⟩

theorem witness_ClockAndLineOrders :
    HeadOrder .clock (order .clock [29, 2, 24, 23, 59, 59]) (ordered .clock [29, 2, 24, 23, 59, 59] State.reset) ∧
    readingOk (clockFields [29, 2, 24, 23, 59, 59]) = true ∧ readingOk (clockFields [29, 2, 25, 23, 59, 59]) = false ∧
    HeadOrder .lineup (order .lineup [1]) (ordered .lineup [1] State.reset) ∧
    HeadOrder .lineup (order .lineup [0]) (ordered .lineup [0] State.reset) ∧
    (ordered .lineup [1] sending).sender.state ≠ .free ∧ (ordered .lineup [1] State.reset).sender.state = .free ∧
    (ordered .lineup [1] State.reset).sender.lineupReq = none ∧ ((ordered .lineup [1] State.reset).port .b).activity = .idle ∧
    ((ordered .lineup [0] State.reset).port .a).activity ≠ .idle ∧
    HeadOrder .lineClear (order .lineClear [3]) (ordered .lineClear [3] State.reset) ∧
    clearNames [3] .b = true ∧ (∀ p, clearNames [0] p = false) :=
  ⟨ordered_head _ _ _ (by decide) rfl (by decide), by decide, by decide, ordered_head _ _ _ (by decide) rfl (by decide),
    ordered_head _ _ _ (by decide) rfl (by decide), by decide, by decide, by decide, by decide, by decide,
    ordered_head _ _ _ (by decide) rfl (by decide), by decide, fun p => by cases p <;> decide⟩

theorem witness_MechRequests :
    HeadOrder .mechClear (order .mechClear []) (ordered .mechClear [] (drumIn .cutoff)) ∧
    (let s := (drumIn .cutoff).setPins { State.reset.pins with coverClosed := false }
     s.drum.state = .cutoff ∧ s.pins.coverClosed = false) ∧
    ((drumIn .cutoff).pins.coverClosed = true ∧ demand (drumIn .cutoff) = false ∧
      (drumIn .cutoff).head.state = .fault ∧ (drumIn .cutoff).pins.homeAsserted = false ∧
      2 ≤ (drumIn .cutoff).tables.scan.travelLimit + (drumIn .cutoff).tables.scan.rewindMargin) ∧
    (sending.drum.state ≠ .cutoff ∧ sending.head.state ≠ .fault) :=
  ⟨ordered_head _ _ _ (by decide) rfl (by decide), by decide, by decide, by decide⟩

/-- A RESTART in an attempt; with none, on a drum that the SPIN latch held and on one at rest; in a line-up on the other port. -/
theorem witness_RestartClears : HeadOrder .restart (order .restart []) (sendingOrdered .restart []) ∧
    Links (sendingOrdered .restart []) ∧ attemptInProgress (sendingOrdered .restart []) = true ∧
    ((order .restart []).broadcast = true → (order .restart []).reserved = false) ∧
    (∀ d ∈ [DrumState.locked, .stopped],
      let s := ordered .restart [] (State.reset.setDrum { (spun d).drum with spinLatch := decide (d = .locked) })
      attemptInProgress s = false ∧ s.sender.state.inLineup = false ∧ onDrumState s ≠ .granted ∧
        (s.drum.spinLatch = true ↔ d = .locked) ∧
        demand { s with drum := { s.drum with spinLatch := false } } = false) ∧
    (let s := ordered .restart [] ((State.reset.setPort .b { portReset with activity := .carrying }).setSender
        { State.reset.sender with state := .lineupWhite, port := some .b, stageTimer := some 1 })
     HeadOrder .restart (order .restart []) s ∧ s.sender.state.inLineup = true ∧ s.sender.port = some .b ∧
       (s.port .b).activity = .carrying ∧ s.tables.linePending = none ∧ onDrumState s ≠ .granted ∧
       (order .restart []).port ≠ .b ∧ attemptInProgress s = false) :=
  ⟨ordered_head _ _ _ (by decide) rfl (by decide), links_of (by decide), by decide, by decide, by decide,
    ordered_head _ _ _ (by decide) rfl (by decide), by decide⟩

theorem witness_ReprintsRequested :
    (let s := ordered .slip [7, 0] (mounted (record .finished []) State.reset)
     HeadOrder .slip (order .slip [7, 0]) s ∧ slotOfNumber s 7 = some 0 ∧ s.slips.queue.length < 8 ∧
       (⟨0, .reprint⟩ : SlipReq) ∉ waitingRequests s.slips) ∧
    slotOfNumber (ordered .slip [7, 0] State.reset) 7 = none ∧
    (record .granted []).state ≠ .finished ∧
    (let u := { State.reset.slips with queue := List.replicate 8 ⟨1, .final⟩ }
     8 ≤ u.queue.length ∧ (⟨0, .reprint⟩ : SlipReq) ∉ waitingRequests u) ∧
    (let u := { State.reset.slips with queue := [⟨1, .final⟩, ⟨0, .reprint⟩], started := true }
     (⟨0, .reprint⟩ : SlipReq) ∈ waitingRequests u) ∧
    (let s := mounted (record .finished []) State.reset
     s.pics.onDrum = some 0 ∧ s.slips.queue = [] ∧ s.slips.started = false ∧ s.slips.printer = .idle) :=
  ⟨⟨ordered_head _ _ _ (by decide) rfl (by decide), by decide⟩, by decide, by decide, by decide, by decide, by decide⟩

/-! The slip unit. -/

/-- The last strobe, the first feed, dot lines 22, 23 and 30 of a row, the last line of the final feed, and that of a full
queue behind which slot 3 owes both its slips. -/
theorem witness_SlipPrints :
    (let s := (printing .strobing (.row 0 0)).setSlips { (printing .strobing (.row 0 0)).slips with strobes := [100, 200] }
     s.slips.phase = .strobing ∧ s.slips.strobes = [100, 200]) ∧
    (printing .feedFirst (.row 0 0)).slips.phase = .feedFirst ∧
    ((printing .feedSecond (.row 0 22)).slips.pos = .row 0 22 ∧ (printing .feedSecond (.row 0 22)).conv.current = none ∧
      (printing .feedSecond (.row 0 22)).slips.thermOut = false) ∧
    (printing .feedSecond (.row 0 23)).slips.pos = .row 0 23 ∧ (printing .feedSecond (.row 0 30)).slips.pos = .row 0 30 ∧
    ((printing .feedSecond (.feed 79)).slips.queue = [⟨0, .final⟩] ∧
      (printing .feedSecond (.feed 79)).rec? 0 = some (record .finished []) ∧
      ∀ o ∈ (printing .feedSecond (.feed 79)).slips.owed, o = ⟨false, false⟩) ∧
    (let s := (printing .feedSecond (.feed 79)).setSlips { (printing .feedSecond (.feed 79)).slips with
        queue := ⟨0, .final⟩ :: ⟨1, .final⟩ :: List.replicate 6 ⟨2, .late⟩
        owed := (List.replicate 8 ⟨false, false⟩).set 3 ⟨true, true⟩ }
     let s := s.setPics { s.pics with finishOrder := [1] ++ 3 :: [0] }
     (∀ i ∈ [1], s.slips.owed[i]? = some ⟨false, false⟩) ∧ s.slips.owed[3]? = some ⟨true, true⟩ ∧
       s.pics.finishOrder = [1] ++ 3 :: [0]) := by decide

/-- The values a slip's contents depend on: an empty line, one with a receipt list and one without, the record's parts, the
values that are not set or past their range. -/
theorem witness_SlipContents : ([] : List Byte) ∈ State.reset.tables.template ∧
    (139 : Byte) ∈ ([139] : List Byte) ∧ (139 : Byte) ∉ ([65] : List Byte) ∧ (record .finished [attempt0]).receipts = [] ∧
    (record .finished [attempt0]).prints + 1 ≤ 9 ∧ { record .finished [] with prints := 9 }.prints + 1 = 10 ∧
    { record .finished [] with prints := 255 }.prints + 1 = 256 ∧ (127 : Byte).toNat < 128 ∧ 128 ≤ (128 : Byte).toNat ∧
    (record .finished [attempt0]).number = some 7 ∧ (record .finished [attempt0]).mount = some ⟨1, [65], 100⟩ ∧
    [(65 : Byte)].length ≤ 16 ∧ [attempt0].getLast? = some attempt0 ∧ attempt0.duration ≤ 59999 ∧
    State.reset.station.mute = false ∧ (record .finished []).attempts = [] ∧
    (let e : RosterEntry := { code := 62, name := List.replicate 8 65, required := true }
     [e] = [] ++ e :: [] ∧ e.code = 62) ∧ (∀ e ∈ State.reset.tables.roster, e.code ≠ 1) ∧
    State.reset.clock.isSet = false ∧ 59999 < { attempt0 with duration := 60000 }.duration ∧
    (record .finished []).grant = some grant0 ∧
    (let f : Final := ⟨.failed, .drum, none⟩
     { record .finished [] with final := some f }.final = some f ∧ (f.outcome = .failed → f.cause ≠ .none)) ∧
    ({ code := 0, mute := true } : Station).mute = true := by decide

/-- A reading one above band 7's threshold, one above the resume level, and a stale one; a reading at band 7's threshold and
at the resume level; a band and a space. -/
theorem witness_BandsAndHotHead :
    (let s := (printing .reading (.row 0 0)).setConv { current := some .thermistor, photoWaiting := [], thermWaiting := false }
     s.conv.current = some .thermistor ∧ s.slips.phase = .reading ∧ s.slips.thermDiscard = false ∧
       s.slips.printer = .printing ∧ topThreshold s.tables.strobe < 3601 ∧ s.slips.pos = .row 0 0 ∧
       s.slips.image[0]? = some ⟨[65], false⟩ ∧ 3600 ≤ topThreshold s.tables.strobe) ∧
    (let s := (printing .reading (.row 0 0)).setSlips
        { (printing .reading (.row 0 0)).slips with printer := .headHot, coolTimer := some 0 }
     s.slips.printer = .headHot ∧ topThreshold s.tables.strobe - 64 < 3537 ∧ s.slips.coolTimer.isSome = true ∧
       s.slips.thermOut = false ∧ s.conv.current = none ∧ 3536 ≤ topThreshold s.tables.strobe - 64) ∧
    (let u := { State.reset.slips with printer := .paperOut, thermOut := true, thermDiscard := true }
     u.printer = .paperOut ∧ u.thermDiscard = true) ∧
    (strobeDefault.bands[7]? = some ⟨3600, 900⟩ ∧
      ∀ j < 7, (strobeDefault.bands.getD j ⟨0, 0⟩).threshold < 3600) ∧
    ((([32] : List Byte).getD (0 / 12) 32).toNat = 32 ∧ 0 / 12 < ([32] : List Byte).length) := by decide

/-- Paper gone and back; the paper timer's end with nothing started, with a slip whose reading is out and with one whose
reading is not; the stale reading's return. -/
theorem witness_PaperHandled : State.reset.slips.printer ≠ .paperOut ∧
    (let u := { State.reset.slips with printer := .paperOut }
     u.printer = .paperOut ∧ u.paperTimer = none) ∧
    (let u := { State.reset.slips with printer := .paperOut, paperTimer := some 0 }
     u.paperTimer.isSome = true ∧ u.started = false ∧ u.queue = []) ∧
    (let u := { (printing .idle (.row 0 5)).slips with printer := .paperOut, paperTimer := some 0 }
     u.paperTimer.isSome = true ∧ u.started = true ∧ u.image ≠ [] ∧ u.thermOut = false ∧
       { u with thermOut := true }.thermOut = true ∧ State.reset.conv.current = none) ∧
    (let u := { (printing .reading (.row 0 0)).slips with thermOut := true, thermDiscard := true }
     u.thermDiscard = true ∧ u.phase = .reading ∧ u.printer = .printing) := by decide

/-! The panel, the clock, the idle step. -/

theorem witness_SpinAndStopKeys : (drumIn .cutoff).drum.state = .cutoff ∧
    (State.reset.drum.state = .stopped ∧ demand State.reset = false ∧ State.reset.pins.coverClosed = true ∧
      State.reset.tables.drumPending = none) ∧
    ((spun .locked).drum.state ≠ .cutoff ∧ demand (spun .locked) = true) ∧ attemptInProgress sending = true ∧
    onDrumState (mounted (record .awaiting [attempt0]) (spun .locked)) = .awaiting ∧
    ((spun .locked).drum.state = .locked ∧ (spun .locked).drum.spinLatch = true ∧
      onDrumState (spun .locked) = .empty) := by decide

/-- A slug of 16 bytes with 4,000 lines; then each check failing, an edit, a creation in slot 0, and one in slot 3, reclaimed
behind a slot that is on drum. -/
theorem witness_PanelLoadJudged : (List.replicate 16 (126 : Byte)).all isText = true ∧ (4000#16).toNat ≤ 4000 ∧
    ¬ ((4001#16).toNat ≤ 4000) ∧ (spun .locked).drum.state ≠ .stopped ∧
    onDrumState (mounted (record .granted []) State.reset) = .granted ∧
    (let s := State.reset.setTables { tablesDefault with scan := { scanDefault with stepsPerLine := 32 } }
     ¬ (s.tables.scan.startOffset + 1243 * s.tables.scan.stepsPerLine ≤ s.tables.scan.travelLimit)) ∧
    (let s := State.reset.setPics { State.reset.pics with records := List.replicate 8 (record .finished []) }
     slotForNew s = none ∧ s.drum.state = .stopped) ∧
    (loaded.pics.onDrum = some 0 ∧ loaded.rec? 0 = some { recEmpty with state := .loaded, mount := some ⟨1, [65], 100⟩ }) ∧
    (State.reset.rec? 0 = some recEmpty ∧ recEmpty.state = .empty ∧ 0 ∉ State.reset.pics.finishOrder ∧
      onDrumState State.reset ≠ .loaded ∧
      State.reset.tables.scan.startOffset + 4000 * State.reset.tables.scan.stepsPerLine ≤
        State.reset.tables.scan.travelLimit) ∧
    (let old := { record .finished [] with slip := .printed }
     let s := State.reset.setPics { State.reset.pics with
       records := List.replicate 8 old, onDrum := some 1, finishOrder := [1] ++ 3 :: [0, 2] }
     onDrumState s ≠ .loaded ∧ (∀ q ∈ s.pics.records, q.state ≠ .empty) ∧ s.rec? 3 = some old ∧ old.slip = .printed ∧
       s.pics.onDrum ≠ some 3 ∧ 3 ∉ [1] ++ [0, 2] ∧ ∀ j ∈ [1], s.pics.onDrum = some j) := by decide

theorem witness_PanelRecordsTaken : State.reset.panel.inRecord = false ∧ 1 ≤ ([65] : List Byte).length := by decide

/-- The bytes at the edges of each check; the transmitter with a notice and without; a drum in CUTOFF, a head in FAULT, a record
on drum, an attempt. -/
theorem witness_PanelLinkKept : State.reset.panel.inRecord = false ∧ (0x10 : Byte).toNat < 0x11 ∧
    0x16 < (0x17 : Byte).toNat ∧ (2 : Byte).toNat < 3 ∧ 18 < (19 : Byte).toNat ∧ (0x12 : Byte).toNat = 0x12 ∧
    (0x16 : Byte).toNat = 0x16 ∧ (1 : Byte) ≠ 0 ∧ (2 : Byte) ≠ 0x03 ∧
    (State.reset.setPanel { State.reset.panel with inRecord := true }).panel.inRecord = true ∧
    (State.reset.setPanel { State.reset.panel with notice := some (.spin, .drumCutoff) }).panel.notice =
      some (.spin, .drumCutoff) ∧
    (State.reset.panel.notice = none ∧ State.reset.panel.changed = true) ∧
    (State.reset.setPanel { State.reset.panel with changed := false }).panel.changed = false ∧
    (drumIn .cutoff).drum.state = .cutoff ∧ (State.reset.drum.state ≠ .cutoff ∧ State.reset.head.state = .fault) ∧
    (sending.drum.state ≠ .cutoff ∧ sending.head.state ≠ .fault ∧ onDrumState sending = .sending ∧
      onDrumRec sending = some (record .sending [attempt0])) ∧
    onDrumRec (State.reset.setHead { State.reset.head with state := .parked }) = none := by decide

/-- New Year's Eve at the last second of year 99. -/
theorem witness_ClockCarries : ClockOk
    { day := 31, month := 12, year := 99, hour := 23, minute := 59, second := 59, sub := 0, isSet := true } :=
  ⟨by decide, by decide, by decide, by decide, by decide, by decide⟩

/-- The state right after power-on once its first STATE record has gone, at a cycle count and a sub-second count. -/
def quiet (cycle sub : Nat) : State :=
  ((State.reset.setPanel { State.reset.panel with changed := false }).setDrum
    { State.reset.drum with cycleCount := cycle }).setClock { State.reset.clock with sub := sub }

/-- An order at the head of the queue; a tick with nothing due, that ends neither a cycle nor a second at the counts 1,007 and
999,998, and both at 1,008 and 999,999. -/
theorem witness_IdleStep :
    (let s := State.reset.setOrders [order .poll []]
     s.pending = [] ∧ s.orders.head? = some (order .poll []) ∧
       ∀ p, (s.port p).activity ≠ .reporting ∧ (s.port p).rx.state = .hunting) ∧
    ((quiet 1007 999998).pending = [] ∧ (quiet 1007 999998).orders = [] ∧ NoneDue (quiet 1007 999998) ∧
      (quiet 1007 999998).panel.notice = none ∧ (quiet 1007 999998).panel.changed = false ∧
      (quiet 1007 999998).drum.cycleCount + 16 < (quiet 1007 999998).drum.cycleLen ∧
      (quiet 1007 999998).clock.sub + 1 < 1000000) ∧
    ((quiet 1008 999999).drum.cycleLen ≤ (quiet 1008 999999).drum.cycleCount + 16 ∧
      1000000 ≤ (quiet 1008 999999).clock.sub + 1) :=
  ⟨⟨by decide, by decide, fun p => by cases p <;> decide⟩,
    ⟨rfl, rfl,
      { stall := by decide
        drum := by decide
        optics := by decide
        lines := fun p => by cases p <;> decide
        turn := fun p => by cases p <;> decide
        slips := by decide
        cadence := by decide }, by decide⟩, by decide⟩

end Sys2Proof.Tests
end

/-! ## Drum and drive: the effects of the commands and the invariants of a step -/

namespace Sys2Proof.Machine

/-! ### A command's effect, and induction over a step -/

/-- The state a command leads to. -/
def effect (c : Instr) (s : State) : State :=
  match exec c s with
  | .next t => t
  | .fault _ => s
  | .refused _ => s

/-- Every command completes, with its effect (log 30). -/
theorem exec_effect (c : Instr) (s : State) : exec c s = .next (effect c s) := by cases c <;> rfl

theorem exec_next_iff {c : Instr} {s t : State} : exec c s = .next t ↔ effect c s = t := by
  rw [exec_effect]
  exact ⟨fun h => Host.Outcome.next.inj h, fun h => h ▸ rfl⟩

theorem takeDue_eq (due : State → Option Instr) (s : State) :
    takeDue due s = match due s with
      | none => s
      | some i => effect i s := by
  unfold takeDue
  cases due s with
  | none => rfl
  | some i => simp only [exec_effect]

/-- A predicate that every command and the counting of a tick keep is kept by a tick with all that comes due in it. -/
theorem tick_keeps {P : State → Prop} (he : ∀ c s, P s → P (effect c s)) (hp : ∀ s, P s → P (panelTransmit s))
    (hc : ∀ s, P s → P (countTick s)) {s : State} (h : P s) : P (tick s) := by
  have fold : ∀ (l : List (State → Option Instr)) (u : State), P u → P (l.foldl (fun s due => takeDue due s) u) := by
    intro l
    induction l with
    | nil => exact fun _ hu => hu
    | cons due rest ih =>
      intro u hu
      refine ih _ ?_
      show P (takeDue due u)
      rw [takeDue_eq]
      split
      · exact hu
      · exact he _ _ hu
  exact fold _ _ (hc _ (hp _ h))

/-- A predicate that every command, the counting of a tick and a change of the queue of waiting commands keep is kept by
every step (log 1, log 2). -/
theorem step_keeps {P : State → Prop} (hq : ∀ s q, P s → P { s with pending := q })
    (he : ∀ c s, P s → P (effect c s)) (hp : ∀ s, P s → P (panelTransmit s)) (hc : ∀ s, P s → P (countTick s))
    {s t : State} (h : P s) (hs : step s = .next t) : P t := by
  unfold step idle at hs
  split at hs
  · exact exec_next_iff.1 hs ▸ he _ _ (hq _ _ h)
  · split at hs
    · exact exec_next_iff.1 hs ▸ he _ _ h
    · exact Host.Outcome.next.inj hs ▸ tick_keeps he hp hc h

/-! ### Ranges (O3) -/

theorem pending_ranges {s : State} (q : List Instr) (h : Ranges s) : Ranges { s with pending := q } := { h with }

/-- The state right after power-on lies in the ranges. -/
theorem reset_ranges : Ranges State.reset where
  enc := ⟨by decide, by decide, by decide⟩
  drum := ⟨by decide, by decide, by decide⟩
  reg := ⟨by decide, by decide, by decide, by decide⟩
  scan := ⟨by decide, by decide⟩
  owed := by decide
  store := ⟨by decide, by decide, by decide, by decide, by decide, by decide⟩
  portA := ⟨by decide, by decide, by decide⟩
  portB := ⟨by decide, by decide, by decide⟩
  linesSent := by decide
  orders := by decide
  tables :=
    { standards := by decide
      standardPending := fun _ _ h => nomatch h
      drum := ⟨by decide, by decide, by decide⟩
      drumPending := fun _ h => nomatch h
      scan := by decide
      scanPending := fun _ h => nomatch h
      lineA := ⟨by decide, by decide, by decide, by decide⟩
      lineB := ⟨by decide, by decide, by decide, by decide⟩
      linePending := fun _ _ h => nomatch h
      accept := by decide
      standardCount := by decide
      rosterCount := by decide
      templateCount := by decide
      acceptCount := by decide
      tone := by decide
      tonePending := fun _ h => nomatch h
      roster := by decide
      template := by decide
      strobe := ⟨by decide, by decide, by decide⟩
      neverPending := by decide
      counts := by decide }
  slots := by decide
  records := fun r hr => List.eq_of_mem_replicate hr ▸ recEmpty_ok
  serial := by decide
  slips := ⟨by decide, by decide, by decide, by decide, by decide⟩
  clock := ⟨by decide, by decide, by decide, by decide, by decide, by decide⟩

theorem powerOn_ranges (cover paper : Bool) (straps : BitVec 7) (s : State) : Ranges (powerOn cover paper straps s) := by
  unfold powerOn
  refine panelTransmit_ranges (pending_ranges s.pending ?_)
  refine setStation_ranges _ (setPort_ranges _ _ (fun _ => ⟨Nat.zero_le _, Nat.zero_le _, Nat.zero_le _⟩)
    (setPort_ranges _ _ (fun _ => ⟨Nat.zero_le _, Nat.zero_le _, Nat.zero_le _⟩)
      (setSlips_ranges _ (fun h => { h.slips with }) (setPins_ranges _ reset_ranges))))

theorem countTick_ranges {s : State} (h : Ranges s) : Ranges (countTick s) :=
  { h with
    drum := ⟨h.drum.1, h.drum.2, h.drum.3⟩
    portA := ⟨h.portA.1, h.portA.2, h.portA.3⟩
    portB := ⟨h.portB.1, h.portB.2, h.portB.3⟩
    slips := { h.slips with }
    clock := { h.clock with } }

theorem keyPressed_ranges {key : State → State} (hk : ∀ u, Ranges u → Ranges (key u)) {s : State} (h : Ranges s) :
    Ranges (event (fun s => key (panelHunting s)) s) :=
  event_ranges (fun _ hu => hk _ (panelHunting_ranges hu)) h

/-- Every command keeps the ranges. -/
theorem effect_ranges (c : Instr) (s : State) (h : Ranges s) : Ranges (effect c s) := by
  cases c with
  | powerOn cover paper straps => exact powerOn_ranges cover paper straps s
  | encoderCount dir => exact event_ranges (fun _ => encoderCount_ranges dir) h
  | indexPulse => exact event_ranges (fun _ => indexPulse_ranges) h
  | rampTick => exact rampTick_ranges h
  | spinupTimerExpiry => exact event_ranges (fun _ => spinupTimerExpiry_ranges) h
  | stallDeadline => exact event_ranges (fun _ => stallDeadline_ranges) h
  | brakingTimerExpiry => exact event_ranges (fun _ => brakingTimerExpiry_ranges) h
  | windowSilenceTimerExpiry => exact event_ranges (fun _ => silenceTimerExpiry_ranges) h
  | cycleEnd => exact cycleEnd_ranges h
  | coverChange closed => exact event_ranges (fun _ => coverChange_ranges closed) h
  | conversionComplete reading => exact event_ranges (fun _ => conversionComplete_ranges _ (Nat.le_of_lt_succ reading.isLt)) h
  | lampWarmTimerExpiry => exact event_ranges (fun _ => lampWarm_ranges) h
  | stepTimerExpiry => exact event_ranges (fun _ => stepTimerExpiry_ranges) h
  | homeSensorAssert level => exact event_ranges (fun _ => homeSensor_ranges level) h
  | cadenceEvent => exact event_ranges (fun _ => cadenceEvent_ranges) h
  | attemptStart => exact event_ranges (fun _ => attemptStart_ranges) h
  | startToneTimerExpiry => exact startToneExpiry_ranges h
  | stopToneTimerExpiry => exact event_ranges (fun _ => stopToneExpiry_ranges) h
  | lineupStart => exact lineupStart_ranges h
  | lineupWhiteTimerExpiry => exact lineupWhiteExpiry_ranges h
  | lineupBlackTimerExpiry => exact event_ranges (fun _ => lineupBlackExpiry_ranges) h
  | loopCurrentLost p => exact loopCurrentLost_ranges p h
  | loopCurrentReturn p => exact loopCurrentReturn_ranges p h
  | loopLossTimerExpiry p => exact event_ranges (fun _ => loopLossExpiry_ranges p) h
  | breakTonePresent p => exact breakTonePresent_ranges p h
  | breakToneAbsent p => exact breakToneAbsent_ranges p h
  | breakTimerExpiry p => exact event_ranges (fun _ => breakExpiry_ranges p) h
  | receptionStart p marks => exact receptionStart_ranges p marks h
  | syncFailed p => exact syncFailed_ranges p h
  | blockError p err => exact blockError_ranges p h
  | gapTimerExpiry p => exact blockError_ranges p h
  | blockTake p bytes => exact event_ranges (fun _ => blockTake_ranges p bytes) h
  | turnaroundTimerExpiry p => exact turnaroundExpiry_ranges p h
  | echoFailure heard => exact event_ranges (fun _ => echoFailure_ranges _ _) h
  | reportEnd heard => exact event_ranges (fun _ => reportEnd_ranges _ _) h
  | poll => exact executeHead_ranges (fun o _ _ => ownPoll_ranges o) h
  | grant => exact event_ranges (fun _ => executeHead_ranges fun o _ _ => ownGrant_ranges o) h
  | cancel => exact event_ranges (fun _ => executeHead_ranges fun o _ _ => ownCancel_ranges o) h
  | receipt => exact event_ranges (fun _ => executeHead_ranges fun o _ _ => ownReceipt_ranges o) h
  | load => exact event_ranges (fun _ => executeHead_ranges fun o _ hl => ownLoad_ranges o hl) h
  | clock => exact shown_ranges (fun _ => executeHead_ranges fun o _ _ => ownClock_ranges o) h
  | lineup => exact event_ranges (fun _ => executeHead_ranges fun o _ _ => ownLineup_ranges o) h
  | lineClear => exact event_ranges (fun _ => executeHead_ranges fun o _ _ => ownLineClear_ranges o) h
  | mechClear => exact event_ranges (fun _ => executeHead_ranges fun o _ _ => ownMechClear_ranges o) h
  | restart => exact event_ranges (fun _ => executeHead_ranges fun o _ _ => ownRestart_ranges o) h
  | slip => exact executeHead_ranges (fun o _ _ => ownSlip_ranges o) h
  | receiptTimerExpiry => exact event_ranges (fun _ => receiptExpiry_ranges) h
  | strobeEnd => exact strobeEnd_ranges h
  | feedIntervalExpiry => exact shown_ranges (fun _ => feedIntervalExpiry_ranges) h
  | coolTimerExpiry => exact coolTimerExpiry_ranges h
  | paperSensorChange present => exact shown_ranges (fun _ => paperSensorChange_ranges present) h
  | paperTimerExpiry => exact shown_ranges (fun _ => paperTimerExpiry_ranges) h
  | panelLoad lines slug => exact event_ranges (fun _ => panelLoad_ranges _ _) h
  | spin => exact keyPressed_ranges (fun _ => spinKey_ranges) h
  | stop => exact keyPressed_ranges (fun _ => stopKey_ranges) h
  | abort => exact keyPressed_ranges (fun _ => abortKey_ranges) h
  | reprint => exact keyPressed_ranges (fun _ => reprintKey_ranges) h
  | resetMech => exact keyPressed_ranges (fun _ => resetMechKey_ranges) h
  | panelRecordMalformed bytes => exact panelFeed_ranges bytes h
  | panelGapTimerExpiry => exact panelGap_ranges h
  | panelRecordSent => exact panelRecordSent_ranges h
  | clockSecond => exact clockSecond_ranges h

/-- Settles O3: each command and the counting of a tick keep the ranges. -/
theorem stepKeepsRanges : Obligations.StepKeepsRanges := fun _ _ h hs =>
  step_keeps (fun _ q => pending_ranges q) effect_ranges (fun _ => panelTransmit_ranges) (fun _ => countTick_ranges) h hs

end Sys2Proof.Machine

/-! ## The footing of a step (O5) -/

namespace Sys2Proof.Machine

/-- A LINE profile for port A with one phasing revolution: the content of a LOAD (R130). -/
def onePhaseLoad : List Byte :=
  [5, 0, 1, 0, 2, 0, 255, 64, 0, 152, 8, 132, 3, 90, 0, 20, 5, 188, 2, 30, 194, 1, 188, 2, 20, 244, 1, 50]

/-- An attempt whose sender names no port and whose record holds no attempt, in the last of its 15 phasing revolutions, with
a LOAD of a LINE profile for port A at the head of the order queue. -/
def unattached : State :=
  { State.reset with
    pics := { State.reset.pics with
      records := { recEmpty with state := .sending } :: List.replicate 7 recEmpty, onDrum := some 0 }
    sender := { State.reset.sender with state := .phasing }
    scan := { State.reset.scan with state := .running, rev := 15, k := 1 }
    orders := [{ port := .a, broadcast := true, kind := .load, tag := 0, payload := onePhaseLoad, reserved := false }] }

theorem unattached_ranges : Ranges unattached :=
  { reset_ranges with
    scan := ⟨by decide, by decide⟩
    linesSent := by decide
    orders := by decide
    slots := by decide
    records := fun r hr => by
      rcases List.mem_cons.1 hr with rfl | hr
      · exact { recEmpty_ok with granted := fun h => nomatch h }
      · exact List.eq_of_mem_replicate hr ▸ recEmpty_ok
    serial := by decide }

theorem unattached_links : Links unattached where
  portA := ⟨by decide, by decide, by decide⟩
  portB := ⟨by decide, by decide, by decide⟩
  carries := fun p => by cases p <;> decide
  attempt := by decide
  scanner := by decide
  head := by decide
  cadence := by decide
  law := fun _ => rfl
  flushed := by decide

theorem unattached_footing : Footing unattached where
  captures := by decide
  duties := by decide
  counters := by decide
  unlocked := by decide
  revolution := by decide
  sample := by decide
  entries := by decide
  travel := by decide
  attached := by decide
  request := by decide

/-- The LOAD takes effect at once, for no port is CARRYING, and the running scanner stands beyond its run. -/
theorem unattached_overrun :
    (effect .load unattached).scan.state = .running ∧
      ¬ (effect .load unattached).scan.rev ≤
        (carryingLine (effect .load unattached)).nPhase +
          onDrumLines (effect .load unattached) := by
  decide

/-- Refutes O5: neither `Links` nor `Footing` asks that the sender of an attempt be attached to a port. With none, the rules
read port A's LINE profile for the run while no port holds that profile in use (R124), so that a LOAD replaces it under the
running scanner and leaves the revolution beyond the last one of the run. -/
theorem not_stepKeepsFooting : ¬ Obligations.StepKeepsFooting := by
  intro h
  have after : Footing (effect .load unattached) :=
    h unattached _ unattached_ranges unattached_links unattached_footing
      (show exec .load unattached = _ from exec_effect _ _)
  exact unattached_overrun.2 (after.revolution unattached_overrun.1).2

end Sys2Proof.Machine

/-! ## Events: the panel's share and the evaluations at the end, stage by stage -/

namespace Sys2Proof.Machine

/-! ### The panel's share of an event (R172) -/

@[simp] theorem State.setPanel_setPanel (s : State) (x y : Panel) : (s.setPanel x).setPanel y = s.setPanel y := rfl

theorem panelTransmit_eq (s : State) : ∃ x, panelTransmit s = s.setPanel x := by
  unfold panelTransmit
  split
  · exact ⟨s.panel, rfl⟩
  · split
    · exact ⟨_, rfl⟩
    · split
      · exact ⟨_, rfl⟩
      · exact ⟨s.panel, rfl⟩

theorem markChanged_eq (old : PanelOut) (s : State) : ∃ x, markChanged old s = s.setPanel x := by
  unfold markChanged
  split
  · exact ⟨s.panel, rfl⟩
  · exact ⟨_, rfl⟩

/-- A shown event is the event on a state that differs in the panel, with another panel after it. -/
theorem shown_eq (f : State → State) (s : State) : ∃ x y, shown f s = (f (s.setPanel x)).setPanel y := by
  obtain ⟨x, hx⟩ := panelTransmit_eq s
  obtain ⟨z, hz⟩ := markChanged_eq (stateRecord (s.setPanel x)) (f (s.setPanel x))
  obtain ⟨y, hy⟩ := panelTransmit_eq ((f (s.setPanel x)).setPanel z)
  refine ⟨x, y, ?_⟩
  unfold shown
  dsimp only
  rw [hx, hz, hy, State.setPanel_setPanel]

/-- An event is its operation with the evaluations at its end, between two changes of the panel. -/
theorem event_eq (f : State → State) (s : State) :
    ∃ x y, event f s = (settle (s.setPanel x) (f (s.setPanel x))).setPanel y :=
  shown_eq (fun u => settle u (f u)) s

/-- A command that is an event ends in a state of the kind `P`, when its operation with the evaluations does, whatever the
panel holds before and after. -/
theorem event_next {c : Instr} {f : State → State} {s : State} {P : State → Prop} (hc : exec c s = .next (event f s))
    (h : ∀ x y, P ((settle (s.setPanel x) (f (s.setPanel x))).setPanel y)) : ∃ t, exec c s = .next t ∧ P t := by
  obtain ⟨x, y, e⟩ := event_eq f s
  exact ⟨_, hc, e ▸ h x y⟩

/-- The same, with the state `u` that the operation and the evaluations come to. -/
theorem event_to {c : Instr} {f : State → State} {s : State} {u : Panel → State} {P : State → Prop}
    (hc : exec c s = .next (event f s)) (hu : ∀ x, settle (s.setPanel x) (f (s.setPanel x)) = u x)
    (h : ∀ x y, P ((u x).setPanel y)) : ∃ t, exec c s = .next t ∧ P t :=
  event_next hc fun x y => hu x ▸ h x y

/-- The frame of an event from that of its operation with the evaluations. -/
theorem Only.panels {ps : List Part} {s t : State} (x y : Panel) (hp : Part.panel ∈ ps) (h : Only ps (s.setPanel x) t) :
    Only ps s (t.setPanel y) :=
  setPanel_only y hp ((setPanel_only x hp (Only.refl ps s)).trans h)

/-! ### What the evaluations read -/

@[simp] theorem onDrumState_setEnc (s : State) (x : Encoder) : onDrumState (s.setEnc x) = onDrumState s := rfl
@[simp] theorem onDrumState_setDrum (s : State) (x : Drum) : onDrumState (s.setDrum x) = onDrumState s := rfl
@[simp] theorem onDrumState_setReg (s : State) (x : Regulator) : onDrumState (s.setReg x) = onDrumState s := rfl
@[simp] theorem onDrumState_setScan (s : State) (x : Scanner) : onDrumState (s.setScan x) = onDrumState s := rfl
@[simp] theorem onDrumState_setLamp (s : State) (x : Lamp) : onDrumState (s.setLamp x) = onDrumState s := rfl
@[simp] theorem onDrumState_setHead (s : State) (x : Head) : onDrumState (s.setHead x) = onDrumState s := rfl
@[simp] theorem onDrumState_setSender (s : State) (x : Sender) : onDrumState (s.setSender x) = onDrumState s := rfl
@[simp] theorem onDrumState_setTables (s : State) (x : Tables) : onDrumState (s.setTables x) = onDrumState s := rfl
@[simp] theorem onDrumState_setPanel (s : State) (x : Panel) : onDrumState (s.setPanel x) = onDrumState s := rfl
@[simp] theorem onDrumState_setPins (s : State) (x : Pins) : onDrumState (s.setPins x) = onDrumState s := rfl

theorem demand_congr {s t : State} (hl : t.drum.spinLatch = s.drum.spinLatch) (ho : onDrumState t = onDrumState s) :
    demand t = demand s := by
  simp only [demand, hl, ho]

theorem lampDemand_congr {s t : State} (ho : onDrumState t = onDrumState s) (hs : t.scan = s.scan)
    (hd : t.drum.state = .cutoff ↔ s.drum.state = .cutoff) (hh : t.head.state = .fault ↔ s.head.state = .fault) :
    lampDemand t = lampDemand s := by
  simp only [lampDemand, ho, hs, ne_eq, hd, hh]

theorem standardKey_congr {s t : State} (hp : t.pics = s.pics) (ht : t.tables.standards = s.tables.standards) :
    standardKey t = standardKey s := by
  simp only [standardKey, standardInForce, standardAt, standardNumber_congr hp, ht]

theorem chosenPort_congr {s t : State} (hp : t.pics = s.pics) (hf : ∀ p, (t.port p).inFault = (s.port p).inFault) :
    chosenPort t = chosenPort s := by
  simp only [chosenPort, onDrumGrant, onDrumRec_congr hp, hf]

theorem lineupReady_congr {s t : State} (hs : t.sender = s.sender) (hi : ∀ p, (t.port p).isIdle = (s.port p).isIdle) :
    lineupReady t = lineupReady s := by
  simp only [lineupReady, hs, hi]

/-! ### Each evaluation: when it changes nothing -/

theorem lapseEval_eq {s0 s : State} (h : ∀ p, (s.port p).inFault = (s0.port p).inFault) : lapseEval s0 s = s := by
  unfold lapseEval
  split
  · rename_i p _
    rw [h p]
    exact if_neg fun hf => absurd (hf.1.symm.trans hf.2) (by decide)
  · rfl

theorem portFailEval_eq {s0 s : State} (h : noPortLeft s = true → noPortLeft s0 = true) : portFailEval s0 s = s := by
  unfold portFailEval
  split
  · exact if_neg fun hf => absurd ((h hf.1).symm.trans hf.2) (by decide)
  · rfl

theorem noPortLeft_of_not_granted {s : State} (h : onDrumState s ≠ .granted) : noPortLeft s = false := by
  simp [noPortLeft, h]

theorem standardEval_eq {s0 s : State} (h : standardKey s0 = standardKey s ∨ (s.drum.state ≠ .tracking ∧ s.drum.state ≠ .locked)) :
    standardEval s0 s = s := by
  unfold standardEval
  refine if_neg fun hf => ?_
  rcases h with h | h
  · exact hf.1 h
  · exact hf.2.elim h.1 h.2

theorem evaluateDemand_cutoff {s : State} (h : s.drum.state = .cutoff) : evaluateDemand s = s := by
  simp [evaluateDemand, h]

theorem evaluateDemand_demanded {s : State} (hd : demand s = true)
    (h : s.drum.state = .spinup ∨ s.drum.state = .tracking ∨ s.drum.state = .locked) : evaluateDemand s = s := by
  rcases h with h | h | h <;> simp [evaluateDemand, h, hd]

theorem evaluateDemand_undemanded {s : State} (hd : demand s = false)
    (h : s.drum.state = .stopped ∨ s.drum.state = .braking) : evaluateDemand s = s := by
  rcases h with h | h <;> simp [evaluateDemand, h, hd]

theorem evaluateDemand_braked {s : State} (hd : demand s = false)
    (h : s.drum.state = .spinup ∨ s.drum.state = .tracking ∨ s.drum.state = .locked) : evaluateDemand s = enterBraking s := by
  rcases h with h | h | h <;> simp [evaluateDemand, h, hd]

theorem evaluateDemand_spun {s : State} (hd : demand s = true)
    (h : s.drum.state = .braking ∨ (s.drum.state = .stopped ∧ s.pins.coverClosed = true ∧ s.tables.drumPending = none)) :
    evaluateDemand s = enterSpinup s := by
  rcases h with h | ⟨h, hc, hp⟩
  · simp [evaluateDemand, h, hd]
  · simp [evaluateDemand, h, hd, hc, hp]

theorem drumEval_eq {s0 s : State} (h : evaluateDemand s = s) : drumEval s0 s = s := by
  unfold drumEval
  split
  · rfl
  · exact h

theorem drumEval_same {s0 s : State} (hd : demand s0 = demand s) (hs : s0.drum.state = s.drum.state)
    (hc : s0.pins.coverClosed = s.pins.coverClosed) : drumEval s0 s = s := if_pos ⟨hd, hs, hc⟩

theorem drumEval_changed {s0 s : State} (h : demand s0 ≠ demand s ∨ s0.drum.state ≠ s.drum.state ∨
    s0.pins.coverClosed ≠ s.pins.coverClosed) : drumEval s0 s = evaluateDemand s := by
  refine if_neg fun hf => ?_
  obtain ⟨hd, hs, hc⟩ := hf
  rcases h with h | h | h
  · exact h hd
  · exact h hs
  · exact h hc

/-- The drum's evaluations leave a drum that follows its demand, at its standard. -/
theorem drive_eq {s0 s : State}
    (hk : standardKey s0 = standardKey s ∨ (s.drum.state ≠ .tracking ∧ s.drum.state ≠ .locked))
    (he : evaluateDemand s = s) : drumEval s0 (standardEval s0 s) = s := by
  rw [standardEval_eq hk, drumEval_eq he]

theorem headEval_eq {s0 s : State} (h : s.head.state = .parked → onDrumState s = .granted →
    s0.head.state = .parked ∧ onDrumState s0 = .granted) : headEval s0 s = s := by
  unfold headEval
  dsimp only
  refine if_neg fun hf => ?_
  obtain ⟨hn, hb⟩ := hf
  simp only [Bool.and_eq_true, decide_eq_true_eq] at hn
  obtain ⟨hp, hg⟩ := h hn.1 hn.2
  simp [hp, hg] at hb

theorem lampEval_eq {s0 s : State} (h : lampDemand s = lampDemand s0) : lampEval s0 s = s := by
  unfold lampEval
  rw [h, if_neg fun hf => absurd (hf.1.symm.trans hf.2) (by decide),
    if_neg fun hf => absurd (hf.1.symm.trans hf.2) (by decide)]

theorem lampEval_lamp (s0 s : State) : ∃ x, lampEval s0 s = s.setLamp x := by
  unfold lampEval
  split
  · exact ⟨_, rfl⟩
  · split
    · split
      · exact ⟨s.lamp, rfl⟩
      · exact ⟨s.lamp, rfl⟩
      · exact ⟨_, rfl⟩
      · exact ⟨_, rfl⟩
    · exact ⟨s.lamp, rfl⟩

theorem attemptEval_eq {s0 s : State} (h : attemptReady s = true → attemptReady s0 = true) : attemptEval s0 s = s :=
  if_neg fun hf => absurd ((h hf.1).symm.trans hf.2) (by decide)

theorem lineupEval_eq {s0 s : State} (h : lineupReady s = true → lineupReady s0 = true) : lineupEval s0 s = s :=
  if_neg fun hf => absurd ((h hf.1).symm.trans hf.2) (by decide)

theorem attemptReady_granted' {s : State} (h : attemptReady s = true) : onDrumState s = .granted ∧
    s.drum.state = .locked ∧ s.head.state = .ready ∧ s.lamp.state = .warm ∧ s.sender.state = .free := by
  simp only [attemptReady, Bool.and_eq_true, decide_eq_true_eq] at h
  exact ⟨h.1.1.1.1.1, h.1.1.1.1.2, h.1.1.1.2, h.1.1.2, h.1.2⟩

/-- An attempt does not start while one of its conditions does not hold (R142). -/
theorem not_attemptReady {s : State} (h : onDrumState s ≠ .granted ∨ s.drum.state ≠ .locked ∨ s.head.state ≠ .ready ∨
    s.lamp.state ≠ .warm ∨ s.sender.state ≠ .free) : attemptReady s = false := by
  by_contra hf
  obtain ⟨h1, h2, h3, h4, h5⟩ := attemptReady_granted' (by simpa using hf)
  rcases h with h | h | h | h | h
  · exact h h1
  · exact h h2
  · exact h h3
  · exact h h4
  · exact h h5

/-- The evaluations after an event that brings no port into FAULT, no head home and no line-up or attempt to its start: what
they leave of the drum (`u`), then the lamp. -/
theorem settle_drive {s0 s u : State} (hf : ∀ p, (s.port p).inFault = (s0.port p).inFault)
    (hn : noPortLeft s = true → noPortLeft s0 = true) (hu : drumEval s0 (standardEval s0 s) = u)
    (hh : u.head.state = .parked → onDrumState u = .granted → s0.head.state = .parked ∧ onDrumState s0 = .granted)
    (ha : attemptReady (lampEval s0 u) = true → attemptReady s0 = true)
    (hl : lineupReady u = true → lineupReady s0 = true) : settle s0 s = lampEval s0 u := by
  have hl' : lineupReady (lampEval s0 u) = lineupReady u := by
    obtain ⟨x, e⟩ := lampEval_lamp s0 u
    rw [e]
    exact lineupReady_congr rfl fun p => by rw [State.setLamp_port]
  unfold settle
  dsimp only
  rw [lapseEval_eq hf, portFailEval_eq hn, hu, headEval_eq hh, attemptEval_eq ha, lineupEval_eq (hl'.symm ▸ hl)]

/-- The same, with the lamp's demand as it was. -/
theorem settle_drive_lit {s0 s u : State} (hf : ∀ p, (s.port p).inFault = (s0.port p).inFault)
    (hn : noPortLeft s = true → noPortLeft s0 = true) (hu : drumEval s0 (standardEval s0 s) = u)
    (hh : u.head.state = .parked → onDrumState u = .granted → s0.head.state = .parked ∧ onDrumState s0 = .granted)
    (hd : lampDemand u = lampDemand s0) (ha : attemptReady u = true → attemptReady s0 = true)
    (hl : lineupReady u = true → lineupReady s0 = true) : settle s0 s = u := by
  have e := lampEval_eq hd
  rw [settle_drive hf hn hu hh (by rwa [e]) hl, e]

end Sys2Proof.Machine

/-! ## The encoder, the bridge, the keys and the drum's own timers -/

namespace Sys2Proof.Machine

/-! ### A scanner that takes nothing (R39, R40, R52) -/

theorem scannerAtCount_off {s : State} (pos : Nat) (h : s.scan.state ≠ .running) : scannerAtCount pos s = s :=
  if_neg fun hf => h hf.1

theorem runRevolution_off {s : State} (h : s.scan.state ≠ .running) : runRevolution s = 0 := if_neg h

/-- A count that comes in no revolution of a run starts nothing at the head. -/
theorem headAtCount_zero (pos : Nat) (s : State) : headAtCount 0 pos s = s := by
  have hb : ∀ u, burstRevolution u 0 = false := fun u => by simp [burstRevolution]
  have hl : ∀ u, lateRevolution u 0 = false := fun u => by simp [lateRevolution]
  simp [headAtCount, hb, hl]

theorem scannerAtIndex_off {s : State} (hr : s.scan.state ≠ .running) (ha : s.scan.state ≠ .armed) :
    scannerAtIndex s = s := by
  unfold scannerAtIndex
  split
  · rfl
  · rename_i h; exact absurd h ha
  · rename_i h; exact absurd h hr
  · rfl

theorem headAtIndex_off {s : State} (closing : Nat) (h : s.scan.state ≠ .running) : headAtIndex closing s = s := by
  simp [headAtIndex, h]

theorem encoderCount_forward_off {s : State} (h : (countForward s).scan.state ≠ .running) :
    encoderCount .forward s = countForward s := by
  unfold encoderCount
  dsimp only
  rw [scannerAtCount_off _ h, runRevolution_off h, headAtCount_zero]

/-! ### Drum faults and the entry to CUTOFF (R15) -/

theorem drumFault_off {f : DrumFault} {s : State} (h : f.actsIn s.drum.state = false) : drumFault f s = s := by
  simp [drumFault, h]

theorem drumFault_acts {f : DrumFault} {s : State} (h : f.actsIn s.drum.state = true) : drumFault f s = enterCutoff f s :=
  if_pos h

theorem boundaryAt_lost {s : State} (b : Nat) (h : s.enc.indexFound = false) : boundaryAt b s = s := by
  simp [boundaryAt, h]

/-- What the end of an attempt may change (R146). -/
theorem attemptEnd_frame (o : AttemptOutcome) (s : State) : Only attemptParts s (attemptEnd o s) := by
  refine attemptEnd_only o ?_ ?_ ?_ ?_ ?_ ?_ ?_ ?_ ?_ ?_ (Only.refl _ _) <;> decide

/-- The drive in CUTOFF with a fault (R15). -/
def cutoffDrum (f : DrumFault) (d : Drum) : Drum :=
  { d with
    state := .cutoff, mode := .off, modeReq := none, pendingDuty := 0, activeDuty := 0, stallDeadline := none,
    spinupTimer := none, rampTimer := none, brakingTimer := none, silenceTimer := none, spinLatch := false,
    lastFault := f, unlocked := 0 }

theorem enterCutoff_eq (f : DrumFault) (s : State) :
    enterCutoff f s = attemptEnd .drum (stopHead (s.setDrum (cutoffDrum f s.drum))) := rfl

theorem enterCutoff_drum (f : DrumFault) (s : State) : (enterCutoff f s).drum = cutoffDrum f s.drum :=
  (attemptEnd_frame .drum _).drum (by decide)

theorem enterCutoff_enc (f : DrumFault) (s : State) : (enterCutoff f s).enc = s.enc :=
  (attemptEnd_frame .drum _).enc (by decide)

/-- With no attempt in progress the entry to CUTOFF moves the drive and stops the head. -/
theorem enterCutoff_idle {f : DrumFault} {s : State} (h : attemptInProgress s = false) :
    enterCutoff f s = stopHead (s.setDrum (cutoffDrum f s.drum)) :=
  attemptEnd_of_none (t := stopHead (s.setDrum (cutoffDrum f s.drum))) h

/-- What the evaluations at the end of an event may change of a drum in CUTOFF: nothing of it, of its regulator and of its
counter. -/
theorem settle_cutoff {s0 s : State} (h : s.drum.state = .cutoff) :
    (settle s0 s).drum = s.drum ∧ (settle s0 s).enc = s.enc ∧ (settle s0 s).reg = s.reg := by
  have k1 : Only [.sender] s (lapseEval s0 s) := lapseEval_only s0 (by decide) (Only.refl _ _)
  have k2 : Only [.conv, .head, .tables, .pics, .slips] (lapseEval s0 s) (portFailEval s0 (lapseEval s0 s)) :=
    portFailEval_only s0 (by decide) (by decide) (by decide) (by decide) (by decide) (Only.refl _ _)
  unfold settle
  dsimp only
  generalize portFailEval s0 (lapseEval s0 s) = v at *
  have hd : v.drum = s.drum := (k2.drum (by decide)).trans (k1.drum (by decide))
  have he : v.enc = s.enc := (k2.enc (by decide)).trans (k1.enc (by decide))
  have hr : v.reg = s.reg := (k2.reg (by decide)).trans (k1.reg (by decide))
  have hv : v.drum.state = .cutoff := by rw [hd, h]
  rw [standardEval_eq (Or.inr ⟨by simp [hv], by simp [hv]⟩), drumEval_eq (evaluateDemand_cutoff hv)]
  have k3 : Only attemptParts v (headEval s0 v) := by
    refine headEval_only s0 ?_ ?_ ?_ ?_ ?_ ?_ ?_ ?_ ?_ ?_ (Only.refl _ _) <;> decide
  have k4 : Only [.lamp] (headEval s0 v) (lampEval s0 (headEval s0 v)) := lampEval_only s0 (by decide) (Only.refl _ _)
  generalize lampEval s0 (headEval s0 v) = w at *
  have hdw : w.drum = v.drum := (k4.drum (by decide)).trans (k3.drum (by decide))
  have ha : attemptReady w = false := not_attemptReady (Or.inr (Or.inl (by simp [hdw, hv])))
  rw [attemptEval_eq (by simp [ha])]
  have k5 : Only [.sender, .portA, .portB] w (lineupEval s0 w) :=
    lineupEval_only s0 (by decide) (by decide) (by decide) (Only.refl _ _)
  exact ⟨(k5.drum (by decide)).trans (hdw.trans hd),
    (k5.enc (by decide)).trans (((k4.enc (by decide)).trans (k3.enc (by decide))).trans he),
    (k5.reg (by decide)).trans (((k4.reg (by decide)).trans (k3.reg (by decide))).trans hr)⟩

/-! ### The encoder's counts (R1; O10) -/

/-- A forward count away from the window boundaries moves the counter alone. -/
theorem countForward_still {s : State} (hp : s.enc.pos ≤ 8191)
    (h : s.enc.indexFound = false ∨ (s.enc.pos + 1) % 512 ≠ 0 ∨ s.enc.pos = 8191) :
    countForward s = s.setEnc { s.enc with pos := (s.enc.pos + 1) % 8192, reverseRun := 0 } := by
  have hpos : (if s.enc.pos = 8191 then 0 else s.enc.pos + 1) = (s.enc.pos + 1) % 8192 := by
    split <;> omega
  unfold countForward
  rw [hpos]
  dsimp only
  split
  · rename_i hb
    refine boundaryAt_lost _ ?_
    rcases h with h | h | h
    · exact h
    · omega
    · omega
  · rfl

/-- A reverse count that raises no fault moves the counter alone. -/
theorem countReverse_still {s : State} (hp : s.enc.pos ≤ 8191)
    (h : s.enc.reverseRun ≠ 31 ∨ s.drum.state = .stopped ∨ s.drum.state = .braking ∨ s.drum.state = .cutoff) :
    countReverse s = s.setEnc
      { s.enc with pos := (s.enc.pos + 8191) % 8192, reverseRun := satInc 255 s.enc.reverseRun } := by
  have hpos : (if s.enc.pos = 0 then 8191 else s.enc.pos - 1) = (s.enc.pos + 8191) % 8192 := by
    split <;> omega
  unfold countReverse
  rw [hpos]
  dsimp only
  split
  · rename_i hr
    refine drumFault_off ?_
    simp only [Bool.and_eq_true, decide_eq_true_eq] at hr
    have : s.enc.reverseRun = 31 := by
      have := hr.1
      unfold satInc at this
      split at this <;> omega
    rcases h with h | h | h | h
    · exact absurd this h
    all_goals rw [State.setEnc_drum, h]; rfl
  · rfl

/-- The 32nd reverse count of a turning drum. -/
theorem countReverse_raises {s : State} (hr : s.enc.reverseRun = 31)
    (h : s.drum.state = .spinup ∨ s.drum.state = .tracking ∨ s.drum.state = .locked) :
    countReverse s = enterCutoff .reverse
      (s.setEnc { s.enc with pos := if s.enc.pos = 0 then 8191 else s.enc.pos - 1, reverseRun := 32 }) := by
  have ha : DrumFault.actsIn .reverse s.drum.state = true := by rcases h with h | h | h <;> rw [h] <;> rfl
  unfold countReverse
  simp only [hr, satInc]
  exact drumFault_acts ha

/-- An event that moves the encoder counter alone. -/
theorem encoder_event {c : Instr} {f : State → State} {s : State} {e : Encoder} (hc : exec c s = .next (event f s))
    (hf : ∀ x, f (s.setPanel x) = (s.setPanel x).setEnc e) :
    ∃ t, exec c s = .next t ∧ Only [.enc, .panel] s t ∧ t.enc = e := by
  refine event_next hc fun x y => ?_
  have k : Only [.enc] (s.setPanel x) ((s.setPanel x).setEnc e) := setEnc_only _ (by decide) (Only.refl _ _)
  rw [hf x, settle_quiet k (by decide)]
  exact ⟨Only.panels x y (by decide) (k.mono (by decide)), rfl⟩

/-- Settles O10: forward counts, reverse counts, the 32nd reverse count. -/
theorem encoderCounts : Obligations.EncoderCounts := by
  refine ⟨fun s hp hs h => ?_, fun s hp h => ?_, fun s hr h => ?_⟩
  · refine encoder_event rfl fun x => ?_
    have e := countForward_still (s := s.setPanel x) hp h
    rw [encoderCount_forward_off (by rw [e]; exact hs), e]
    rfl
  · exact encoder_event rfl fun x => countReverse_still (s := s.setPanel x) hp h
  · refine event_next (f := encoderCount .reverse) rfl fun x y => ?_
    have e : encoderCount .reverse (s.setPanel x) = enterCutoff .reverse _ :=
      countReverse_raises (s := s.setPanel x) hr h
    have hd := enterCutoff_drum .reverse ((s.setPanel x).setEnc
      { s.enc with pos := if s.enc.pos = 0 then 8191 else s.enc.pos - 1, reverseRun := 32 })
    have he := enterCutoff_enc .reverse ((s.setPanel x).setEnc
      { s.enc with pos := if s.enc.pos = 0 then 8191 else s.enc.pos - 1, reverseRun := 32 })
    rw [e]
    obtain ⟨kd, ke, _⟩ := settle_cutoff (s0 := s.setPanel x) (congrArg Drum.state hd)
    exact ⟨congrArg Drum.state (kd.trans hd), congrArg Drum.lastFault (kd.trans hd),
      congrArg Encoder.reverseRun (ke.trans he)⟩

/-! ### The duty and the bridge (R9, R19, R20; O17) -/

/-- With the duty range in order the clamp lies at its bounds. -/
theorem clamp_eq {x lo hi : Nat} (h : lo ≤ hi) : clamp x lo hi = max lo (min hi x) := by
  unfold clamp
  split
  · omega
  · split <;> omega

/-- A ramp tick in SPINUP. -/
theorem rampTick_spinup {s : State} (hs : s.drum.state = .spinup) (ht : s.drum.rampTimer.isSome = true) :
    ∃ duty, rampTick s = s.setDrum { s.drum with pendingDuty := duty, rampTimer := some 10000 } ∧
      let target := clamp (standardInForce s).dff s.tables.drum.dutyMin s.tables.drum.dutyMax
      (s.drum.pendingDuty ≤ target → duty = min target (s.drum.pendingDuty + s.tables.drum.rampStep)) ∧
      (target ≤ s.drum.pendingDuty → duty = max target (s.drum.pendingDuty - s.tables.drum.rampStep)) := by
  unfold rampTick
  rw [if_neg (by rw [Option.isNone_eq_false_iff.2 ht]; decide), if_pos hs]
  refine ⟨_, rfl, fun h => ?_, fun h => ?_⟩
  · split
    · split <;> omega
    · rw [if_neg (by omega)]; omega
  · rw [if_neg (by omega)]
    split
    · split <;> omega
    · omega

/-- Settles O17: the ramp tick, the cycle end, the gates. -/
theorem dutyReachesTheBridge : Obligations.DutyReachesTheBridge := by
  refine ⟨fun s hs ht hm => ?_, fun s => ?_, fun s c => ⟨?_, fun h => ?_⟩⟩
  · obtain ⟨duty, e, up, down⟩ := rampTick_spinup hs ht
    rw [clamp_eq hm] at up down
    refine ⟨_, rfl, rampTick_only (by decide) (Only.refl _ _), ?_⟩
    rw [e]
    exact ⟨rfl, up, down⟩
  · exact ⟨_, rfl, cycleEnd_only (by decide) (Only.refl _ _), rfl⟩
  · intro ⟨hh, hl⟩
    simp only [highGate, Bool.and_eq_true, decide_eq_true_eq] at hh
    simp only [lowGate, hh.1, Bool.and_eq_true, decide_eq_true_eq] at hl
    omega
  · simp [highGate, lowGate, h]

end Sys2Proof.Machine

/-! ## The keys SPIN and STOP -/

namespace Sys2Proof.Machine

/-! ### A refusal at the panel (R172) -/

/-- A pending notice waits on for the transmitter, or is on its way. -/
theorem panelTransmit_notice {k : PanelKind} {n : Notice} {s : State} (h : s.panel.notice = some (k, n)) :
    (panelTransmit s).panel.notice = some (k, n) ∨ (panelTransmit s).panel.tx = some (.notice k n) := by
  unfold panelTransmit
  cases s.panel.tx with
  | some r => exact Or.inl h
  | none => simp [h]

theorem markChanged_notice (old : PanelOut) (s : State) : (markChanged old s).panel.notice = s.panel.notice := by
  unfold markChanged
  split <;> rfl

/-- A key whose operation places a notice and does nothing else. -/
theorem notice_event {c : Instr} {f : State → State} {s : State} {k : PanelKind} {n : Notice}
    (hc : exec c s = .next (event f s)) (hf : ∀ x, ∃ z, f (s.setPanel x) = giveNotice k n (s.setPanel z)) :
    ∃ t, exec c s = .next t ∧ Noticed k n s t := by
  obtain ⟨x, hx⟩ := panelTransmit_eq s
  obtain ⟨z, hz⟩ := hf x
  have kf : Only [.panel] (s.setPanel x) (f (s.setPanel x)) := by
    rw [hz]
    exact giveNotice_only k n (by decide) (setPanel_only (t := s.setPanel x) z (by decide) (Only.refl _ _))
  have e : event f s = panelTransmit (markChanged (stateRecord (s.setPanel x)) (f (s.setPanel x))) := by
    unfold event shown
    dsimp only
    rw [hx, settle_quiet kf (by decide)]
  refine ⟨_, hc, ?_, ?_⟩
  · rw [e]
    refine panelTransmit_notice ?_
    rw [markChanged_notice, hz]
    rfl
  · rw [e]
    exact panelTransmit_only (by decide) (markChanged_only _ (by decide)
      ((setPanel_only x (by decide) (Only.refl _ s)).trans kf))

/-! ### The SPIN latch -/

/-- The panel interface with its receiver in HUNTING, as a key's record leaves it (R170). -/
def huntingPanel (x : Panel) : Panel := { x with inRecord := false, bytes := [], gapRunning := false }

theorem panelHunting_setPanel (s : State) (x : Panel) : panelHunting (s.setPanel x) = s.setPanel (huntingPanel x) := rfl

/-- The drive with its SPIN latch set or clear (R18). -/
def latched (latch : Bool) (d : Drum) : Drum := { d with spinLatch := latch }

@[simp] theorem latched_state (latch : Bool) (d : Drum) : (latched latch d).state = d.state := rfl
@[simp] theorem latched_latch (latch : Bool) (d : Drum) : (latched latch d).spinLatch = latch := rfl

/-- A state after a key that sets or clears the latch, before the evaluations. -/
def keyed (latch : Bool) (s : State) (z : Panel) : State := (s.setPanel z).setDrum (latched latch s.drum)

/-- SPIN outside CUTOFF sets the latch. -/
theorem spinKey_sets {s : State} (x : Panel) (h : s.drum.state ≠ .cutoff) :
    spinKey (panelHunting (s.setPanel x)) = keyed true s (huntingPanel x) := if_neg h

/-- STOP outside an attempt clears the latch. -/
theorem stopKey_clears {s : State} (x : Panel) (h : attemptInProgress s = false) :
    stopKey (panelHunting (s.setPanel x)) = keyed false s (huntingPanel x) := by
  have ha : attemptInProgress (s.setPanel (huntingPanel x)) = false := h
  rw [panelHunting_setPanel, stopKey, ha]
  rfl

theorem keyed_only {ps : List Part} (latch : Bool) (s : State) (z : Panel) (hd : Part.drum ∈ ps) (hp : Part.panel ∈ ps) :
    Only ps s (keyed latch s z) := setDrum_only _ hd (setPanel_only _ hp (Only.refl _ _))

@[simp] theorem keyed_demand (latch : Bool) (s : State) (z : Panel) : demand (keyed latch s z) =
    (latch || decide (onDrumState s = .granted ∨ onDrumState s = .sending ∨ onDrumState s = .awaiting)) := rfl

/-- The latch is nothing that the evaluations watch, but for the demand it gives. -/
theorem settle_keyed {s u : State} {latch : Bool} (x z : Panel) (hu : drumEval (s.setPanel x) (keyed latch s z) = u)
    (hh : u.head.state = .parked → onDrumState u = .granted → s.head.state = .parked ∧ onDrumState s = .granted)
    (hd : lampDemand u = lampDemand s) (ha : attemptReady u = true → attemptReady s = true)
    (hl : lineupReady u = lineupReady s) : settle (s.setPanel x) (keyed latch s z) = u :=
  settle_drive_lit (fun p => by cases p <;> rfl) (fun h => h)
    ((congrArg (drumEval _) (standardEval_eq (Or.inl rfl))).trans hu) hh hd ha (fun h => hl ▸ h)

/-- A latch that changes no demand changes nothing else. -/
theorem settle_keyed_same {s : State} {latch : Bool} (x z : Panel) (h : demand s = demand (keyed latch s z)) :
    settle (s.setPanel x) (keyed latch s z) = keyed latch s z :=
  settle_keyed x z (drumEval_same h rfl rfl) (fun hp ho => ⟨hp, ho⟩) rfl (fun h => h) rfl

/-- SPIN of a drum at rest without demand. -/
theorem settle_spin {s : State} (x z : Panel) (hs : s.drum.state = .stopped) (hd : demand s = false)
    (hc : s.pins.coverClosed = true) (hp : s.tables.drumPending = none) :
    settle (s.setPanel x) (keyed true s z) = enterSpinup (keyed true s z) := by
  have hg : demand (keyed true s z) = true := by simp
  refine settle_keyed x z ?_ (fun hp ho => ⟨hp, ho⟩) ?_ (fun h => ?_) rfl
  · rw [drumEval_changed (Or.inl (by rw [hg]; simp [show demand (s.setPanel x) = false from hd])), evaluateDemand_spun hg (Or.inr ⟨hs, hc, hp⟩)]
  · exact lampDemand_congr rfl rfl (by simp [enterSpinup, hs]) Iff.rfl
  · exact absurd (attemptReady_granted' h).2.1 (by simp [enterSpinup])

/-- STOP of a turning drum that has no demand but the latch. -/
theorem settle_stop {s : State} (x z : Panel)
    (hs : s.drum.state = .spinup ∨ s.drum.state = .tracking ∨ s.drum.state = .locked) (hl : s.drum.spinLatch = true)
    (ho : onDrumState s ≠ .granted ∧ onDrumState s ≠ .sending ∧ onDrumState s ≠ .awaiting) :
    settle (s.setPanel x) (keyed false s z) = enterBraking (keyed false s z) := by
  have hg : demand (keyed false s z) = false := by simp [ho]
  have hd : demand s = true := by simp [demand, hl]
  refine settle_keyed x z ?_ (fun hp ho => ⟨hp, ho⟩) ?_ (fun h => ?_) rfl
  · rw [drumEval_changed (Or.inl (by rw [hg]; simp [show demand (s.setPanel x) = true from hd])), evaluateDemand_braked hg hs]
  · refine lampDemand_congr rfl rfl ?_ Iff.rfl
    rcases hs with hs | hs | hs <;> simp [enterBraking, hs]
  · exact absurd (attemptReady_granted' h).2.1 (by simp [enterBraking])

/-- Settles O54: each key refused, with an effect on demand, and with none. -/
theorem spinAndStopKeys : Obligations.SpinAndStopKeys := by
  intro s
  refine ⟨fun h => ?_, fun hs hd hc hp => ?_, fun h hd => ?_, fun h => ?_, fun h => ?_, fun hs hl ho => ?_⟩
  · exact notice_event (f := fun s => spinKey (panelHunting s)) rfl fun x => ⟨_, if_pos h⟩
  · refine event_to rfl (fun x => (congrArg _ (spinKey_sets x (by simp [hs]))).trans (settle_spin x _ hs hd hc hp))
      fun x y => ⟨?_, rfl, rfl, rfl, rfl, rfl, rfl⟩
    exact setPanel_only _ (by decide) (setDrum_only _ (by decide) (setEnc_only _ (by decide)
      (keyed_only _ _ _ (by decide) (by decide))))
  · exact event_to rfl (fun x => (congrArg _ (spinKey_sets x h)).trans (settle_keyed_same x _ (by simp [hd])))
      fun x y => ⟨setPanel_only _ (by decide) (keyed_only _ _ _ (by decide) (by decide)), rfl⟩
  · exact notice_event (f := fun s => stopKey (panelHunting s)) rfl fun x => ⟨_, if_pos h⟩
  · have ha : attemptInProgress s = false := by rcases h with h | h <;> simp [attemptInProgress, h]
    exact event_to rfl
      (fun x => (congrArg _ (stopKey_clears x ha)).trans
        (settle_keyed_same x _ (by rw [keyed_demand]; rcases h with h | h <;> simp [demand, h])))
      fun x y => ⟨setPanel_only _ (by decide) (keyed_only _ _ _ (by decide) (by decide)), rfl⟩
  · have hn : onDrumState s ≠ .granted ∧ onDrumState s ≠ .sending ∧ onDrumState s ≠ .awaiting := by
      rcases ho with h | h | h <;> simp [h]
    have ha : attemptInProgress s = false := by simp [attemptInProgress, hn]
    refine event_to rfl (fun x => (congrArg _ (stopKey_clears x ha)).trans (settle_stop x _ hs hl hn))
      fun x y => ⟨?_, rfl, rfl, rfl, rfl, rfl, rfl, rfl⟩
    exact setPanel_only _ (by decide) (setDrum_only _ (by decide) (keyed_only _ _ _ (by decide) (by decide)))

end Sys2Proof.Machine

/-! ## The drum between its states: cover, timers and window events -/

namespace Sys2Proof.Machine

theorem evaluateDemand_covered {s : State} (h : s.drum.state = .stopped) (hc : s.pins.coverClosed = false) :
    evaluateDemand s = s := by
  simp [evaluateDemand, h, hc]

/-! ### The entry to STOPPED (R8, R14) -/

/-- The drive in STOPPED, before a pending profile is applied. -/
def stoppedDrum (d : Drum) : Drum :=
  { d with
    state := .stopped, mode := .off, modeReq := none, brakingTimer := none, silenceTimer := none, stallDeadline := none }

theorem enterStopped_none {s : State} (h : s.tables.drumPending = none) :
    enterStopped s = s.setDrum (stoppedDrum s.drum) := by
  simp [enterStopped, applyDrum, h, stoppedDrum]

theorem enterStopped_some {s : State} {p : DrumProfile} (h : s.tables.drumPending = some p) :
    enterStopped s = (s.setDrum { stoppedDrum s.drum with cycleLen := 2 ^ p.cycleExp }).setTables
      { s.tables with drum := p, drumPending := none } := by
  simp only [enterStopped, applyDrum, State.setDrum_tables, h]
  rfl

/-- What the entry to STOPPED makes of the drive and the tables, with a pending profile and without. -/
theorem enterStopped_eq (s : State) : ∃ n tb, enterStopped s =
    (s.setDrum { stoppedDrum s.drum with cycleLen := n }).setTables tb ∧
      tb.standards = s.tables.standards ∧ tb.scan = s.tables.scan ∧ ∀ p, s.tables.drumPending = some p → tb.drum = p ∧ tb.drumPending = none ∧
        n = 2 ^ p.cycleExp := by
  cases h : s.tables.drumPending with
  | none => exact ⟨s.drum.cycleLen, s.tables, enterStopped_none h, rfl, rfl, fun p hp => nomatch hp⟩
  | some p => exact ⟨_, _, enterStopped_some h, rfl, rfl, fun q hq => Option.some.inj hq ▸ ⟨rfl, rfl, rfl⟩⟩

/-- A braking drum without demand that comes to its end rests in STOPPED. -/
theorem settle_stopped {s0 v : State} (hf : ∀ p, (v.port p).inFault = (s0.port p).inFault)
    (hp : v.pics = s0.pics) (hk : v.scan = s0.scan) (hh : v.head = s0.head) (hs : v.sender = s0.sender)
    (hi : ∀ p, (v.port p).isIdle = (s0.port p).isIdle) (hb : s0.drum.state = .braking)
    (hd : demand v = false) : settle s0 (enterStopped v) = enterStopped v := by
  obtain ⟨n, tb, e, -⟩ := enterStopped_eq v
  have ho : onDrumState v = onDrumState s0 := onDrumState_congr hp
  have hport : ∀ p, (enterStopped v).port p = v.port p := fun p => by rw [e]; cases p <;> rfl
  have hst : (enterStopped v).drum.state = .stopped := by rw [e]; rfl
  have ho' : onDrumState (enterStopped v) = onDrumState s0 := by rw [e]; exact ho
  refine settle_drive_lit (fun p => by rw [hport, hf]) ?_ ?_ ?_ ?_ ?_ ?_
  · intro h
    have ha : v.portA.inFault = s0.portA.inFault := hf .a
    have hb : v.portB.inFault = s0.portB.inFault := hf .b
    rw [e] at h
    simp only [noPortLeft, bothFault, State.setTables_portA, State.setDrum_portA, State.setTables_portB,
      State.setDrum_portB, onDrumState_setTables, onDrumState_setDrum, ha, hb, ho] at h
    exact h
  · refine drive_eq (Or.inr ⟨by simp [hst], by simp [hst]⟩) (evaluateDemand_undemanded ?_ (Or.inl hst))
    rw [e]
    exact hd
  · intro h1 h2
    rw [ho'] at h2
    rw [e] at h1
    exact ⟨hh ▸ h1, h2⟩
  · exact lampDemand_congr ho' (by rw [e]; exact hk) (by rw [hst, hb]; decide) (by rw [e]; exact hh ▸ Iff.rfl)
  · exact fun h => absurd (attemptReady_granted' h).2.1 (by rw [hst]; decide)
  · exact fun h => (lineupReady_congr (by rw [e]; exact hs) (fun p => by rw [hport, hi])).symm.trans h

/-! ### Faults and the cover with no attempt in progress (R15, R16, R21; O18) -/

/-- The drum in CUTOFF and the head in FAULT. -/
def cutState (f : DrumFault) (v : State) : State := stopHead (v.setDrum (cutoffDrum f v.drum))

theorem cutState_only {ps : List Part} {s v : State} (f : DrumFault) (h1 : Part.drum ∈ ps) (h2 : Part.head ∈ ps)
    (h : Only ps s v) : Only ps s (cutState f v) := stopHead_only h2 (setDrum_only _ h1 h)

/-- A fault of a drum with no attempt on it: the drum, the head, and then the lamp. -/
theorem settle_cut {s : State} (f : DrumFault) (x : Panel) (p : Pins) :
    settle (s.setPanel x) (cutState f ((s.setPanel x).setPins p)) =
      lampEval (s.setPanel x) (cutState f ((s.setPanel x).setPins p)) := by
  refine settle_drive (fun p => by cases p <;> rfl) (fun h => h) ?_ (fun h => nomatch h) (fun h => ?_) (fun h => h)
  · exact drive_eq (Or.inl rfl) (evaluateDemand_cutoff rfl)
  · obtain ⟨l, e⟩ := lampEval_lamp (s.setPanel x) (cutState f ((s.setPanel x).setPins p))
    rw [e] at h
    exact nomatch (attemptReady_granted' h).2.1

/-- An event that raises a drum fault with no attempt in progress, at the sensor levels `p`. -/
theorem cut_event {c : Instr} {g : State → State} {f : DrumFault} {s : State} {p : Pins} (hc : exec c s = .next (event g s))
    (hg : ∀ x, g (s.setPanel x) = drumFault f ((s.setPanel x).setPins p)) (hf : f.actsIn s.drum.state = true)
    (ha : attemptInProgress s = false) :
    ∃ t, exec c s = .next t ∧ CutOff f s t ∧ t.pins = p ∧ Only [.drum, .head, .lamp, .pins, .panel] s t ∧
      (p = s.pins → Only [.drum, .head, .lamp, .panel] s t) := by
  refine event_to hc (u := fun x => lampEval (s.setPanel x) (cutState f ((s.setPanel x).setPins p))) (fun x => ?_)
    fun x y => ?_
  · have e : g (s.setPanel x) = cutState f ((s.setPanel x).setPins p) := by
      rw [hg x]
      exact (drumFault_acts (s := (s.setPanel x).setPins p) hf).trans (enterCutoff_idle ha)
    rw [e, settle_cut f x p]
  · obtain ⟨l, e⟩ := lampEval_lamp (s.setPanel x) (cutState f ((s.setPanel x).setPins p))
    rw [e]
    refine ⟨⟨rfl, rfl, ⟨rfl, rfl⟩, ⟨rfl, rfl, rfl, rfl⟩, rfl, rfl, rfl, ⟨rfl, rfl, rfl, rfl⟩⟩, rfl, ?_, fun hp => ?_⟩
    · exact setPanel_only _ (by decide) (setLamp_only _ (by decide) (cutState_only _ (by decide) (by decide)
        (setPins_only _ (by decide) (setPanel_only _ (by decide) (Only.refl _ _)))))
    · have e : ((s.setPanel x).setPins p) = s.setPanel x := by rw [hp]; rfl
      rw [e]
      exact setPanel_only _ (by decide) (setLamp_only _ (by decide) (cutState_only _ (by decide) (by decide)
        (setPanel_only _ (by decide) (Only.refl _ _))))

/-- A cover level that comes with no fault. -/
theorem cover_event {s : State} {closed : Bool} {u : Panel → State}
    (hf : closed = true ∨ s.drum.state = .stopped ∨ s.drum.state = .cutoff)
    (hu : ∀ x, drumEval (s.setPanel x) ((s.setPanel x).setPins { s.pins with coverClosed := closed }) = u x)
    (hh : ∀ x, (u x).head = s.head ∧ onDrumState (u x) = onDrumState s)
    (hd : ∀ x, lampDemand (u x) = lampDemand s) (ha : ∀ x, attemptReady (u x) = true → attemptReady s = true)
    (hl : ∀ x, lineupReady (u x) = lineupReady s) {P : State → Prop} (h : ∀ x y, P ((u x).setPanel y)) :
    ∃ t, exec (.coverChange closed) s = .next t ∧ P t := by
  refine event_to rfl (fun x => ?_) h
  have e : coverChange closed (s.setPanel x) = (s.setPanel x).setPins { s.pins with coverClosed := closed } := by
    unfold coverChange
    cases closed with
    | true => rfl
    | false =>
      refine drumFault_off ?_
      rcases hf with hf | hf | hf
      · exact nomatch hf
      · rw [State.setPins_drum, State.setPanel_drum, hf]; rfl
      · rw [State.setPins_drum, State.setPanel_drum, hf]; rfl
  rw [e]
  refine settle_drive_lit (fun p => by cases p <;> rfl) (fun h => h) ?_ (fun h1 h2 => ?_) (hd x) (ha x)
    (fun h => hl x ▸ h)
  · exact (congrArg (drumEval _) (standardEval_eq (Or.inl rfl))).trans (hu x)
  · rw [(hh x).1] at h1
    rw [(hh x).2] at h2
    exact ⟨h1, h2⟩

/-- The cover level that changes nothing but itself. -/
theorem cover_still {s : State} {closed : Bool} (hf : closed = true ∨ s.drum.state = .stopped ∨ s.drum.state = .cutoff)
    (he : ∀ x, evaluateDemand ((s.setPanel x).setPins { s.pins with coverClosed := closed }) =
      (s.setPanel x).setPins { s.pins with coverClosed := closed }) :
    ∃ t, exec (.coverChange closed) s = .next t ∧ Only [.pins, .panel] s t ∧
      t.pins = { s.pins with coverClosed := closed } :=
  cover_event hf (u := fun x => (s.setPanel x).setPins { s.pins with coverClosed := closed }) (fun x => drumEval_eq (he x))
    (fun _ => ⟨rfl, rfl⟩) (fun _ => rfl) (fun _ h => h) (fun _ => rfl) fun x y =>
    ⟨setPanel_only _ (by decide) (setPins_only _ (by decide) (setPanel_only _ (by decide) (Only.refl _ _))), rfl⟩

/-- Settles O18: the faults, the cover without effect, the cover that starts the drum. -/
theorem coverAndDrumFaults : Obligations.CoverAndDrumFaults := by
  refine ⟨fun s ha => ⟨fun hs ht => ?_, fun hs ht => ?_, fun h1 h2 => ?_⟩, fun s h => ?_, fun s h => ?_,
    fun s hs hd hc hp => ?_⟩
  · obtain ⟨t, h, hc, -, -, hk⟩ := cut_event (c := .spinupTimerExpiry) (f := .stall) (p := s.pins) rfl
      (fun x => if_pos ⟨hs, ht⟩) (by rw [hs]; rfl) ha
    exact ⟨t, h, hc, hk rfl⟩
  · obtain ⟨t, h, hc, -, -, hk⟩ := cut_event (c := .stallDeadline) (f := .stall) (p := s.pins) rfl
      (fun x => if_pos ⟨hs, ht⟩) (by rcases hs with hs | hs <;> rw [hs] <;> rfl) ha
    exact ⟨t, h, hc, hk rfl⟩
  · have hf : DrumFault.actsIn .cover s.drum.state = true := by
      cases hs : s.drum.state with
      | stopped => exact absurd hs h1
      | cutoff => exact absurd hs h2
      | spinup => rfl
      | tracking => rfl
      | locked => rfl
      | braking => rfl
    obtain ⟨t, h, hc, hp, hk, -⟩ := cut_event (c := .coverChange false) (f := .cover)
      (p := { s.pins with coverClosed := false }) rfl (fun x => rfl) hf ha
    exact ⟨t, h, hc, congrArg Pins.coverClosed hp, hk⟩
  · refine cover_still (Or.inr h) fun x => ?_
    rcases h with h | h
    · exact evaluateDemand_covered h rfl
    · exact evaluateDemand_cutoff h
  · refine cover_still (Or.inl rfl) fun x => ?_
    rcases h with h | ⟨h, hd⟩
    · exact evaluateDemand_cutoff h
    · exact evaluateDemand_undemanded hd (Or.inl h)
  · refine cover_event (Or.inl rfl)
      (u := fun x => enterSpinup ((s.setPanel x).setPins { s.pins with coverClosed := true })) (fun x => ?_)
      (fun _ => ⟨rfl, rfl⟩) (fun x => ?_) (fun x h => ?_) (fun _ => rfl) fun x y => ⟨rfl, rfl, rfl, rfl, rfl, rfl, rfl⟩
    · rw [drumEval_changed (Or.inr (Or.inr (by simp [hc])))]
      exact evaluateDemand_spun hd (Or.inr ⟨hs, rfl, hp⟩)
    · exact lampDemand_congr rfl rfl (by simp [enterSpinup, hs]) Iff.rfl
    · exact absurd (attemptReady_granted' h).2.1 (by simp [enterSpinup])

/-! ### Window events (R4, R5) -/

/-- The counter's and the drum's part of a count onto a boundary or of an index pulse. -/
def counted (c : Instr) (s : State) : State :=
  match c with
  | .indexPulse => boundaryAt 0 (checkIndex s)
  | _ => countForward s

/-- The scanner's and the head's part of the same command. -/
def swept (c : Instr) (u : State) : State :=
  match c with
  | .indexPulse => headAtIndex (runRevolution u) (scannerAtIndex u)
  | _ => headAtCount (runRevolution u) u.enc.pos (scannerAtCount u.enc.pos u)

/-- What the scanner and the head may change at a count or an index pulse. -/
theorem swept_frame (c : Instr) (u : State) : Only (.lamp :: attemptParts) u (swept c u) := by
  have count : Only (.lamp :: attemptParts) u (headAtCount (runRevolution u) u.enc.pos (scannerAtCount u.enc.pos u)) := by
    refine headAtCount_only _ _ ?_ ?_ ?_ ?_ ?_ ?_ ?_ ?_ ?_ ?_ (scannerAtCount_only _ ?_ ?_ ?_ ?_ ?_ ?_ ?_ ?_ ?_ ?_ ?_
      (Only.refl _ _)) <;> decide
  have index : Only (.lamp :: attemptParts) u (headAtIndex (runRevolution u) (scannerAtIndex u)) := by
    refine headAtIndex_only _ ?_ ?_ ?_ ?_ ?_ ?_ ?_ ?_ ?_ ?_ (scannerAtIndex_only ?_ ?_ ?_ ?_ ?_ ?_ ?_ ?_ ?_ ?_ ?_
      (Only.refl _ _)) <;> decide
  unfold swept
  split
  · exact index
  · exact count

theorem swept_off {c : Instr} {u : State} (h : Unscanned c u) : swept c u = u := by
  unfold swept
  split
  · rw [scannerAtIndex_off h.1 (h.2 rfl), headAtIndex_off _ h.1]
  · rw [scannerAtCount_off _ h.1, runRevolution_off h.1, headAtCount_zero]

/-- A window event is a count forward or an index pulse. -/
theorem WindowAt.exec {c : Instr} {s : State} {b : Nat} {prev : Tick} {period : Nat} (h : WindowAt c s b prev period) :
    Machine.exec c s = .next (event (fun u => swept c (counted c u)) s) := by
  rcases h.boundary with ⟨rfl, -⟩ | ⟨rfl, -⟩ <;> rfl

theorem WindowAt.setPanel {c : Instr} {s : State} {b : Nat} {prev : Tick} {period : Nat} (h : WindowAt c s b prev period)
    (x : Panel) : WindowAt c (s.setPanel x) b prev period := ⟨h.boundary, h.found, h.fresh, h.capture, h.period⟩

theorem IndexGood.tolerated {s : State} (h : IndexGood s) : (deviation s.enc.pos).natAbs ≤ s.tables.drum.indexTol := by
  obtain ⟨-, hp, ht⟩ := h
  unfold deviation
  split at ht
  · rw [if_pos ‹_›]; omega
  · rw [if_neg ‹_›]; omega

/-- A good index pulse zeroes P and the slip run (R2). -/
theorem checkIndex_good {s : State} (h : IndexGood s) : checkIndex s = s.setEnc { s.enc with pos := 0, slipRun := 0 } := by
  have hf := h.1
  have ht := h.tolerated
  unfold checkIndex
  dsimp only
  rw [if_neg (by simp [hf]), if_pos (by simpa using ht)]
  rfl

/-- The counter at a window event: the captures have moved, and the drum has taken the period (R4, R5). -/
theorem WindowAt.counted {c : Instr} {s : State} {b : Nat} {prev : Tick} {period : Nat} (h : WindowAt c s b prev period) :
    ∃ e : Encoder, Machine.counted c s = windowEvent period (s.setEnc e) ∧ e.curCap = some s.now ∧ e.prevCap = some prev ∧
      e.lastBoundary = some b ∧ e.indexFound = true := by
  have key : ∀ e : Encoder, e.indexFound = true → e.lastBoundary = s.enc.lastBoundary → e.curCap = some prev →
      boundaryAt b (s.setEnc e) = windowEvent period
        (s.setEnc { e with prevCap := some prev, curCap := some s.now, lastBoundary := some b }) := by
    intro e hf hb hc
    have hp : windowPeriod prev s.now = period := by
      rw [h.period, windowPeriod]
      split <;> omega
    have hb' : (s.setEnc e).enc.lastBoundary ≠ some b := by rw [State.setEnc_enc, hb]; exact h.fresh
    rw [boundaryAt, if_pos ⟨hf, hb'⟩, takeBoundary]
    simp only [State.setEnc_enc, hc, State.setEnc_now, hp]
    rfl
  rcases h.boundary with ⟨rfl, h1, h2, hp⟩ | ⟨rfl, rfl, hg⟩
  · refine ⟨{ s.enc with
      pos := s.enc.pos + 1, reverseRun := 0, prevCap := some prev, curCap := some s.now, lastBoundary := some b }, ?_,
      rfl, rfl, rfl, h.found⟩
    have hpos : s.enc.pos ≠ 8191 := by omega
    show countForward s = _
    unfold countForward
    rw [if_neg hpos]
    dsimp only
    rw [if_pos (by omega), show (s.enc.pos + 1) / 512 = b by omega]
    exact key { s.enc with pos := s.enc.pos + 1, reverseRun := 0 } h.found rfl h.capture
  · refine ⟨{ s.enc with
      pos := 0, slipRun := 0, prevCap := some prev, curCap := some s.now, lastBoundary := some 0 }, ?_,
      rfl, rfl, rfl, h.found⟩
    show boundaryAt 0 (checkIndex s) = _
    rw [checkIndex_good hg]
    exact key { s.enc with pos := 0, slipRun := 0 } h.found rfl h.capture

/-- A window event of a drum that no scanner follows, with the state that the drive makes of it. -/
theorem window_event {c : Instr} {s : State} {b : Nat} {prev : Tick} {period : Nat} {P : State → Prop} {d : Panel → Encoder → State}
    (h : WindowAt c s b prev period) (hu : Unscanned c s)
    (hd : ∀ x e, e.indexFound = true → windowEvent period ((s.setPanel x).setEnc e) = d x e) (hs : ∀ x e, (d x e).scan = s.scan)
    (hq : ∀ x e, settle (s.setPanel x) (d x e) = d x e)
    (hP : ∀ x e y, e.curCap = some s.now → e.prevCap = some prev → e.lastBoundary = some b → P ((d x e).setPanel y)) :
    ∃ t, Machine.exec c s = .next t ∧ P t := by
  refine event_next h.exec fun x y => ?_
  obtain ⟨e, hc, h1, h2, h3, h4⟩ := (h.setPanel x).counted
  have k : swept c (counted c (s.setPanel x)) = d x e := by
    rw [hc, hd x e h4, swept_off]
    exact ⟨by rw [hs]; exact hu.1, fun hi => by rw [hs]; exact hu.2 hi⟩
  show P ((settle (s.setPanel x) (swept c (counted c (s.setPanel x)))).setPanel y)
  rw [k, hq]
  exact hP x e y h1 h2 h3

/-! ### Braking (R14; O20) -/

/-- A drum at the end of its braking, by one of its timers. -/
theorem braked_event {c : Instr} {f : State → State} {s : State} (hc : exec c s = .next (event f s))
    (hf : ∀ x, f (s.setPanel x) = enterStopped (s.setPanel x)) (hb : s.drum.state = .braking) (hd : demand s = false) :
    ∃ t, exec c s = .next t ∧ (t.drum.state = .stopped ∧ t.drum.mode = .off ∧ t.drum.silenceTimer = none ∧
      t.drum.brakingTimer = none) ∧ Only [.drum, .tables, .panel] s t ∧
      ∀ p, s.tables.drumPending = some p →
        t.tables.drum = p ∧ t.tables.drumPending = none ∧ t.drum.cycleLen = 2 ^ p.cycleExp := by
  refine event_to hc (fun x => (congrArg _ (hf x)).trans
    (settle_stopped (fun p => rfl) rfl rfl rfl rfl (fun p => rfl) hb hd)) fun x y => ?_
  obtain ⟨n, tb, e, -, -, hp⟩ := enterStopped_eq (s.setPanel x)
  rw [e]
  refine ⟨⟨rfl, rfl, rfl, rfl⟩, ?_, hp⟩
  exact setPanel_only _ (by decide) (setTables_only _ (by decide) (setDrum_only _ (by decide)
    (setPanel_only _ (by decide) (Only.refl _ _))))

/-- Settles O20: the two timers, and the window event in time and late. -/
theorem brakingEndsInStopped : Obligations.BrakingEndsInStopped := by
  refine ⟨fun s hb hd => ⟨fun ht => ?_, fun ht => ?_⟩, fun c s b prev period hw hu hb hd => ⟨fun hp => ?_, fun hp => ?_⟩⟩
  · obtain ⟨t, h, ⟨h1, h2, h3, -⟩, h4, h5⟩ := braked_event (c := .brakingTimerExpiry) rfl (fun x => if_pos ⟨hb, ht⟩) hb hd
    exact ⟨t, h, h1, h2, h3, h4, h5⟩
  · obtain ⟨t, h, ⟨h1, h2, -, h3⟩, h4, h5⟩ := braked_event (c := .windowSilenceTimerExpiry) rfl (fun x => if_pos ⟨hb, ht⟩) hb hd
    exact ⟨t, h, h1, h2, h3, h4, h5⟩
  · refine window_event hw hu (d := fun x e => ((s.setPanel x).setEnc e).setDrum
      { s.drum with silenceTimer := some (10 * s.drum.brakingW) }) (fun x e _ => ?_) (fun _ _ => rfl) (fun x e => ?_)
      (fun x e y _ _ h3 => ⟨?_, rfl, h3⟩)
    · simp only [windowEvent, State.setEnc_drum, State.setPanel_drum, hb]
      exact if_neg (by omega)
    · exact settle_unchanged rfl rfl rfl rfl rfl rfl rfl rfl rfl rfl rfl
    · exact setPanel_only _ (by decide) (setDrum_only _ (by decide) (setEnc_only _ (by decide)
        (setPanel_only _ (by decide) (Only.refl _ _))))
  · have hscan : ∀ v : State, (enterStopped v).scan = v.scan := fun v =>
      (enterStopped_only (ps := [.drum, .tables]) (by decide) (by decide) (Only.refl _ _)).scan (by decide)
    refine window_event hw hu (d := fun x e => enterStopped ((s.setPanel x).setEnc e)) (fun x e _ => ?_)
      (fun x e => hscan _) (fun x e => ?_) (fun x e y _ _ _ => ?_)
    · simp only [windowEvent, State.setEnc_drum, State.setPanel_drum, hb]
      exact if_pos hp
    · exact settle_stopped (fun p => by cases p <;> rfl) rfl rfl rfl rfl (fun p => by cases p <;> rfl) hb hd
    · obtain ⟨n, tb, e, -⟩ := enterStopped_eq ((s.setPanel x).setEnc e)
      rw [e]
      refine ⟨?_, rfl, rfl, rfl, rfl⟩
      exact setPanel_only _ (by decide) (setTables_only _ (by decide) (setDrum_only _ (by decide)
        (setEnc_only _ (by decide) (setPanel_only _ (by decide) (Only.refl _ _)))))

/-! ### The edges of regulation (R10, R11; O13) -/

/-- A drum that is too fast at a window event is cut off, whatever the scanner and the head then do (R11, R15). -/
theorem overspeed_cuts {c : Instr} {s : State} {b : Nat} {prev : Tick} {period : Nat} (h : WindowAt c s b prev period)
    (hs : s.drum.state = .tracking ∨ s.drum.state = .locked) (hp : 2 * period < (standardInForce s).w) (x : Panel) :
    ∃ e : Encoder, counted c (s.setPanel x) = enterCutoff .overspeed ((s.setPanel x).setEnc e) := by
  obtain ⟨e, hc, -⟩ := (h.setPanel x).counted
  have hr : regulatedWindow period ((s.setPanel x).setEnc e) = enterCutoff .overspeed ((s.setPanel x).setEnc e) := by
    rw [regulatedWindow, if_pos (show 2 * period < (standardInForce ((s.setPanel x).setEnc e)).w from hp)]
    exact drumFault_acts (by rcases hs with hs | hs <;> rw [State.setEnc_drum, State.setPanel_drum, hs] <;> rfl)
  refine ⟨e, hc.trans ?_⟩
  rcases hs with hs | hs <;> simp only [windowEvent, State.setEnc_drum, State.setPanel_drum, hs, hr]

/-- Settles O13: the start of TRACKING, a window too long for it, OVERSPEED. -/
theorem windowEventsAtTheEdges : Obligations.WindowEventsAtTheEdges := by
  intro c s b prev period hw
  refine ⟨fun hs hu hd hp => ?_, fun hs hu hp => ?_, fun hs hp => ?_⟩
  · refine window_event hw hu (d := fun x e => enterTracking ((s.setPanel x).setEnc e)) (fun x e _ => ?_)
      (fun _ _ => rfl) (fun x e => ?_) (fun x e y _ _ _ => ⟨?_, rfl, rfl, rfl, rfl, rfl⟩)
    · simp only [windowEvent, State.setEnc_drum, State.setPanel_drum, hs]
      exact if_pos hp
    · refine settle_drive_lit (fun p => by cases p <;> rfl) (fun h => h) ?_ (fun h1 h2 => ⟨h1, h2⟩) ?_ (fun h => ?_) (fun h => h)
      · exact drive_eq (Or.inl rfl) (evaluateDemand_demanded hd (Or.inr (Or.inl rfl)))
      · exact lampDemand_congr rfl rfl (by simp [enterTracking, setStallDeadline, hs]) Iff.rfl
      · exact nomatch (attemptReady_granted' h).2.1
    · exact setPanel_only _ (by decide) (setDrum_only _ (by decide) (setDrum_only _ (by decide)
        (setReg_only _ (by decide) (setEnc_only _ (by decide) (setPanel_only _ (by decide) (Only.refl _ _))))))
  · refine window_event hw hu (d := fun x e => (s.setPanel x).setEnc e) (fun x e _ => ?_)
      (fun _ _ => rfl) (fun x e => settle_unchanged rfl rfl rfl rfl rfl rfl rfl rfl rfl rfl rfl)
      (fun x e y h1 h2 _ => ⟨?_, h1, h2⟩)
    · simp only [windowEvent, State.setEnc_drum, State.setPanel_drum, hs]
      exact if_neg (Nat.not_le.2 hp)
    · exact setPanel_only _ (by decide) (setEnc_only _ (by decide) (setPanel_only _ (by decide) (Only.refl _ _)))
  · refine event_next hw.exec fun x y => ?_
    obtain ⟨e, he⟩ := overspeed_cuts hw hs hp x
    have hd : (swept c (counted c (s.setPanel x))).drum = cutoffDrum .overspeed s.drum := by
      rw [(swept_frame c _).drum (by decide), he]
      exact enterCutoff_drum _ _
    obtain ⟨k, -⟩ := settle_cutoff (s0 := s.setPanel x) (congrArg Drum.state hd)
    exact ⟨congrArg Drum.state (k.trans hd), congrArg Drum.lastFault (k.trans hd)⟩

end Sys2Proof.Machine

/-! ## The idle step -/

namespace Sys2Proof.Machine

/-! ### Expiries of a tick (log 4) -/

theorem takeDue_none {due : State → Option Instr} {s : State} (h : due s = none) : takeDue due s = s := by
  simp [takeDue, h]

theorem takeDue_some {due : State → Option Instr} {s : State} {c : Instr} (h : due s = some c) :
    takeDue due s = effect c s := by
  simp [takeDue_eq, h]

theorem foldl_none {l : List (State → Option Instr)} {s : State} (h : ∀ due ∈ l, due s = none) :
    l.foldl (fun s due => takeDue due s) s = s := by
  induction l with
  | nil => rfl
  | cons due rest ih =>
    rw [List.foldl_cons, takeDue_none (h _ List.mem_cons_self)]
    exact ih fun d hd => h d (List.mem_cons_of_mem _ hd)

/-- A timer with more than one tick left does not end with the next. -/
theorem whenEnded_down {t : Timer} (i : Option Instr) (h : t ≠ some 0 ∧ t ≠ some 1) : whenEnded (Timer.down t) i = none := by
  have he : Timer.ended (Timer.down t) = false := by
    cases t with
    | none => rfl
    | some n =>
      have h0 : n ≠ 0 := fun hn => h.1 (hn ▸ rfl)
      have h1 : n ≠ 1 := fun hn => h.2 (hn ▸ rfl)
      have : n - 1 ≠ 0 := by omega
      simp [Timer.ended, Timer.down, this]
  simp [whenEnded, he]

/-- A turnaround timer with more than one tick left does not end with the next. -/
theorem turnaround_down {x : Turnaround} (i : Instr) (h : x ≠ .running 0 ∧ x ≠ .running 1) :
    whenTrue (decide (x.down = .running 0)) i = none := by
  cases x with
  | stopped => rfl
  | held => rfl
  | running n =>
    have h0 : n ≠ 0 := fun hn => h.1 (hn ▸ rfl)
    have h1 : n ≠ 1 := fun hn => h.2 (hn ▸ rfl)
    have : n - 1 ≠ 0 := by omega
    simp [whenTrue, Turnaround.down, this]

/-- The drive's expiries, before the end of the PWM cycle. -/
def driveExpiries : List (State → Option Instr) :=
  [ fun s => whenTrue (decide (s.drum.stallDeadline = some s.now)) .stallDeadline,
    fun s => whenEnded s.drum.spinupTimer (some .spinupTimerExpiry),
    fun s => whenEnded s.drum.brakingTimer (some .brakingTimerExpiry),
    fun s => whenEnded s.drum.silenceTimer (some .windowSilenceTimerExpiry),
    fun s => whenEnded s.drum.rampTimer (some .rampTick) ]

/-- The end of the PWM cycle (R19). -/
def cycleExpiry : State → Option Instr := fun s => whenTrue (decide (s.drum.cycleLen ≤ s.drum.cycleCount)) .cycleEnd

/-- The expiries of the other blocks, between the end of the PWM cycle and that of the second. -/
def blockExpiries : List (State → Option Instr) :=
  [ fun s => whenEnded s.lamp.warmTimer (some .lampWarmTimerExpiry),
    fun s => whenEnded s.head.stepTimer (some .stepTimerExpiry),
    fun s => whenTrue (s.sender.cadenceOn && decide (revTicks s ≤ s.sender.acc)) .cadenceEvent,
    fun s => whenEnded s.portA.loopTimer (some (.loopLossTimerExpiry .a)),
    fun s => whenEnded s.portB.loopTimer (some (.loopLossTimerExpiry .b)),
    fun s => whenEnded s.portA.breakTimer (some (.breakTimerExpiry .a)),
    fun s => whenEnded s.portB.breakTimer (some (.breakTimerExpiry .b)),
    fun s => whenEnded s.sender.stageTimer (stageCommand s.sender.state),
    fun s => whenTrue (decide (s.portA.turn = .running 0)) (.turnaroundTimerExpiry .a),
    fun s => whenTrue (decide (s.portB.turn = .running 0)) (.turnaroundTimerExpiry .b),
    fun s => whenEnded s.pics.receiptTimer (some .receiptTimerExpiry),
    fun s => whenEnded s.slips.dotTimer (dotCommand s.slips.phase),
    fun s => whenEnded s.slips.coolTimer (some .coolTimerExpiry),
    fun s => whenEnded s.slips.paperTimer (some .paperTimerExpiry) ]

/-- The end of the second (R174). -/
def secondExpiry : State → Option Instr := fun s => whenTrue (decide (1000000 ≤ s.clock.sub)) .clockSecond

theorem expiries_eq : expiries = driveExpiries ++ (cycleExpiry :: (blockExpiries ++ [secondExpiry])) := rfl

theorem driveExpiries_none {s : State} (h : NoneDue s) : ∀ due ∈ driveExpiries, due (countTick s) = none := by
  have hs : (countTick s).drum.stallDeadline ≠ some (countTick s).now := h.stall
  have hd := h.drum
  simp only [List.forall_mem_cons] at hd
  obtain ⟨h1, h2, h3, h4, -⟩ := hd
  simp only [driveExpiries, List.forall_mem_cons]
  exact ⟨by simp [whenTrue, hs], whenEnded_down _ h1, whenEnded_down _ h3, whenEnded_down _ h4, whenEnded_down _ h2,
    fun _ hn => nomatch hn⟩

/-- Whatever the drive then holds, no other block has an expiry. -/
theorem blockExpiries_none {s : State} (h : NoneDue s) (d : Drum) :
    ∀ due ∈ blockExpiries, due ((countTick s).setDrum d) = none := by
  have hc : ((countTick s).sender.cadenceOn && decide (revTicks s ≤ (countTick s).sender.acc)) = false := by
    cases hon : s.sender.cadenceOn with
    | false => simp [countTick, Sender.tick, hon]
    | true =>
      have := h.cadence hon
      simp [countTick, Sender.tick, hon, this]
  have ho := h.optics
  have hs := h.slips
  have hl := h.lines
  simp only [List.forall_mem_cons] at ho hs hl
  obtain ⟨o1, o2, o3, o4, -⟩ := ho
  obtain ⟨s1, s2, s3, -⟩ := hs
  obtain ⟨a1, a2, -⟩ := hl .a
  obtain ⟨b1, b2, -⟩ := hl .b
  simp only [blockExpiries, List.forall_mem_cons]
  refine ⟨whenEnded_down _ o1, whenEnded_down _ o2, ?_, whenEnded_down _ a1, whenEnded_down _ b1, whenEnded_down _ a2,
    whenEnded_down _ b2, whenEnded_down _ o3, turnaround_down _ (h.turn .a), turnaround_down _ (h.turn .b),
    whenEnded_down _ o4, whenEnded_down _ s1, whenEnded_down _ s2, whenEnded_down _ s3, fun _ hn => nomatch hn⟩
  exact if_neg (by rw [show (((countTick s).setDrum d).sender.cadenceOn &&
    decide (revTicks ((countTick s).setDrum d) ≤ ((countTick s).setDrum d).sender.acc)) = false from hc]; decide)

/-- The drive after a tick in which nothing else of it is due. -/
def tickedDrum (s : State) : Drum :=
  if s.drum.cycleLen ≤ s.drum.cycleCount + 16 then (cycleEnd (countTick s)).drum else s.drum.tick

/-- The clock after a tick. -/
def tickedClock (s : State) : Clock :=
  if 1000000 ≤ s.clock.sub + 1 then nextSecond { s.clock with sub := s.clock.sub + 1 }
  else { s.clock with sub := s.clock.sub + 1 }

/-- A tick in which nothing is due but the ends of the PWM cycle and of the second. -/
theorem tick_quiet {s : State} (h : NoneDue s) (hp : panelTransmit s = s) :
    tick s = ((countTick s).setDrum (tickedDrum s)).setClock (tickedClock s) := by
  have hcycle : takeDue cycleExpiry (countTick s) = (countTick s).setDrum (tickedDrum s) := by
    unfold tickedDrum
    split
    · rename_i hc
      exact takeDue_some (due := cycleExpiry) (c := .cycleEnd) (if_pos (decide_eq_true hc))
    · rename_i hc
      exact takeDue_none (if_neg fun ht => hc (of_decide_eq_true ht))
  have hsecond : takeDue secondExpiry ((countTick s).setDrum (tickedDrum s)) =
      ((countTick s).setDrum (tickedDrum s)).setClock (tickedClock s) := by
    unfold tickedClock
    split
    · rename_i hc
      exact takeDue_some (due := secondExpiry) (c := .clockSecond) (if_pos (decide_eq_true hc))
    · rename_i hc
      exact takeDue_none (if_neg fun ht => hc (of_decide_eq_true ht))
  rw [tick, hp, expiries_eq, List.foldl_append, foldl_none (driveExpiries_none h), List.foldl_cons, hcycle,
    List.foldl_append, foldl_none (blockExpiries_none h _), List.foldl_cons, List.foldl_nil, hsecond]

/-- A transmitter that is busy, or has nothing to send, does nothing. -/
theorem panelTransmit_idle {s : State} (h : s.panel.tx ≠ none ∨ (s.panel.notice = none ∧ s.panel.changed = false)) :
    panelTransmit s = s := by
  unfold panelTransmit
  cases hx : s.panel.tx with
  | some r => rfl
  | none =>
    rcases h with h | ⟨hn, hc⟩
    · exact absurd hx h
    · simp [hn, hc]

theorem Turnaround.down_eq (x : Turnaround) : x.down = match x with
    | .running n => .running (n - 1)
    | other => other := by
  cases x <;> rfl

/-! ### The step with no command waiting (O60) -/

theorem eligible_of {s : State} (h : ∀ p, (s.port p).activity ≠ .reporting ∧ (s.port p).rx.state = .hunting) :
    eligible s = true := by
  have ha : s.portA.activity ≠ .reporting ∧ s.portA.rx.state = .hunting := h .a
  have hb : s.portB.activity ≠ .reporting ∧ s.portB.rx.state = .hunting := h .b
  simp [eligible, Port.inReception, ha, hb]

theorem not_eligible_of {s : State} {p : PortId} (h : (s.port p).activity = .reporting ∨ (s.port p).rx.state ≠ .hunting) :
    eligible s = false := by
  cases p
  · have h : s.portA.activity = .reporting ∨ s.portA.rx.state ≠ .hunting := h
    rcases h with h | h <;> simp [eligible, Port.inReception, h]
  · have h : s.portB.activity = .reporting ∨ s.portB.rx.state ≠ .hunting := h
    rcases h with h | h <;> simp [eligible, Port.inReception, h]

/-- With no command waiting and no order to be executed a step is a tick. -/
theorem step_ticks {s : State} (hp : s.pending = [])
    (h : s.orders = [] ∨ ∃ p, (s.port p).activity = .reporting ∨ (s.port p).rx.state ≠ .hunting) :
    step s = .next (tick s) := by
  have hi : internalStep s = none := by
    unfold internalStep
    rcases h with h | ⟨p, h⟩
    · rw [h]
    · split
      · rw [not_eligible_of h]; rfl
      · rfl
  simp [step, hp, idle, hi]

/-- Settles O60: the eligible order, else the tick. -/
theorem idleStep : Obligations.IdleStep := by
  refine ⟨fun s o hp ho h => ?_, fun s hp ho hn ht => ?_⟩
  · have hi : internalStep s = some (orderCommand o.kind) := by
      obtain ⟨rest, hr⟩ : ∃ rest, s.orders = o :: rest := List.head?_eq_some_iff.1 ho
      simp [internalStep, hr, eligible_of h]
    simp [step, hp, idle, hi]
  · refine ⟨_, (step_ticks hp ho).trans (congrArg _ (tick_quiet hn (panelTransmit_idle ht))), ?_, fun hc => ?_,
      fun hc => ?_, fun hc => ?_, fun hc => ?_⟩
    · refine ⟨?_, rfl, rfl, rfl, fun p => ?_, rfl, rfl, rfl⟩
      · refine setClock_only _ (by decide) (setDrum_only _ (by decide) ?_)
        intro p hp
        cases p <;> first | rfl | exact absurd hp (by decide)
      · have k : (countTick s).port p = (s.port p).tick := by cases p <;> rfl
        rw [State.setClock_port, State.setDrum_port, k]
        unfold Port.tick
        rw [Turnaround.down_eq]
        rfl
    · exact if_neg (Nat.not_le.2 hc)
    · exact if_pos hc
    · exact if_neg (Nat.not_le.2 hc)
    · show exec .clockSecond s = .next { s with clock := tickedClock s }
      rw [tickedClock, if_pos hc]
      rfl

end Sys2Proof.Machine

/-! ## The state after power-on (O8) -/

namespace Sys2Proof.Machine

/-- Every slot is EMPTY at power-on (R136). -/
theorem reset_rec {i : Nat} {r : PicRecord} (h : State.reset.rec? i = some r) : r = recEmpty :=
  List.eq_of_mem_replicate (List.mem_of_getElem? h)

theorem reset_owed (i : Nat) : (owedOf State.reset i).isEmpty = true := by
  have h : ∀ o ∈ List.replicate 8 (⟨false, false⟩ : OwedSet), o.isEmpty = true := by decide
  rcases ho : State.reset.slips.owed[i]? with _ | o
  · simp [owedOf, ho, OwedSet.isEmpty]
  · simpa [owedOf, ho] using h o (List.mem_of_getElem? ho)

theorem reset_port (p : PortId) : State.reset.port p = portReset := by cases p <;> rfl

theorem portReset_ok : PortOk portReset := ⟨by decide, fun _ => rfl, fun _ => rfl⟩

theorem reset_links : Links State.reset where
  portA := portReset_ok
  portB := portReset_ok
  carries p := by rw [reset_port]; exact ⟨fun h => (nomatch h), fun h => nomatch h.1⟩
  attempt := rfl
  scanner h := absurd rfl h
  head h := nomatch h
  cadence h := nomatch h
  law _ := rfl
  flushed h := nomatch h

theorem reset_footing : Footing State.reset where
  captures h := by simp [State.reset] at h
  duties h := by simp [State.reset] at h
  counters := ⟨fun _ => rfl, fun _ => rfl⟩
  unlocked := ⟨by decide, fun h => nomatch h⟩
  revolution h := nomatch h
  sample h := nomatch h
  entries := ⟨fun _ => rfl, fun h => nomatch h⟩
  travel := ⟨by decide, fun h => nomatch h⟩
  attached h := nomatch h
  request h := absurd rfl h

theorem reset_filed : Filed State.reset where
  active i r hr hne _ := absurd (congrArg PicRecord.state (reset_rec hr)) hne
  mounted i h := nomatch h
  numbers i j r q n hr hq hne := absurd (congrArg PicRecord.state (reset_rec hr)) hne
  order := List.nodup_nil
  ordered i := by
    refine ⟨fun h => (nomatch h), fun ⟨r, hr, hf⟩ => ?_⟩
    rw [reset_rec hr] at hf
    exact nomatch hf
  codes r hr := by
    rw [List.eq_of_mem_replicate hr]
    exact List.nodup_nil
  status i r hr hf := by
    rw [reset_rec hr] at hf
    exact nomatch hf
  unasked r hr _ := by
    rw [List.eq_of_mem_replicate hr]
    exact ⟨rfl, rfl⟩
  requests q hq := nomatch hq
  owers i h := by
    rw [reset_owed] at h
    exact nomatch h
  owed h := by
    obtain ⟨o, ho, he⟩ := h
    rw [List.eq_of_mem_replicate ho] at he
    exact nomatch he

theorem reset_settled : Settled State.reset where
  spins h := by simp [State.reset] at h
  brakes h := nomatch h
  stopped _ _ _ := rfl
  lampOn h := nomatch h
  lampOff _ := Or.inl rfl
  head h := nomatch h
  attempt := rfl
  lineup := rfl
  reports _ p := by rw [reset_port]; rfl

/-- Settles O8: the invariants by field, the values by evaluation. -/
theorem resetMeetsInvariants : Obligations.ResetMeetsInvariants := by
  refine ⟨⟨reset_ranges, reset_links, reset_footing, reset_filed, reset_settled⟩, rfl, rfl, rfl, rfl, rfl, rfl, rfl, rfl,
    rfl, rfl, rfl, rfl, rfl, rfl, rfl, rfl, rfl, rfl, fun p => ?_, rfl, rfl, fun r hr => ?_, rfl, rfl, rfl, rfl, rfl⟩
  · rw [reset_port]
    exact ⟨rfl, rfl, rfl, rfl⟩
  · rw [List.eq_of_mem_replicate hr]
    rfl

end Sys2Proof.Machine

/-! ## Orders at the head of the queue: execution, answers, refusals; MECH CLEAR and RESET MECH -/

namespace Sys2Proof.Machine

/-! ### What an answer leaves of the ports (R78, R79, R109) -/

/-- A state with its two ports put in place. -/
def ported (a b : Port) (s : State) : State := (s.setPort .a a).setPort .b b

theorem ported_setPort (a b : Port) (s : State) (p : PortId) (x : Port) :
    ∃ a' b', (ported a b s).setPort p x = ported a' b' s := by
  cases p
  · exact ⟨x, b, rfl⟩
  · exact ⟨a, x, rfl⟩

theorem ported_only {ps : List Part} {s t : State} (a b : Port) (h1 : Part.portA ∈ ps) (h2 : Part.portB ∈ ps)
    (h : Only ps s t) : Only ps s (ported a b t) := setPort_only .b b h2 (setPort_only .a a h1 h)

/-- What a report's start on a port leaves of every port. -/
theorem reportStart_port (p q : PortId) (s : State) : ((reportStart p s).port q).cause = (s.port q).cause ∧
    ((reportStart p s).port q).isIdle = (s.port q).isIdle ∧ ((reportStart p s).port q).list = (s.port q).list := by
  unfold reportStart
  dsimp only
  split
  · rename_i h
    by_cases hq : p = q
    · subst hq
      rw [State.setPort_port_same]
      exact ⟨rfl, by simp [Port.isIdle, h.1], rfl⟩
    · rw [State.setPort_port_other _ _ _ _ hq]
      exact ⟨rfl, rfl, rfl⟩
  · exact ⟨rfl, rfl, rfl⟩

theorem reportStart_ported (p : PortId) (a b : Port) (s : State) : ∃ a' b', reportStart p (ported a b s) = ported a' b' s := by
  unfold reportStart
  dsimp only
  split
  · exact ported_setPort a b s p _
  · exact ⟨a, b, rfl⟩

theorem startReports_port (q : PortId) (s : State) : ((startReports s).port q).cause = (s.port q).cause ∧
    ((startReports s).port q).isIdle = (s.port q).isIdle ∧ ((startReports s).port q).list = (s.port q).list := by
  unfold startReports
  split
  · exact ⟨rfl, rfl, rfl⟩
  · obtain ⟨c1, i1, l1⟩ := reportStart_port .a q s
    obtain ⟨c2, i2, l2⟩ := reportStart_port .b q (reportStart .a s)
    exact ⟨c2.trans c1, i2.trans i1, l2.trans l1⟩

theorem startReports_ported (a b : Port) (s : State) : ∃ a' b', startReports (ported a b s) = ported a' b' s := by
  unfold startReports
  split
  · exact ⟨a, b, rfl⟩
  · obtain ⟨a1, b1, e⟩ := reportStart_ported .a a b s
    rw [e]
    exact reportStart_ported .b a1 b1 s

/-- The ports `a` and `b` are those of `s` after the answer `r` to the order `o`: of a report list its reservation's place,
of a port's state nothing that the evaluations read. -/
structure Posted (o : Order) (r : Report) (s : State) (a b : Port) : Prop where
  cause : ∀ p, ((ported a b s).port p).cause = (s.port p).cause
  idle : ∀ p, ((ported a b s).port p).isIdle = (s.port p).isIdle
  list : ∀ p, ((ported a b s).port p).list =
    if o.port = p ∧ o.broadcast = false ∧ o.reserved = true then replaceReservation r (s.port p).list else (s.port p).list

theorem placeAnswer_port (o : Order) (r : Report) (s : State) (p : PortId) :
    ((placeAnswer o r s).port p).cause = (s.port p).cause ∧ ((placeAnswer o r s).port p).isIdle = (s.port p).isIdle ∧
      ((placeAnswer o r s).port p).list = if o.port = p ∧ o.broadcast = false ∧ o.reserved = true
        then replaceReservation r (s.port p).list else (s.port p).list := by
  unfold placeAnswer
  split
  · rename_i h
    by_cases hp : o.port = p
    · subst hp
      simp only [State.setPort_port_same, h, and_self, if_true]
      exact ⟨trivial, rfl, trivial⟩
    · simp only [State.setPort_port_other _ _ _ _ hp, hp, false_and, if_false, and_self]
  · rename_i h
    exact ⟨rfl, rfl, (if_neg fun hf => h hf.2).symm⟩

/-- An answered order leaves two ports put in place. -/
theorem startReports_placeAnswer (o : Order) (r : Report) (s : State) :
    ∃ a b, startReports (placeAnswer o r s) = ported a b s ∧ Posted o r s a b := by
  obtain ⟨a, b, h⟩ : ∃ a b, placeAnswer o r s = ported a b s := by
    unfold placeAnswer
    split
    · exact ported_setPort s.portA s.portB s _ _
    · exact ⟨s.portA, s.portB, rfl⟩
  obtain ⟨a', b', h'⟩ := startReports_ported a b s
  have e : startReports (placeAnswer o r s) = ported a' b' s := by rw [h, h']
  refine ⟨a', b', e, fun p => ?_, fun p => ?_, fun p => ?_⟩ <;> rw [← e]
  · exact (startReports_port p _).1.trans (placeAnswer_port o r s p).1
  · exact (startReports_port p _).2.1.trans (placeAnswer_port o r s p).2.1
  · exact (startReports_port p _).2.2.trans (placeAnswer_port o r s p).2.2

/-! ### The execution of the head order (R108, R109) -/

/-- The state an order at the head of the queue is executed in: it has left the queue. -/
def taken (s : State) (x : Panel) : State := (s.setPanel x).setOrders s.orders.tail

@[simp] theorem taken_port (s : State) (x : Panel) (p : PortId) : (taken s x).port p = s.port p := by cases p <;> rfl
@[simp] theorem onDrumState_taken (s : State) (x : Panel) : onDrumState (taken s x) = onDrumState s := rfl
@[simp] theorem onDrumState_ported (a b : Port) (s : State) : onDrumState (ported a b s) = onDrumState s := rfl

theorem taken_only {ps : List Part} (s : State) (x : Panel) (h1 : Part.orders ∈ ps) (h2 : Part.panel ∈ ps) :
    Only ps s (taken s x) := setOrders_only _ h1 (setPanel_only _ h2 (Only.refl _ _))

theorem HeadOrder.execute {k : OrderKind} {o : Order} {s : State} (h : HeadOrder k o s)
    (owner : Order → State → State × Verdict) (x : Panel) : executeHead k owner (s.setPanel x) =
      startReports (placeAnswer o (answerOf k o.tag (owner o (taken s x)).2) (owner o (taken s x)).1) := by
  obtain ⟨rest, hr⟩ : ∃ rest, s.orders = o :: rest := List.head?_eq_some_iff.1 h.head
  have ht : taken s x = (s.setPanel x).setOrders rest := by rw [taken, hr, List.tail_cons]
  have he : eligible (s.setPanel x) = true := eligible_of h.quiet
  have hl : lengthOk o.kind o.payload = true := h.kind ▸ h.length
  unfold executeHead
  rw [State.setPanel_orders, hr]
  dsimp only
  rw [if_pos ⟨he, h.kind⟩, executeOrder, if_pos hl, ht, h.kind]

/-- A state with the order gone and its answer on the ports. -/
theorem Posted.answered {o : Order} {r : Report} {s u v : State} {a b : Port} (hp : Posted o r u a b)
    (hu : ∀ p, (u.port p).list = (s.port p).list) (hv : v.orders = s.orders.tail)
    (hl : ∀ p, (v.port p).list = ((ported a b u).port p).list) : Answered o r s v where
  queue := hv
  list := by rw [hl, hp.list, hu]; simp
  other := by
    rw [hl, hp.list, hu]
    exact if_neg fun h => (by cases o.port <;> decide : o.port ≠ o.port.other) h.1

/-- An order whose owner keeps the ports, as an event: what the owner `w` leaves, with the answered ports in place, goes
through the evaluations. -/
theorem order_event {k : OrderKind} {o : Order} {s : State} {c : Instr} {owner : Order → State → State × Verdict}
    {P : State → Prop} (h : HeadOrder k o s) (hc : exec c s = .next (event (executeHead k owner) s))
    (hP : ∀ x y a b, Posted o (answerOf k o.tag (owner o (taken s x)).2) (owner o (taken s x)).1 a b →
      P ((settle (s.setPanel x) (ported a b (owner o (taken s x)).1)).setPanel y)) : ∃ t, exec c s = .next t ∧ P t := by
  refine event_next hc fun x y => ?_
  obtain ⟨a, b, e, hp⟩ := startReports_placeAnswer o (answerOf k o.tag (owner o (taken s x)).2) (owner o (taken s x)).1
  rw [h.execute, e]
  exact hP x y a b hp

/-- An order that is answered and has no other effect. -/
theorem answered_event {k : OrderKind} {o : Order} {s : State} {c : Instr} {owner : Order → State → State × Verdict}
    {v : Verdict} (h : HeadOrder k o s) (hc : exec c s = .next (event (executeHead k owner) s))
    (hv : ∀ x, owner o (taken s x) = (taken s x, v)) :
    ∃ t, exec c s = .next t ∧ Answered o (answerOf k o.tag v) s t ∧ Only [.orders, .portA, .portB, .panel] s t := by
  refine order_event h hc fun x y a b hp => ?_
  rw [hv x] at hp ⊢
  have hf : ∀ p, ((ported a b (taken s x)).port p).inFault = (s.port p).inFault := fun p => by
    simp only [Port.inFault, hp.cause, taken_port]
  have hi : ∀ p, ((ported a b (taken s x)).port p).isIdle = (s.port p).isIdle := fun p => by
    rw [hp.idle, taken_port]
  have hq : settle (s.setPanel x) (ported a b (taken s x)) = ported a b (taken s x) := by
    refine settle_unchanged rfl rfl rfl rfl rfl rfl rfl (hf .a).symm (hf .b).symm ?_ ?_
    · have hc : chosenPort (ported a b (taken s x)) = chosenPort s := chosenPort_congr rfl hf
      simp only [attemptReady, hc, hi]
      rw [show chosenPort (s.setPanel x) = chosenPort s from chosenPort_congr rfl fun p => by rw [State.setPanel_port]]
      simp only [State.setPanel_port]
      rfl
    · exact (lineupReady_congr (s := s.setPanel x) (t := ported a b (taken s x)) rfl fun p => (hi p).trans (congrArg Port.isIdle (State.setPanel_port s x p)).symm).symm
  rw [hq]
  refine ⟨hp.answered (fun p => by rw [taken_port]) rfl fun p => by rw [State.setPanel_port], ?_⟩
  exact setPanel_only _ (by decide) (ported_only a b (by decide) (by decide) (taken_only s x (by decide) (by decide)))

/-- An order that is refused (R109, R116). -/
theorem refused_event {k : OrderKind} {o : Order} {s : State} {c : Instr} {owner : Order → State → State × Verdict}
    {r : Reason} (h : HeadOrder k o s) (hc : exec c s = .next (event (executeHead k owner) s))
    (hv : ∀ x, owner o (taken s x) = (taken s x, .refuse r)) : ∃ t, exec c s = .next t ∧ Refused o r s t := by
  obtain ⟨t, ht, ha, hk⟩ := answered_event h hc hv
  exact ⟨t, ht, h.kind ▸ ha, hk⟩

/-- A plain ACK. -/
theorem answerOf_accepted {k : OrderKind} {o : Order} {s : State} (h : HeadOrder k o s) :
    answerOf k o.tag accepted = ackOf o 0 := by
  simp [accepted, answerOf, ackReport, ackOf, h.kind, flag, le1]

/-! ### MECH CLEAR and RESET MECH (R17, R58; O47) -/

/-- The head right after the first step of a rewind from FAULT (R56, R58). -/
def returningHead (t : Tables) (x : Head) : Head :=
  { x with
    state := .rewinding, pos := x.pos - 1, owed := 0, stepTimer := some t.scan.fastStepInterval, rewindCount := 1
    rewindLimit := t.scan.travelLimit + t.scan.rewindMargin }

theorem rewindFromFault_steps {s : State} (hf : s.head.state = .fault) (hh : s.pins.homeAsserted = false)
    (hl : 2 ≤ s.tables.scan.travelLimit + s.tables.scan.rewindMargin) :
    rewindFromFault s = s.setHead (returningHead s.tables s.head) := by
  have h0 : s.tables.scan.travelLimit + s.tables.scan.rewindMargin ≠ 0 := by omega
  have h1 : ¬ s.tables.scan.travelLimit + s.tables.scan.rewindMargin ≤ 0 + 1 := by omega
  simp only [rewindFromFault, hf, if_true, enterRewind, State.setHead_pins, hh, Bool.false_eq_true, if_false, h0,
    rewindStep, State.setHead_head, h1]
  rfl

/-- The request leaves the drive and the tables as the drive's own return makes them, and the head on its way home. -/
theorem mechClear_returns {s : State} (hd : s.drum.state = .cutoff → s.pins.coverClosed = true) (hf : s.head.state = .fault)
    (hh : s.pins.homeAsserted = false) (hl : 2 ≤ s.tables.scan.travelLimit + s.tables.scan.rewindMargin) :
    ∃ d tb, mechClear s = some (((s.setDrum d).setTables tb).setHead (returningHead s.tables s.head)) ∧
      tb.standards = s.tables.standards ∧ d.lastFault = s.drum.lastFault ∧ d.spinLatch = s.drum.spinLatch ∧
      (s.drum.state = .cutoff → d.state = .stopped) ∧ (s.drum.state ≠ .cutoff → d = s.drum) := by
  by_cases hc : s.drum.state = .cutoff
  · obtain ⟨n, tb, e, ht, hs, -⟩ := enterStopped_eq s
    have k := rewindFromFault_steps (s := (s.setDrum { stoppedDrum s.drum with cycleLen := n }).setTables tb) hf hh
      (by rw [State.setTables_tables, hs]; exact hl)
    refine ⟨{ stoppedDrum s.drum with cycleLen := n }, tb, ?_, ht, rfl, rfl, fun _ => rfl, fun h => absurd hc h⟩
    rw [mechClear, if_neg (by simp [hd hc]), if_pos hc, e, k]
    simp only [State.setTables_tables, State.setTables_head, State.setDrum_head, returningHead, hs]
  · refine ⟨s.drum, s.tables, ?_, rfl, rfl, rfl, fun h => absurd h hc, fun _ => rfl⟩
    rw [mechClear, if_neg fun h => hc h.1, if_neg hc, rewindFromFault_steps hf hh hl]
    rfl

/-- A request with the drum out of CUTOFF and the head out of FAULT has nothing to do. -/
theorem mechClear_still {s : State} (hd : s.drum.state ≠ .cutoff) (hh : s.head.state ≠ .fault) : mechClear s = some s := by
  rw [mechClear, if_neg fun h => hd h.1, if_neg hd, rewindFromFault, if_neg hh]

theorem mechClear_refused {s : State} (hd : s.drum.state = .cutoff) (hc : s.pins.coverClosed = false) :
    mechClear s = none := if_pos ⟨hd, hc⟩

/-- After a head has begun its return, and the drum perhaps come to rest, the evaluations reach the lamp at most. -/
theorem settle_returning {s0 v : State} (hf : ∀ p, (v.port p).cause = (s0.port p).cause)
    (hi : ∀ p, (v.port p).isIdle = (s0.port p).isIdle) (hp : v.pics = s0.pics) (hs : v.sender = s0.sender)
    (hn : v.pins = s0.pins) (ht : v.tables.standards = s0.tables.standards) (hh : v.head.state = .rewinding)
    (hd : v.drum = s0.drum ∨ (v.drum.state = .stopped ∧ demand v = false)) : settle s0 v = lampEval s0 v := by
  have hf' : ∀ p, (v.port p).inFault = (s0.port p).inFault := fun p => by simp only [Port.inFault, hf]
  have ho : onDrumState v = onDrumState s0 := onDrumState_congr hp
  have hfa : v.portA.inFault = s0.portA.inFault := hf' .a
  have hfb : v.portB.inFault = s0.portB.inFault := hf' .b
  refine settle_drive hf' (fun h => by simpa [noPortLeft, bothFault, hfa, hfb, ho] using h) ?_
    (fun h => absurd (hh.symm.trans h) (by decide)) (fun h => ?_) (fun h => (lineupReady_congr hs hi).symm.trans h)
  · rw [standardEval_eq (Or.inl (standardKey_congr hp ht).symm)]
    rcases hd with hd | ⟨hd, hdm⟩
    · exact drumEval_same (demand_congr (by rw [hd]) ho).symm (by rw [hd]) (by rw [hn])
    · exact drumEval_eq (evaluateDemand_undemanded hdm (Or.inl hd))
  · obtain ⟨l, e⟩ := lampEval_lamp s0 v
    have := (attemptReady_granted' h).2.2.1
    rw [e, State.setLamp_head, hh] at this
    exact nomatch this

/-- What MECH CLEAR and RESET MECH have in common at the return: the state before the evaluations, with whatever ports and
queue the answer left. -/
theorem returned {s v t : State} {x : Panel} {d : Drum} {tb : Tables} {y : Panel}
    (hv : Only [.orders, .portA, .portB, .panel] s v) (hf : ∀ p, (v.port p).cause = (s.port p).cause)
    (hi : ∀ p, (v.port p).isIdle = (s.port p).isIdle) (ht : tb.standards = s.tables.standards)
    (hl : d.spinLatch = s.drum.spinLatch) (hc : s.drum.state = .cutoff → d.state = .stopped)
    (hn : s.drum.state ≠ .cutoff → d = s.drum) (hd : s.drum.state = .cutoff → demand s = false)
    (e : t = (settle (s.setPanel x) (((v.setDrum d).setTables tb).setHead (returningHead s.tables s.head))).setPanel y) :
    t.drum = d ∧ t.head = returningHead s.tables s.head ∧ t.orders = v.orders ∧ ∀ p, t.port p = v.port p := by
  have hp := hv.pics (by decide)
  have hq : settle (s.setPanel x) (((v.setDrum d).setTables tb).setHead (returningHead s.tables s.head)) =
      lampEval (s.setPanel x) (((v.setDrum d).setTables tb).setHead (returningHead s.tables s.head)) := by
    refine settle_returning (fun p => ?_) (fun p => ?_) hp (hv.sender (by decide)) (hv.pins (by decide)) ht rfl ?_
    · simpa using hf p
    · simpa using hi p
    · by_cases h : s.drum.state = .cutoff
      · refine Or.inr ⟨hc h, Eq.trans (demand_congr (s := s) hl ?_) (hd h)⟩
        exact onDrumState_congr hp
      · exact Or.inl (hn h)
  obtain ⟨l, hl⟩ := lampEval_lamp (s.setPanel x) (((v.setDrum d).setTables tb).setHead (returningHead s.tables s.head))
  rw [e, hq, hl]
  exact ⟨rfl, rfl, rfl, fun p => by simp⟩

/-- Settles O47: the refusal, the return, the request with nothing to do; each for the key and for the order. -/
theorem mechRequests : Obligations.MechRequests := by
  intro s c r hr
  refine ⟨fun hd hc => ?_, fun hd hf hh hl => ?_, fun hd hf => ?_⟩
  · rcases hr with ⟨rfl, rfl⟩ | ⟨rfl, o, rfl, ho⟩
    · obtain ⟨t, ht, hn⟩ := notice_event (c := .resetMech) (f := fun s => resetMechKey (panelHunting s)) (s := s)
        (k := .resetMech) (n := .coverOpen) rfl fun x => ⟨huntingPanel x, by
          rw [panelHunting_setPanel, resetMechKey, mechClear_refused (s := s.setPanel (huntingPanel x)) hd hc]⟩
      exact ⟨t, ht, fun o h => (nomatch h), fun _ => hn⟩
    · obtain ⟨t, ht, hn⟩ := refused_event (c := .mechClear) (owner := ownMechClear) (r := .coverOpen) ho rfl fun x => by
        rw [ownMechClear, mechClear_refused (s := taken s x) hd hc]
      exact ⟨t, ht, fun q h => Option.some.inj h ▸ hn, fun h => nomatch h⟩
  · rcases hr with ⟨rfl, rfl⟩ | ⟨rfl, o, rfl, ho⟩
    · refine event_next (f := fun s => resetMechKey (panelHunting s)) rfl fun x y => ?_
      obtain ⟨d, tb, e, h1, h2, h3, h4, h5⟩ := mechClear_returns (s := s.setPanel (huntingPanel x)) (fun h => (hd h).1) hf hh hl
      obtain ⟨k1, k2, -⟩ := returned (s := s) (v := s.setPanel (huntingPanel x)) (x := x) (y := y)
        (setPanel_only _ (by decide) (Only.refl _ _)) (fun p => by simp) (fun p => by simp) h1 h3 h4 h5
        (fun h => (hd h).2) rfl
      rw [panelHunting_setPanel, resetMechKey, e]
      refine ⟨fun o h => (nomatch h), fun h => ?_, fun h => ?_, ?_, ?_, ?_, ?_, ?_, ?_⟩
      · exact (congrArg Drum.state k1).trans (h4 h)
      · exact k1.trans (h5 h)
      · exact (congrArg Drum.lastFault k1).trans h2
      all_goals exact congrArg _ k2
    · refine order_event (owner := ownMechClear) ho rfl fun x y a b hp => ?_
      obtain ⟨d, tb, e, h1, h2, h3, h4, h5⟩ := mechClear_returns (s := taken s x) (fun h => (hd h).1) hf hh hl
      have hw : ownMechClear o (taken s x) =
        ((((taken s x).setDrum d).setTables tb).setHead (returningHead s.tables s.head), accepted) := by
        rw [ownMechClear, e]
        rfl
      rw [hw, answerOf_accepted ho] at hp
      rw [hw]
      have hport : ∀ p, ((ported a b (taken s x)).port p) =
        ((ported a b ((((taken s x).setDrum d).setTables tb).setHead (returningHead s.tables s.head))).port p) :=
        fun p => by cases p <;> rfl
      obtain ⟨k1, k2, k3, k4⟩ := returned (s := s) (v := ported a b (taken s x)) (x := x) (y := y)
        (ported_only a b (by decide) (by decide) (taken_only s x (by decide) (by decide)))
        (fun p => by rw [hport, hp.cause]; simp) (fun p => by rw [hport, hp.idle]; simp) h1 h3 h4 h5
        (fun h => (hd h).2) rfl
      refine ⟨fun q h => Option.some.inj h ▸ hp.answered (fun p => by simp) k3 (fun p => ?_), fun h => ?_, fun h => ?_,
        ?_, ?_, ?_, ?_, ?_, ?_⟩
      · exact (congrArg Port.list (k4 p)).trans (congrArg Port.list (hport p))
      · exact (congrArg Drum.state k1).trans (h4 h)
      · exact k1.trans (h5 h)
      · exact (congrArg Drum.lastFault k1).trans h2
      all_goals exact congrArg _ k2
  · rcases hr with ⟨rfl, rfl⟩ | ⟨rfl, o, rfl, ho⟩
    · refine event_next (f := fun s => resetMechKey (panelHunting s)) rfl fun x y => ?_
      rw [panelHunting_setPanel, resetMechKey, mechClear_still (s := s.setPanel (huntingPanel x)) hd hf]
      have k : Only [.panel] (s.setPanel x) (s.setPanel (huntingPanel x)) :=
        setPanel_only (t := s.setPanel x) _ (by decide) (Only.refl _ _)
      dsimp only
      rw [settle_quiet k (by decide)]
      exact ⟨fun o h => (nomatch h), setPanel_only _ (by decide) (setPanel_only _ (by decide) (Only.refl _ _))⟩
    · obtain ⟨t, ht, ha, hk⟩ := answered_event (c := .mechClear) (owner := ownMechClear) (v := accepted) ho rfl fun x => by
        rw [ownMechClear, mechClear_still (s := taken s x) hd hf]
      exact ⟨t, ht, fun q h => Option.some.inj h ▸ answerOf_accepted ho ▸ ha, hk⟩

end Sys2Proof.Machine

/-! ## GRANT: the checks, the record, and what the evaluations make of it -/

namespace Sys2Proof.Machine

/-! ### The checks of R140 -/

/-- The fields of a GRANT lie in their ranges (R111). -/
def GrantFieldsOk (o : Order) : Prop :=
  1 ≤ wordAt o.payload 0 ∧ wordAt o.payload 0 ≤ 9999 ∧ byteAt o.payload 3 ≤ 3 ∧ 1 ≤ byteAt o.payload 4 ∧
    byteAt o.payload 4 ≤ 3 ∧ byteAt o.payload 5 ≤ 1 ∧ 1 ≤ byteAt o.payload 6

/-- The grant part that a GRANT carries (R111). -/
def grantOf (o : Order) : Grant :=
  { port := portOfByte (o.payload.getD 2 0), standard := byteAt o.payload 3, allowed := byteAt o.payload 4
    policy := if byteAt o.payload 5 = 0 then .same else .alternate, wait := byteAt o.payload 6 }

theorem grantFields_ok {o : Order} (h : GrantFieldsOk o) : (grantFields o.payload).grant = some (grantOf o) := by
  obtain ⟨h1, h2, h3, h4, h5, h6, h7⟩ := h
  have hw : byteAt o.payload 6 ≤ 255 := Nat.le_of_lt_succ (o.payload.getD 6 0).isLt
  exact if_pos ⟨h1, h2, h3, h4, h5, h6, h7, hw⟩

theorem grantFields_bad {o : Order} (h : ¬ GrantFieldsOk o) : (grantFields o.payload).grant = none :=
  if_neg fun ⟨h1, h2, h3, h4, h5, h6, h7, _⟩ => h ⟨h1, h2, h3, h4, h5, h6, h7⟩

theorem ownGrant_cutoff {o : Order} {s : State} (h : s.drum.state = .cutoff) : ownGrant o s = (s, .refuse .drumCutoff) :=
  if_pos h

theorem ownGrant_bad {o : Order} {s : State} (hd : s.drum.state ≠ .cutoff) (h : ¬ GrantFieldsOk o) :
    ownGrant o s = (s, .refuse .badTableData) := by
  rw [ownGrant, if_neg hd, grantFields_bad h]

theorem ownGrant_ok {o : Order} {s : State} (hd : s.drum.state ≠ .cutoff) (h : GrantFieldsOk o) :
    ownGrant o s = grantOnDrum (wordAt o.payload 0) (grantOf o) s := by
  rw [ownGrant, if_neg hd, grantFields_ok h]
  rfl

/-- The on-drum record is that of the on-drum slot. -/
theorem onDrumRec_of {s : State} {slot : Nat} {r : PicRecord} (h : s.pics.onDrum = some slot) (hr : s.rec? slot = some r) :
    onDrumRec s = some r := by
  rw [onDrumRec, h, Option.bind_some, hr]

theorem onDrumState_rec {s : State} {slot : Nat} {r : PicRecord} (h : s.pics.onDrum = some slot) (hr : s.rec? slot = some r) :
    onDrumState s = r.state := by
  rw [onDrumState, onDrumRec_of h hr]
  rfl

/-- No picture on drum, or a FINISHED one (R140). -/
theorem grantOnDrum_noPicture {n : Nat} {g : Grant} {s : State} (h : onDrumState s = .empty ∨ onDrumState s = .finished) :
    grantOnDrum n g s = (s, .refuse .noPicture) := by
  unfold grantOnDrum
  split
  · rename_i slot r _ hr
    rw [onDrumState, hr] at h
    rcases h with h | h
    all_goals
      replace h : r.state = _ := h
      rw [h]
  · rfl

/-- A picture whose attempt is in progress, or waits for its receipts (R140). -/
theorem grantOnDrum_busy {n : Nat} {g : Grant} {s : State} (h : onDrumState s = .sending ∨ onDrumState s = .awaiting) :
    grantOnDrum n g s = (s, .refuse .wrongState) := by
  have hne : onDrumState s ≠ .empty := by rcases h with h | h <;> simp [h]
  unfold grantOnDrum
  split
  · rename_i slot r _ hr
    rw [onDrumState, hr] at h
    rcases h with h | h
    all_goals
      replace h : r.state = _ := h
      rw [h]
  · rename_i hn
    exfalso
    cases ho : s.pics.onDrum with
    | none => exact hne (by simp [onDrumState, onDrumRec, ho])
    | some slot =>
      cases hr : onDrumRec s with
      | none => exact hne (by simp [onDrumState, hr])
      | some r => exact hn slot r ho hr

theorem grantOnDrum_loaded {n slot : Nat} {g : Grant} {s : State} {r : PicRecord} (h : s.pics.onDrum = some slot)
    (hr : s.rec? slot = some r) (hs : r.state = .loaded) : grantOnDrum n g s = judgeGrant slot r n g s := by
  simp only [grantOnDrum, h, onDrumRec_of h hr, hs]

theorem grantOnDrum_granted {n slot : Nat} {g : Grant} {s : State} {r : PicRecord} (h : s.pics.onDrum = some slot)
    (hr : s.rec? slot = some r) (hs : r.state = .granted) : grantOnDrum n g s =
      if r.number ≠ some n then (s, .refuse .wrongState)
      else if r.grant = some g then (s, accepted)
      else judgeGrant slot r n g s := by
  simp only [grantOnDrum, h, onDrumRec_of h hr, hs]

section judge

variable {slot n : Nat} {r : PicRecord} {g : Grant} {s : State}

theorem judgeGrant_number (h : numberElsewhere s slot n = true) : judgeGrant slot r n g s = (s, .refuse .numberInUse) :=
  if_pos h

theorem judgeGrant_port (hn : numberElsewhere s slot n = false) (hp : (s.port g.port).cause ≠ .none) :
    judgeGrant slot r n g s = (s, .refuse .portFault) := by
  rw [judgeGrant, if_neg (by simp [hn]), if_pos (by simpa [Port.inFault] using hp)]

variable (hn : numberElsewhere s slot n = false) (hp : (s.port g.port).cause = .none)

include hn hp in
theorem judgeGrant_long
    (hl : s.tables.scan.travelLimit < s.tables.scan.startOffset + r.lines * s.tables.scan.stepsPerLine) :
    judgeGrant slot r n g s = (s, .refuse .pictureTooLong) := by
  rw [judgeGrant, if_neg (by simp [hn]), if_neg (by simp [Port.inFault, hp]), if_pos (by simpa [tooLong] using hl)]

variable (hl : ¬ s.tables.scan.travelLimit < s.tables.scan.startOffset + r.lines * s.tables.scan.stepsPerLine)

include hn hp hl in
theorem judgeGrant_loaded (hs : r.state = .loaded) : judgeGrant slot r n g s = (modRec slot (grantLoaded n g) s, accepted) := by
  rw [judgeGrant, if_neg (by simp [hn]), if_neg (by simp [Port.inFault, hp]), if_neg (by simpa [tooLong] using hl),
    if_neg (by simp [hs])]

include hn hp hl in
theorem judgeGrant_spent (hs : r.state = .granted) (ha : g.allowed ≤ r.attempts.length) :
    judgeGrant slot r n g s = (s, .refuse .noAttemptsLeft) := by
  rw [judgeGrant, if_neg (by simp [hn]), if_neg (by simp [Port.inFault, hp]), if_neg (by simpa [tooLong] using hl),
    if_pos hs, if_pos ha]

include hn hp hl in
theorem judgeGrant_regrant (hs : r.state = .granted) (ha : r.attempts.length < g.allowed) :
    judgeGrant slot r n g s = (modRec slot (regrant g) s, accepted) := by
  rw [judgeGrant, if_neg (by simp [hn]), if_neg (by simp [Port.inFault, hp]), if_neg (by simpa [tooLong] using hl),
    if_pos hs, if_neg (Nat.not_le.2 ha)]

end judge

/-- A number that only EMPTY records carry is in use nowhere else. -/
theorem numberElsewhere_free {s : State} {slot n : Nat}
    (h : ∀ x ∈ s.pics.records, x.number = some n → x.state = .empty) : numberElsewhere s slot n = false := by
  unfold numberElsewhere
  rw [List.any_eq_false]
  intro j _ hj
  simp only [Bool.and_eq_true, decide_eq_true_eq] at hj
  obtain ⟨-, hj⟩ := hj
  split at hj
  · rename_i r hr
    simp only [Bool.and_eq_true, decide_eq_true_eq] at hj
    exact hj.1 (h r (List.mem_of_getElem? hr) hj.2)
  · exact absurd hj (by decide)

/-! ### The evaluations after a grant (R8, R13, R46, R51) -/

/-- With no attempt in progress the head's evaluation moves the head alone. -/
theorem stepOut_idle {s : State} (h : attemptInProgress s = false) : ∃ x, stepOut s = s.setHead x := by
  unfold stepOut
  split
  · exact ⟨_, attemptEnd_of_none (t := stopHead s) h⟩
  · exact ⟨_, rfl⟩

theorem enterPositioning_idle {s : State} (h : attemptInProgress s = false) : ∃ x, enterPositioning s = s.setHead x := by
  unfold enterPositioning
  split
  · exact ⟨_, rfl⟩
  · obtain ⟨x, e⟩ := stepOut_idle (s := s.setHead { s.head with state := .positioning }) h
    unfold positionStep
    rw [e]
    dsimp only
    split
    · split <;> exact ⟨_, rfl⟩
    · exact ⟨_, rfl⟩

theorem headEval_idle {s0 s : State} (h : attemptInProgress s = false) : ∃ x, headEval s0 s = s.setHead x := by
  unfold headEval
  dsimp only
  split
  · exact enterPositioning_idle h
  · exact ⟨s.head, rfl⟩

/-- A head at home that has some way to go makes its first step (R51). -/
theorem enterPositioning_first {s : State} (hp : s.head.pos = 0) (ho : 2 ≤ s.tables.scan.startOffset)
    (hl : s.tables.scan.startOffset ≤ s.tables.scan.travelLimit) : enterPositioning s = s.setHead
      { s.head with state := .positioning, pos := 1, stepTimer := some s.tables.scan.fastStepInterval } := by
  have h0 : ¬ (0 = s.tables.scan.startOffset) := by omega
  have h1 : ¬ (s.tables.scan.travelLimit < 0 + 1) := by omega
  have h2 : ¬ (0 + 1 = s.tables.scan.startOffset) := by omega
  simp only [enterPositioning, hp, h0, if_false, positionStep, stepOut, State.setHead_head, State.setHead_tables, h1,
    if_true, h2]
  rfl

/-- The evaluation of the lamp does not end its warming. -/
theorem lampEval_not_warm {s0 s : State} (h : s.lamp.state ≠ .warm) : (lampEval s0 s).lamp.state ≠ .warm := by
  unfold lampEval
  split
  · exact fun hw => nomatch hw
  · split
    · split
      · exact h
      · exact h
      · exact fun hw => nomatch hw
      · exact fun hw => nomatch hw
    · exact h

/-- What the drive's evaluations may change. -/
theorem drive_sets (s0 w : State) : ∃ e x d, drumEval s0 (standardEval s0 w) = ((w.setEnc e).setReg x).setDrum d ∧
    (w.drum.state ≠ .cutoff → d.state ≠ .cutoff) := by
  obtain ⟨x, d, e, hd⟩ : ∃ x d, standardEval s0 w = (w.setReg x).setDrum d ∧ (w.drum.state ≠ .cutoff → d.state ≠ .cutoff) := by
    unfold standardEval
    split
    · exact ⟨_, _, rfl, fun _ hc => nomatch hc⟩
    · exact ⟨w.reg, w.drum, rfl, fun h => h⟩
  have same : ∃ e' x' d', (w.setReg x).setDrum d = ((w.setEnc e').setReg x').setDrum d' ∧
      (w.drum.state ≠ .cutoff → d'.state ≠ .cutoff) := ⟨w.enc, x, d, rfl, hd⟩
  have spin : ∃ e' x' d', enterSpinup ((w.setReg x).setDrum d) = ((w.setEnc e').setReg x').setDrum d' ∧
      (w.drum.state ≠ .cutoff → d'.state ≠ .cutoff) := ⟨_, x, _, rfl, fun _ hc => nomatch hc⟩
  have brake : ∃ e' x' d', enterBraking ((w.setReg x).setDrum d) = ((w.setEnc e').setReg x').setDrum d' ∧
      (w.drum.state ≠ .cutoff → d'.state ≠ .cutoff) := ⟨w.enc, x, _, rfl, fun _ hc => nomatch hc⟩
  rw [e]
  unfold drumEval
  split
  · exact same
  · unfold evaluateDemand
    split
    case h_1 => split; exacts [spin, same]
    case h_2 => split; exacts [same, brake]
    case h_3 => split; exacts [same, brake]
    case h_4 => split; exacts [same, brake]
    case h_5 => split; exacts [spin, same]
    case h_6 => exact same

/-- A port without fault is left for the choice of R143. -/
theorem noPortLeft_of_port {s : State} {p : PortId} (h : (s.port p).cause = .none) : noPortLeft s = false := by
  have hf : (s.port p).inFault = false := by simp [Port.inFault, h]
  cases p
  · rw [noPortLeft, bothFault, show s.portA.inFault = false from hf, Bool.false_and, Bool.false_and]
  · rw [noPortLeft, bothFault, show s.portB.inFault = false from hf, Bool.and_false, Bool.false_and]

/-- The evaluations after an event that grants the on-drum record, with the lamp not warm or the drum not locked: the drive's
(`u`), then the head and the lamp. -/
theorem settle_granted {s0 w u : State} (hf : ∀ p, (w.port p).inFault = (s0.port p).inFault) (hn : noPortLeft w = false)
    (hu : drumEval s0 (standardEval s0 w) = u) (ha : attemptInProgress u = false) (hw : u.lamp.state ≠ .warm ∨ u.drum.state ≠ .locked)
    (hl : lineupReady u = lineupReady s0) : ∃ x l, settle s0 w = (u.setHead x).setLamp l ∧ headEval s0 u = u.setHead x ∧
      lampEval s0 (u.setHead x) = (u.setHead x).setLamp l := by
  obtain ⟨x, hx⟩ := headEval_idle (s0 := s0) ha
  obtain ⟨l, hlamp⟩ := lampEval_lamp s0 (u.setHead x)
  refine ⟨x, l, ?_, hx, hlamp⟩
  have hr : attemptReady ((u.setHead x).setLamp l) = false := by
    rcases hw with hw | hw
    · have k : (lampEval s0 (u.setHead x)).lamp.state ≠ .warm := lampEval_not_warm hw
      rw [hlamp] at k
      exact not_attemptReady (Or.inr (Or.inr (Or.inr (Or.inl k))))
    · exact not_attemptReady (Or.inr (Or.inl hw))
  have hq : lineupReady ((u.setHead x).setLamp l) = lineupReady s0 :=
    (lineupReady_congr (s := u) rfl fun p => by simp).trans hl
  unfold settle
  dsimp only
  rw [lapseEval_eq hf, portFailEval_eq (by simp [hn]), hu, hx, hlamp, attemptEval_eq (by simp [hr]),
    lineupEval_eq (by rw [hq]; exact id)]

/-- A drum at rest starts when demand comes (R8). -/
theorem drive_spins {s0 w : State} (hs : w.drum.state = .stopped) (h0 : demand s0 = false) (h1 : demand w = true)
    (hc : w.pins.coverClosed = true) (hn : w.tables.drumPending = none) :
    drumEval s0 (standardEval s0 w) = enterSpinup w := by
  rw [standardEval_eq (Or.inr ⟨by simp [hs], by simp [hs]⟩), drumEval_changed (Or.inl (by rw [h0, h1]; decide))]
  exact evaluateDemand_spun h1 (Or.inr ⟨hs, hc, hn⟩)

/-- A parked head positions when the on-drum record is granted (R51). -/
theorem headEval_granted {s0 s : State} (h0 : onDrumState s0 ≠ .granted) (hs : s.head.state = .parked)
    (hg : onDrumState s = .granted) : headEval s0 s = enterPositioning s := by
  refine if_pos ⟨?_, ?_⟩
  · rw [hs, hg]; rfl
  · simp [h0]

/-- The lamp warms when its demand comes (R46). -/
theorem lampEval_warms {s0 s : State} (h0 : lampDemand s0 = false) (h1 : lampDemand s = true) :
    (lampEval s0 s).lamp.state = .warming := by
  rw [lampEval, if_pos ⟨h1, h0⟩]
  rfl

/-- The relock at a change of standard (R13, R33), or nothing: never a change to or from CUTOFF. -/
theorem standardEval_cutoff (s0 s : State) : (standardEval s0 s).drum.state = .cutoff ↔ s.drum.state = .cutoff := by
  unfold standardEval
  split
  · rename_i h
    refine ⟨fun hc => (nomatch hc), fun hc => ?_⟩
    rcases h.2 with h | h <;> exact nomatch h.symm.trans hc
  · exact Iff.rfl

/-- The evaluations after an event that replaces the grant part of a GRANTED record, with the lamp not warm: the change of
standard is all they see. -/
theorem settle_regranted {s0 v : State} (k : Only [.orders, .portA, .portB, .pics, .panel] s0 v)
    (hf : ∀ p, (v.port p).inFault = (s0.port p).inFault) (hi : ∀ p, (v.port p).isIdle = (s0.port p).isIdle)
    (hn : noPortLeft v = false) (h0 : onDrumState s0 = .granted) (hv : onDrumState v = .granted)
    (hl : s0.lamp.state ≠ .warm) : settle s0 v = standardEval s0 v := by
  have ku : Only [.drum, .reg] v (standardEval s0 v) := standardEval_only _ (by decide) (by decide) (Only.refl _ _)
  have ks : Only [.orders, .portA, .portB, .pics, .panel, .drum, .reg] s0 (standardEval s0 v) :=
    (k.mono (by decide)).trans (ku.mono (by decide))
  have hu : onDrumState (standardEval s0 v) = .granted := (onDrumState_congr (ku.pics (by decide))).trans hv
  have hd : demand (standardEval s0 v) = true := by simp [demand, hu]
  refine settle_drive_lit hf (by simp [hn]) ?_ (fun h _ => ⟨ks.head (by decide) ▸ h, h0⟩) ?_ (fun h => ?_) (fun h => ?_)
  · by_cases hs : standardEval s0 v = v
    · rw [hs]
      refine drumEval_same ?_ (by rw [k.drum (by decide)]) (by rw [k.pins (by decide)])
      simp [demand, h0, hv]
    · refine drumEval_eq (evaluateDemand_demanded hd (Or.inr (Or.inl ?_)))
      unfold standardEval at hs ⊢
      split
      · rfl
      · rename_i hne
        exact absurd (if_neg hne) hs
  · refine lampDemand_congr (hu.trans h0.symm) (ks.scan (by decide)) ?_ (by rw [ks.head (by decide)])
    rw [standardEval_cutoff, k.drum (by decide)]
  · have := (attemptReady_granted' h).2.2.2.1
    rw [ks.lamp (by decide)] at this
    exact absurd this hl
  · have e : lineupReady (standardEval s0 v) = lineupReady s0 := lineupReady_congr (ks.sender (by decide)) fun p => by
      rw [ku.port (p := p) (by cases p <;> decide), hi]
    exact e ▸ h

/-! ### A GRANT applied to a LOADED record (R141) -/

/-- The state that a GRANT of the on-drum record leaves, before its answer. -/
def grantedState (s : State) (o : Order) (slot : Nat) (x : Panel) : State :=
  modRec slot (grantLoaded (wordAt o.payload 0) (grantOf o)) (taken s x)

theorem grantedState_port (s : State) (o : Order) (slot : Nat) (x : Panel) (p : PortId) :
    (grantedState s o slot x).port p = s.port p := by cases p <;> rfl

theorem grantedState_only {ps : List Part} (s : State) (o : Order) (slot : Nat) (x : Panel) (a b : Port)
    (h : ∀ q ∈ [Part.orders, .portA, .portB, .pics, .panel], q ∈ ps) : Only ps s (ported a b (grantedState s o slot x)) :=
  ported_only a b (h _ (by decide)) (h _ (by decide)) (modRec_only _ _ (h _ (by decide))
    (taken_only s x (h _ (by decide)) (h _ (by decide))))

theorem grantedState_inFault {s : State} {o : Order} {slot : Nat} {x : Panel} {a b : Port} {rep : Report} (hp : Posted o rep (grantedState s o slot x) a b) (p : PortId) :
    ((ported a b (grantedState s o slot x)).port p).inFault = (s.port p).inFault := by
  simp only [Port.inFault, hp.cause, grantedState_port]

/-- The record on drum is LOADED, and a GRANT with good fields passes the checks of R140. -/
structure Grantable (s : State) (o : Order) (slot : Nat) (r : PicRecord) : Prop where
  drum : s.drum.state ≠ .cutoff
  fields : GrantFieldsOk o
  onDrum : s.pics.onDrum = some slot
  record : s.rec? slot = some r
  loaded : r.state = .loaded
  number : ∀ x ∈ s.pics.records, x.number = some (wordAt o.payload 0) → x.state = .empty
  port : (s.port (portOfByte (o.payload.getD 2 0))).cause = .none
  length : s.tables.scan.startOffset + r.lines * s.tables.scan.stepsPerLine ≤ s.tables.scan.travelLimit

namespace Grantable

variable {s : State} {o : Order} {slot : Nat} {r : PicRecord} (h : Grantable s o slot r)
include h

theorem owner (x : Panel) : ownGrant o (taken s x) = (grantedState s o slot x, accepted) := by
  rw [ownGrant_ok (s := taken s x) h.drum h.fields, grantOnDrum_loaded (s := taken s x) h.onDrum h.record h.loaded]
  exact judgeGrant_loaded (s := taken s x) (numberElsewhere_free (s := taken s x) h.number)
    ((congrArg Port.cause (taken_port s x _)).trans h.port) (Nat.not_lt.2 h.length) h.loaded

theorem slotRec (x : Panel) :
    (grantedState s o slot x).rec? slot = some (grantLoaded (wordAt o.payload 0) (grantOf o) r) := by
  rw [grantedState, rec?_modRec, show (taken s x).rec? slot = some r from h.record]
  rfl

theorem granted (x : Panel) : onDrumState (grantedState s o slot x) = .granted :=
  onDrumState_rec (s := grantedState s o slot x) h.onDrum (h.slotRec x)

theorem standard (x : Panel) : standardNumber (grantedState s o slot x) = byteAt o.payload 3 := by
  rw [standardNumber, onDrumGrant, onDrumRec_of (s := grantedState s o slot x) h.onDrum (h.slotRec x)]
  rfl

theorem before : onDrumState s = .loaded := (onDrumState_rec h.onDrum h.record).trans h.loaded

/-- The port of the grant is not in FAULT, so the choice of R143 finds one. -/
theorem portLeft {x : Panel} {a b : Port} {rep : Report} (hp : Posted o rep (grantedState s o slot x) a b) :
    noPortLeft (ported a b (grantedState s o slot x)) = false := by
  refine noPortLeft_of_port (p := portOfByte (o.payload.getD 2 0)) ?_
  rw [hp.cause, grantedState_port, h.port]

/-- What the evaluations make of a granted record while the lamp is not warm or the drum not locked: the drive's part `u`,
then the head and the lamp. -/
theorem settles {x : Panel} {a b : Port} {rep : Report} {u : State} (hp : Posted o rep (grantedState s o slot x) a b)
    (hl : s.lamp.state ≠ .warm ∨ u.drum.state ≠ .locked)
    (hu : drumEval (s.setPanel x) (standardEval (s.setPanel x) (ported a b (grantedState s o slot x))) = u) :
    ∃ hd l, settle (s.setPanel x) (ported a b (grantedState s o slot x)) = (u.setHead hd).setLamp l ∧
      headEval (s.setPanel x) u = u.setHead hd ∧ lampEval (s.setPanel x) (u.setHead hd) = (u.setHead hd).setLamp l := by
  have k : Only [.enc, .drum, .reg] (ported a b (grantedState s o slot x)) u := by
    rw [← hu]
    exact drumEval_only _ (by decide) (by decide) (standardEval_only _ (by decide) (by decide) (Only.refl _ _))
  have hg : onDrumState u = .granted := (onDrumState_congr (k.pics (by decide))).trans (h.granted x)
  refine settle_granted (fun p => ?_) (h.portLeft hp) hu (by simp [attemptInProgress, hg]) ?_ ?_
  · rw [grantedState_inFault hp, State.setPanel_port]
  · rw [k.lamp (by decide)]
    exact hl
  · refine lineupReady_congr (s := s.setPanel x) (k.sender (by decide)) fun p => ?_
    rw [k.port (p := p) (by cases p <;> decide), hp.idle, grantedState_port, State.setPanel_port]

/-- The GRANT as an event. -/
theorem event {P : State → Prop} (ho : HeadOrder .grant o s)
    (hP : ∀ x y a b, Posted o (ackOf o 0) (grantedState s o slot x) a b →
      P ((settle (s.setPanel x) (ported a b (grantedState s o slot x))).setPanel y)) :
    ∃ t, exec .grant s = .next t ∧ P t := by
  refine order_event (owner := ownGrant) ho rfl fun x y a b hp => ?_
  rw [h.owner x] at hp ⊢
  rw [answerOf_accepted ho] at hp
  exact hP x y a b hp

end Grantable

/-! ### O40 -/

/-- A refusal of a GRANT by what its owner says. -/
theorem grant_refused {o : Order} {s : State} {reason : Reason} (ho : HeadOrder .grant o s)
    (h : ∀ x, ownGrant o (taken s x) = (taken s x, .refuse reason)) : ∃ t, exec .grant s = .next t ∧ Refused o reason s t :=
  refused_event (owner := ownGrant) ho rfl h

/-- A GRANT applied to a LOADED record (O40): the answer, the record, the drum at rest, the head at home, the lamp. -/
theorem Grantable.judged {s : State} {o : Order} {slot : Nat} {r : PicRecord} (h : Grantable s o slot r)
    (ho : HeadOrder .grant o s) (hl : s.lamp.state ≠ .warm) :
    ∃ t, exec .grant s = .next t ∧ Answered o (ackOf o 0) s t ∧
      t.rec? slot = some (grantLoaded (wordAt o.payload 0) (grantOf o) r) ∧
      (s.drum.state = .stopped → s.drum.spinLatch = false → s.pins.coverClosed = true → s.tables.drumPending = none →
        t.drum.state = .spinup) ∧
      (s.head.state = .parked → s.head.pos = 0 → 2 ≤ s.tables.scan.startOffset →
        t.head.state = .positioning ∧ t.head.pos = 1 ∧ t.head.stepTimer = some s.tables.scan.fastStepInterval ∧
          (s.scan.state ≠ .finished → t.lamp.state = .warming)) := by
  refine h.event ho fun x y a b hp => ?_
  obtain ⟨e, g, d, hu, hd⟩ := drive_sets (s.setPanel x) (ported a b (grantedState s o slot x))
  have k : Only [.enc, .drum, .reg] (ported a b (grantedState s o slot x))
      (drumEval (s.setPanel x) (standardEval (s.setPanel x) (ported a b (grantedState s o slot x)))) :=
    drumEval_only _ (by decide) (by decide) (standardEval_only _ (by decide) (by decide) (Only.refl _ _))
  have ks := (grantedState_only (ps := [.enc, .drum, .reg, .orders, .portA, .portB, .pics, .panel]) s o slot x a b
    (by decide)).trans (k.mono (by decide))
  have hcut : (drumEval (s.setPanel x) (standardEval (s.setPanel x) (ported a b (grantedState s o slot x)))).drum.state ≠
    .cutoff := by rw [hu]; exact hd h.drum
  obtain ⟨hd', l, k1, k2, k3⟩ := h.settles hp (Or.inl hl) rfl
  have hg : onDrumState (ported a b (grantedState s o slot x)) = .granted := h.granted x
  have hb : onDrumState (s.setPanel x) = .loaded := h.before
  have hspin : s.drum.state = .stopped → s.drum.spinLatch = false → s.pins.coverClosed = true →
      s.tables.drumPending = none → drumEval (s.setPanel x) (standardEval (s.setPanel x)
        (ported a b (grantedState s o slot x))) = enterSpinup (ported a b (grantedState s o slot x)) :=
    fun hs hlatch hc hn => drive_spins hs (by simp [demand, hb, hlatch]) (by simp [demand, hg]) hc hn
  rw [k1]
  generalize drumEval (s.setPanel x) (standardEval (s.setPanel x) (ported a b (grantedState s o slot x))) = u at *
  have hgu : onDrumState u = .granted := (onDrumState_congr (k.pics (by decide))).trans hg
  refine ⟨hp.answered (fun p => by rw [grantedState_port]) (k.orders (by decide)) fun p => ?_, ?_,
    fun hs hlatch hc hn => ?_, fun hs hpos hoff => ?_⟩
  · rw [← k.port (p := p) (by cases p <;> decide)]
    simp
  · rw [← h.slotRec x]
    exact congrArg (fun v : PicTable => v.records[slot]?) (k.pics (by decide))
  · show u.drum.state = .spinup
    rw [hspin hs hlatch hc hn]
    rfl
  · have hh : u.head = s.head := ks.head (by decide)
    have ht : u.tables = s.tables := ks.tables (by decide)
    have hfirst := enterPositioning_first (s := u) (by rw [hh]; exact hpos) (by rw [ht]; exact hoff)
      (by rw [ht]; exact Nat.le_trans (Nat.le_add_right _ _) h.length)
    rw [headEval_granted (by simp [hb]) (by rw [hh]; exact hs) hgu, hfirst] at k2
    have hhead := congrArg State.head k2
    simp only [State.setHead_head] at hhead
    subst hhead
    refine ⟨rfl, rfl, congrArg (fun tb : Tables => some tb.scan.fastStepInterval) ht, fun hscan => ?_⟩
    have h0 : lampDemand (s.setPanel x) = false := by simp [lampDemand, hb]
    have hscan' : u.scan.state ≠ .finished := by rw [ks.scan (by decide)]; exact hscan
    have := lampEval_warms h0 (s := u.setHead
      { u.head with state := .positioning, pos := 1, stepTimer := some u.tables.scan.fastStepInterval })
      (by simp [lampDemand, hgu, hscan', hcut])
    rw [k3] at this
    exact this

/-- Changing a list's entry is putting the changed entry in its place. -/
theorem modify_eq_set {α : Type} {l : List α} {i : Nat} {x : α} {f : α → α} (h : l[i]? = some x) :
    l.modify i f = l.set i (f x) := by
  rw [List.modify_eq_set_getElem?, h]
  rfl

/-- A GRANT that replaces the grant part of a GRANTED record (R141): nothing but that and, by the standard in force, the
drive changes. -/
theorem regranted {s : State} {o : Order} {slot : Nat} {r : PicRecord} (ho : HeadOrder .grant o s)
    (hon : s.pics.onDrum = some slot) (hr : s.rec? slot = some r) (hg : r.state = .granted)
    (hw : ∀ x, ownGrant o (taken s x) = (modRec slot (regrant (grantOf o)) (taken s x), accepted))
    (hp : (s.port (portOfByte (o.payload.getD 2 0))).cause = .none)
    (hl : s.lamp.state ≠ .warm) :
    ∃ t, exec .grant s = .next t ∧ Answered o (ackOf o 0) s t ∧ Only [.orders, .portA, .portB, .pics, .drum, .reg, .panel] s t ∧
      t.pics = { s.pics with records := s.pics.records.set slot { r with grant := some (grantOf o) } } := by
  refine order_event (owner := ownGrant) ho rfl fun x y a b hpost => ?_
  rw [hw x] at hpost ⊢
  rw [answerOf_accepted ho] at hpost
  have k : Only [.orders, .portA, .portB, .pics, .panel] (s.setPanel x)
      (ported a b (modRec slot (regrant (grantOf o)) (taken s x))) :=
    ported_only a b (by decide) (by decide) (modRec_only _ _ (by decide)
      (setOrders_only _ (by decide) (Only.refl _ (s.setPanel x))))
  have hport : ∀ p, (modRec slot (regrant (grantOf o)) (taken s x)).port p = s.port p := fun p => by cases p <;> rfl
  have hrec : (modRec slot (regrant (grantOf o)) (taken s x)).rec? slot = some (regrant (grantOf o) r) := by
    rw [rec?_modRec, show (taken s x).rec? slot = some r from hr]
    rfl
  have hv : onDrumState (ported a b (modRec slot (regrant (grantOf o)) (taken s x))) = .granted :=
    (onDrumState_rec (s := modRec slot (regrant (grantOf o)) (taken s x)) hon hrec).trans hg
  have hpics : (ported a b (modRec slot (regrant (grantOf o)) (taken s x))).pics =
      { s.pics with records := s.pics.records.set slot { r with grant := some (grantOf o) } } :=
    congrArg (fun l : List PicRecord => ({ s.pics with records := l } : PicTable)) (modify_eq_set hr)
  have hord : (ported a b (modRec slot (regrant (grantOf o)) (taken s x))).orders = s.orders.tail := rfl
  have hlist : ∀ v : State, v.orders = s.orders.tail → _ → Answered o (ackOf o 0) s v :=
    fun v => hpost.answered (fun p => congrArg Port.list (hport p))
  have hset := settle_regranted k (fun p => by simp [Port.inFault, hpost.cause, hport])
    (fun p => by rw [hpost.idle, hport, State.setPanel_port])
    (noPortLeft_of_port (p := portOfByte (o.payload.getD 2 0)) (by rw [hpost.cause, hport, hp]))
    ((onDrumState_rec (s := s.setPanel x) hon hr).trans hg) hv hl
  rw [hset]
  generalize ported a b (modRec slot (regrant (grantOf o)) (taken s x)) = v at *
  have ku : Only [.drum, .reg, .panel] v ((standardEval (s.setPanel x) v).setPanel y) :=
    setPanel_only _ (by decide) (standardEval_only _ (by decide) (by decide) (Only.refl _ _))
  refine ⟨hlist _ ((ku.orders (by decide)).trans hord) fun p => ?_, ?_, (ku.pics (by decide)).trans hpics⟩
  · rw [ku.port (p := p) (by cases p <;> decide)]
  · exact (Only.trans (setPanel_only x (by decide) (Only.refl _ s)) (k.mono (by decide))).trans (ku.mono (by decide))

/-- Settles O40: the grant, the refusals, the regrant. -/
theorem grantJudged : Obligations.GrantJudged := by
  refine ⟨fun s o slot r ho hd h1 h2 h3 h4 h5 h6 h7 hon hr hs hn hp hl hlen => ?_, fun s o ho => ⟨fun hd => ?_, fun hd hf => ?_,
    fun hd hf h => ?_, fun hd hf h => ?_, fun slot r hd hf hon hr hs hn => ?_, fun slot r hd hf hon hr hs hn hp => ?_,
    fun slot r hd hf hon hr hs hn hp hl => ?_⟩, fun s o slot r ho hd hf hon hr hs => ⟨fun hn => ?_, fun hn hg => ?_,
    fun hn hg => ⟨fun he => ?_, fun he => ⟨fun hp => ?_, fun hp hl => ?_, fun hp hl ha => ?_, fun hp hl ha hw => ?_⟩⟩⟩⟩
  · exact Grantable.judged ⟨hd, ⟨h1, h2, h3, h4, h5, h6, h7⟩, hon, hr, hs, hn, hp, hlen⟩ ho hl
  · exact grant_refused ho fun x => ownGrant_cutoff (s := taken s x) hd
  · exact grant_refused ho fun x => ownGrant_bad (s := taken s x) hd hf
  · refine grant_refused ho fun x => ?_
    rw [ownGrant_ok (s := taken s x) hd hf, grantOnDrum_noPicture (s := taken s x) h]
  · refine grant_refused ho fun x => ?_
    rw [ownGrant_ok (s := taken s x) hd hf, grantOnDrum_busy (s := taken s x) h]
  · refine grant_refused ho fun x => ?_
    rw [ownGrant_ok (s := taken s x) hd hf, grantOnDrum_loaded (s := taken s x) hon hr hs,
      judgeGrant_number (s := taken s x) hn]
  · refine grant_refused ho fun x => ?_
    rw [ownGrant_ok (s := taken s x) hd hf, grantOnDrum_loaded (s := taken s x) hon hr hs,
      judgeGrant_port (s := taken s x) hn (by rw [taken_port]; exact hp)]
  · refine grant_refused ho fun x => ?_
    rw [ownGrant_ok (s := taken s x) hd hf, grantOnDrum_loaded (s := taken s x) hon hr hs,
      judgeGrant_long (s := taken s x) hn (by rw [taken_port]; exact hp) hl]
  · refine grant_refused ho fun x => ?_
    rw [ownGrant_ok (s := taken s x) hd hf, grantOnDrum_granted (s := taken s x) hon hr hs, if_pos hn]
  · obtain ⟨t, ht, ha, hk⟩ := answered_event (c := .grant) (owner := ownGrant) (v := accepted) ho rfl fun x => by
      rw [ownGrant_ok (s := taken s x) hd hf, grantOnDrum_granted (s := taken s x) hon hr hs, if_neg (not_not.2 hn),
        if_pos (show r.grant = some (grantOf o) from hg)]
    exact ⟨t, ht, answerOf_accepted ho ▸ ha, hk⟩
  all_goals
    have key : ∀ x, ownGrant o (taken s x) = judgeGrant slot r (wordAt o.payload 0) (grantOf o) (taken s x) := fun x => by
      rw [ownGrant_ok (s := taken s x) hd hf, grantOnDrum_granted (s := taken s x) hon hr hs, if_neg (not_not.2 hn),
        if_neg (show r.grant ≠ some (grantOf o) from hg)]
  · exact grant_refused ho fun x => (key x).trans (judgeGrant_number (s := taken s x) he)
  · exact grant_refused ho fun x => (key x).trans (judgeGrant_port (s := taken s x) he (by rw [taken_port]; exact hp))
  · exact grant_refused ho fun x => (key x).trans (judgeGrant_long (s := taken s x) he (by rw [taken_port]; exact hp) hl)
  · exact grant_refused ho fun x => (key x).trans
      (judgeGrant_spent (s := taken s x) he (by rw [taken_port]; exact hp) hl hs ha)
  · exact regranted ho hon hr hs (fun x => (key x).trans
      (judgeGrant_regrant (s := taken s x) he (by rw [taken_port]; exact hp) hl hs ha)) hp hw

/-! ### The change of standard in force (R13, R33; O16) -/

/-- A drum in TRACKING or LOCKED with demand, under another standard (R13, R33). -/
theorem drive_relocks {s0 w : State} (hk : standardKey s0 ≠ standardKey w) (hd : w.drum.state = .tracking ∨ w.drum.state = .locked)
    (hw : demand w = true) : drumEval s0 (standardEval s0 w) =
      (w.setReg { w.reg with integ := 0, lockCount := 0, unlockCount := 0 }).setDrum { w.drum with state := .tracking } := by
  have e : standardEval s0 w =
      (w.setReg { w.reg with integ := 0, lockCount := 0, unlockCount := 0 }).setDrum { w.drum with state := .tracking } :=
    if_pos ⟨hk, hd⟩
  rw [e]
  exact drumEval_eq (evaluateDemand_demanded hw (Or.inr (Or.inl rfl)))

/-- A braking drum spins up when demand comes, whatever the standard (R8, R14). -/
theorem drive_respins {s0 w : State} (hs : w.drum.state = .braking) (h0 : demand s0 = false) (h1 : demand w = true) :
    drumEval s0 (standardEval s0 w) = enterSpinup w := by
  rw [standardEval_eq (Or.inr ⟨by simp [hs], by simp [hs]⟩), drumEval_changed (Or.inl (by rw [h0, h1]; decide))]
  exact evaluateDemand_spun h1 (Or.inl hs)

/-- The standard in force is another one exactly when its number is (R7), while the table is the same. -/
theorem standardKey_number {s t : State} (ht : t.tables = s.tables) :
    standardKey s = standardKey t ↔ standardNumber s = standardNumber t := by
  simp only [standardKey, standardInForce, standardAt, ht, Prod.mk.injEq]
  exact ⟨fun h => h.1, fun h => by rw [h]; exact ⟨rfl, rfl, rfl⟩⟩

/-- What a granted record's evaluations leave when the drive's part is known: the drive, the regulator, the answer. -/
theorem Grantable.driven {s : State} {o : Order} {slot : Nat} {r : PicRecord} (h : Grantable s o slot r)
    (ho : HeadOrder .grant o s) {d : Drum} {g : Regulator}
    (hu : ∀ x a b, ∃ e, drumEval (s.setPanel x) (standardEval (s.setPanel x) (ported a b (grantedState s o slot x))) =
      (((ported a b (grantedState s o slot x)).setEnc e).setReg g).setDrum d)
    (hl : s.lamp.state ≠ .warm ∨ d.state ≠ .locked) :
    ∃ t, exec .grant s = .next t ∧ Answered o (ackOf o 0) s t ∧ t.drum = d ∧ t.reg = g := by
  refine h.event ho fun x y a b hp => ?_
  obtain ⟨e, hu⟩ := hu x a b
  obtain ⟨hd, l, k, -⟩ := h.settles hp hl hu
  rw [k]
  exact ⟨hp.answered (fun p => by rw [grantedState_port]) rfl fun p => by simp, rfl, rfl⟩

/-- Settles O16: the relock, the same standard, the drum in BRAKING. -/
theorem standardChangeRelocks : Obligations.StandardChangeRelocks := by
  intro s o slot r ho n q k h1 h2 h3 h4 h5 h6 h7 hon hr hs hn hp hlen same
  have fields : GrantFieldsOk o := ⟨h1, h2, h3, h4, h5, h6, h7⟩
  have grantable : s.drum.state ≠ .cutoff → Grantable s o slot r := fun hd => ⟨hd, fields, hon, hr, hs, hn, hp, hlen⟩
  have hkey : s.drum.state ≠ .cutoff → ∀ x a b,
      standardKey (s.setPanel x) = standardKey (ported a b (grantedState s o slot x)) ↔ same := fun hd x a b =>
    (standardKey_number (s := s.setPanel x) (t := ported a b (grantedState s o slot x)) rfl).trans
      (by rw [show standardNumber (ported a b (grantedState s o slot x)) = k from (grantable hd).standard x]; exact Iff.rfl)
  refine ⟨fun hd hlatch hl => ?_, fun hd hlatch => ?_⟩
  · have hc : s.drum.state ≠ .cutoff := by rcases hd with hd | hd <;> simp [hd]
    have hdem : ∀ x a b, demand (ported a b (grantedState s o slot x)) = true := fun x a b => by
      have : (ported a b (grantedState s o slot x)).drum.spinLatch = true := hlatch
      simp [demand, this]
    by_cases hsame : same
    · obtain ⟨t, ht, ha, htd, htr⟩ := (grantable hc).driven (d := s.drum) (g := s.reg) ho (fun x a b => ⟨s.enc, by
        rw [drive_eq (Or.inl ((hkey hc x a b).2 hsame)) (evaluateDemand_demanded (hdem x a b) (Or.inr hd))]
        rfl⟩) (Or.inl hl)
      exact ⟨t, ht, ha, fun h => absurd hsame h, fun _ => ⟨htd, htr⟩⟩
    · obtain ⟨t, ht, ha, htd, htr⟩ := (grantable hc).driven (d := { s.drum with state := .tracking })
        (g := { s.reg with integ := 0, lockCount := 0, unlockCount := 0 }) ho (fun x a b => ⟨s.enc, by
        rw [drive_relocks (fun h => hsame ((hkey hc x a b).1 h)) hd (hdem x a b)]
        rfl⟩) (Or.inl hl)
      exact ⟨t, ht, ha, fun _ => ⟨htd, htr⟩, fun h => absurd h hsame⟩
  · have hc : s.drum.state ≠ .cutoff := by simp [hd]
    have hb : onDrumState s = .loaded := (grantable hc).before
    obtain ⟨t, ht, ha, htd, htr⟩ := (grantable hc).driven (d := { s.drum with
        state := .spinup, pendingDuty := s.tables.drum.dutyMin, activeDuty := s.tables.drum.dutyMin
        modeReq := some .drive, spinupTimer := some (s.tables.drum.spinupLimit * 100000), rampTimer := some 10000
        brakingTimer := none, silenceTimer := none }) (g := s.reg) ho (fun x a b => ⟨{ s.enc with reverseRun := 0 }, by
      have hg : onDrumState (ported a b (grantedState s o slot x)) = .granted := (grantable hc).granted x
      rw [drive_respins (w := ported a b (grantedState s o slot x)) hd (by simp [demand, hb, hlatch]) (by simp [demand, hg])]
      rfl⟩) (Or.inr fun h => nomatch h)
    exact ⟨t, ht, ha, htr, htd⟩

end Sys2Proof.Machine

/-! ## The end of an attempt: the record FINISHED, its slip asked, the sender at its stop tone -/

namespace Sys2Proof.Machine

/-! ### A slip request (R158, R160) -/

/-- What the slip unit's evaluation of its queue keeps (R161). -/
theorem slipEval_keeps (s : State) : (slipEval s).slips.queue = s.slips.queue ∧ (slipEval s).slips.owed = s.slips.owed ∧
    (slipEval s).pics = s.pics := by
  have therm : ∀ u : State, (askTherm u).slips.queue = u.slips.queue ∧ (askTherm u).slips.owed = u.slips.owed := fun u => by
    unfold askTherm requestTherm
    split
    · exact ⟨rfl, rfl⟩
    · split <;> exact ⟨rfl, rfl⟩
  have line : ∀ u : State, (beginDotLine u).slips.queue = u.slips.queue ∧ (beginDotLine u).slips.owed = u.slips.owed :=
    fun u => by
      unfold beginDotLine
      split
      · exact therm _
      · exact ⟨rfl, rfl⟩
  have hp : (slipEval s).pics = s.pics :=
    (slipEval_only (ps := [.conv, .slips]) (by decide) (by decide) (Only.refl _ s)).pics (by decide)
  refine ⟨?_, ?_, hp⟩ <;> unfold slipEval <;> split
  · split
    · exact (line _).1
    · rfl
  · rfl
  · split
    · exact (line _).2
    · rfl
  · rfl

/-- A request of a FINAL or LATE slip changes of the picture table its record's slip status alone (R160). -/
theorem requestSlip_pics {kind : SlipKind} (hk : kind ≠ .reprint) (slot : Nat) (s : State) :
    ∃ status, (requestSlip slot kind s).1.pics = (modRec slot (fun r => { r with slip := status }) s).pics := by
  unfold requestSlip
  split
  · exact ⟨_, rfl⟩
  · split
    · exact ⟨_, (slipEval_keeps _).2.2⟩
    · exact ⟨_, rfl⟩

/-- The slip status that follows a request (R160). -/
theorem rec?_updateSlipStatus {slot : Nat} {s : State} {r : PicRecord} (h : s.rec? slot = some r) :
    (updateSlipStatus slot s).rec? slot = some { r with slip := slipStatusOf s slot } := by
  rw [updateSlipStatus, rec?_modRec, h]
  rfl

/-- A FINAL or LATE request that does not wait already (R158). -/
theorem requestSlip_asked {slot : Nat} {kind : SlipKind} {s : State} {r : PicRecord} (hk : kind ≠ .reprint)
    (hr : s.rec? slot = some r) (hw : ⟨slot, kind⟩ ∉ waitingRequests s.slips) :
    SlipAsked slot kind s (requestSlip slot kind s).1 := by
  unfold requestSlip
  rw [if_neg (by simpa using hw)]
  by_cases hq : s.slips.queue.length < 8
  · rw [if_pos hq]
    dsimp only
    generalize hu : s.setSlips { s.slips with queue := s.slips.queue ++ [⟨slot, kind⟩] } = u
    obtain ⟨k1, k2, k3⟩ := slipEval_keeps (updateSlipStatus slot u)
    have hrec : (updateSlipStatus slot u).rec? slot = some { r with slip := slipStatusOf u slot } := by
      refine rec?_updateSlipStatus ?_
      rw [← hu]
      exact hr
    refine ⟨fun _ => ⟨k1.trans ?_, k2.trans ?_⟩, fun h => absurd hq (Nat.not_lt.2 h), fun _ => ⟨{ r with slip := slipStatusOf u slot }, ?_, ?_⟩⟩
    · rw [← hu]; rfl
    · rw [← hu]; rfl
    · rw [State.rec?, k3]
      exact hrec
    · have ho : owedOf u slot = owedOf s slot := by rw [← hu]; rfl
      have hin : u.slips.queue.any (fun q => decide (q.slot = slot)) = true := by
        rw [← hu]
        simp
      show slipStatusOf u slot = _
      rw [slipStatusOf, ho, hin]
      cases he : (owedOf s slot).isEmpty <;> simp [hq]
  · rw [if_neg hq, if_neg hk]
    dsimp only
    have hrec := rec?_updateSlipStatus (slot := slot) (s := oweSlip slot kind s) hr
    refine ⟨fun h => absurd h hq, fun _ => ⟨rfl, ?_⟩, fun hs => ⟨_, hrec, ?_⟩⟩
    · show (s.slips.owed.modify slot _) = _
      cases kind with
      | final => rfl
      | late => rfl
      | reprint => exact absurd rfl hk
    · have ho : (owedOf (oweSlip slot kind s) slot).isEmpty = false := by
        have hm : ∀ f : OwedSet → OwedSet, (s.slips.owed.modify slot f).getD slot ⟨false, false⟩ = f s.slips.owed[slot] := by
          intro f
          rw [List.getD_eq_getElem?_getD, List.getElem?_modify, List.getElem?_eq_getElem hs]
          simp
        show ((s.slips.owed.modify slot _).getD slot ⟨false, false⟩).isEmpty = false
        rw [hm]
        cases kind with
        | final => simp [OwedSet.isEmpty]
        | late => simp [OwedSet.isEmpty]
        | reprint => exact absurd rfl hk
      show slipStatusOf (oweSlip slot kind s) slot = _
      rw [slipStatusOf, if_pos ho, if_neg fun h => hq h.1]

/-! ### A record that finishes (R155) -/

/-- What `SlipAsked` reads of its states: the slip unit before, the slip unit and the picture table after. -/
theorem SlipAsked.congr {slot : Nat} {kind : SlipKind} {s s' t t' : State} (h : SlipAsked slot kind s t)
    (hs : s'.slips = s.slips) (ht : t'.slips = t.slips) (hp : t'.pics = t.pics) : SlipAsked slot kind s' t' := by
  have hr : t'.rec? = t.rec? := by funext i; simp [State.rec?, hp]
  have ho : owedOf s' slot = owedOf s slot := by rw [owedOf, owedOf, hs]
  exact ⟨by rw [hs, ht]; exact h.room, by rw [hs, ht]; exact h.full, by rw [hs, hr, ho]; exact h.status⟩

/-- What `FinishedAs` reads of its states. -/
theorem FinishedAs.congr {slot : Nat} {o : FinalOutcome} {c : FailCause} {s s' t t' : State} (h : FinishedAs slot o c s t)
    (hc : s'.clock = s.clock) (ho : s'.pics.finishOrder = s.pics.finishOrder) (hs : s'.slips = s.slips)
    (hp : t'.pics = t.pics) (ht : t'.slips = t.slips) : FinishedAs slot o c s' t' := by
  have hr : t'.rec? = t.rec? := by funext i; simp [State.rec?, hp]
  have hk : clockReading s' = clockReading s := by simp only [clockReading, hc]
  exact ⟨by rw [hr, hk]; exact h.record, by rw [hp, ho]; exact h.order, by rw [hp]; exact h.timer,
    fun hw => (h.slip (by rwa [hs] at hw)).congr hs ht hp⟩

/-- A record that finishes is FINISHED as asked for (R155). -/
theorem finishRecord_finishes {slot : Nat} {o : FinalOutcome} {c : FailCause} {s : State} {r : PicRecord}
    (hr : s.rec? slot = some r) : FinishedAs slot o c s (finishRecord slot o c s) := by
  unfold finishRecord
  dsimp only
  generalize hm : (modRec slot (fun r => { r with state := .finished, final := some ⟨o, c, clockReading s⟩ }) s).setPics
    { (modRec slot (fun r => { r with state := .finished, final := some ⟨o, c, clockReading s⟩ }) s).pics with
      finishOrder := (modRec slot (fun r =>
        { r with state := .finished, final := some ⟨o, c, clockReading s⟩ }) s).pics.finishOrder ++ [slot]
      receiptTimer := none } = m
  have hmr : m.rec? slot = some { r with state := .finished, final := some ⟨o, c, clockReading s⟩ } := by
    rw [← hm]
    show (modRec slot _ s).rec? slot = _
    rw [rec?_modRec, hr]
    rfl
  have hmo : m.pics.finishOrder = s.pics.finishOrder ++ [slot] := by rw [← hm]; rfl
  have hmt : m.pics.receiptTimer = none := by rw [← hm]; rfl
  have hms : m.slips = s.slips := by rw [← hm]; rfl
  generalize hv : (if decide (((s.rec? slot).map (·.state)).getD .empty = .granted) = true then rewindHead m else m) = v
  have kv : Only [.head, .tables] m v := by
    rw [← hv]
    split
    · exact rewindHead_only (by decide) (by decide) (Only.refl _ _)
    · exact Only.refl _ _
  have hvp : v.pics = m.pics := kv.pics (by decide)
  have hvs : v.slips = s.slips := (kv.slips (by decide)).trans hms
  have hvr : v.rec? slot = some { r with state := .finished, final := some ⟨o, c, clockReading s⟩ } := by
    rw [State.rec?, hvp]
    exact hmr
  obtain ⟨status, hp⟩ := requestSlip_pics (kind := .final) (by decide) slot v
  refine ⟨⟨{ r with state := .finished, final := some ⟨o, c, clockReading s⟩, slip := status }, ?_, rfl, rfl⟩, ?_, ?_, fun hw => ?_⟩
  · rw [State.rec?, hp]
    show (modRec slot _ v).rec? slot = _
    rw [rec?_modRec, hvr]
    rfl
  · rw [hp]
    show v.pics.finishOrder = _
    rw [hvp, hmo]
  · rw [hp]
    show v.pics.receiptTimer = _
    rw [hvp, hmt]
  · exact (requestSlip_asked (by decide) hvr (by rw [hvs]; exact hw)).congr hvs.symm rfl rfl

/-! ### The end of an attempt (R146) -/

/-- The attempt in progress ends with the parts in their order (R146). -/
theorem attemptEnd_eq {outcome : AttemptOutcome} {s : State} {slot : Nat} (ho : s.pics.onDrum = some slot)
    (hp : attemptInProgress s = true) : attemptEnd outcome s = endAttemptUse (rewindHead (moveRecord slot outcome
      (closeSender outcome (closeAttempt outcome (flushStore (stopScanner s)))))) := by
  unfold attemptEnd
  rw [ho]
  simp only [hp, if_true]

/-- The attempt record of the attempt in progress changes in the last attempt of its slot (R145). -/
theorem modAttempt_eq {f : Attempt → Attempt} {s : State} {slot : Nat} (ho : s.pics.onDrum = some slot) :
    modAttempt f s = modRec slot (fun r => { r with attempts := r.attempts.modify (r.attempts.length - 1) f }) s := by
  simp [modAttempt, modOnDrum, ho]

/-- The state in which the record of an ending attempt moves on. -/
def closed (outcome : AttemptOutcome) (s : State) : State :=
  closeSender outcome (closeAttempt outcome (flushStore (stopScanner s)))

theorem closed_only (outcome : AttemptOutcome) (s : State) :
    Only [.scan, .conv, .store, .pics, .sender, .portA, .portB] s (closed outcome s) :=
  closeSender_only _ (by decide) (by decide) (by decide) (closeAttempt_only _ (by decide)
    (flushStore_only (by decide) (stopScanner_only (by decide) (by decide) (Only.refl _ s))))

/-- Closing the attempt touches of the picture table the last attempt record of the slot. -/
theorem closed_pics {outcome : AttemptOutcome} {s : State} {slot : Nat} (ho : s.pics.onDrum = some slot) :
    ∃ f, (closed outcome s).pics = (modAttempt f s).pics := by
  have k : Only [.scan, .conv, .store] s (flushStore (stopScanner s)) :=
    flushStore_only (by decide) (stopScanner_only (by decide) (by decide) (Only.refl _ s))
  have kc : Only [.portA, .portB, .sender] (closeAttempt outcome (flushStore (stopScanner s))) (closed outcome s) :=
    closeSender_only _ (by decide) (by decide) (by decide) (Only.refl _ _)
  have hp : (flushStore (stopScanner s)).pics = s.pics := k.pics (by decide)
  have key : ∀ f : Attempt → Attempt, (modAttempt f (flushStore (stopScanner s))).pics = (modAttempt f s).pics := fun f => by
    rw [modAttempt_eq (by rw [hp]; exact ho), modAttempt_eq ho]
    simp only [modRec, State.setPics_pics, hp]
  exact ⟨_, (kc.pics (by decide)).trans (key _)⟩

theorem modAttempt_keeps {f : Attempt → Attempt} {s : State} {slot : Nat} {r : PicRecord} (ho : s.pics.onDrum = some slot)
    (hr : s.rec? slot = some r) : (modAttempt f s).pics.onDrum = some slot ∧
      (modAttempt f s).pics.finishOrder = s.pics.finishOrder ∧
      (modAttempt f s).rec? slot = some { r with attempts := r.attempts.modify (r.attempts.length - 1) f } := by
  rw [modAttempt_eq ho, rec?_modRec, hr]
  exact ⟨ho, rfl, rfl⟩

/-- A record on drum has its place in the table. -/
theorem rec?_of_onDrumState {s : State} {slot : Nat} (ho : s.pics.onDrum = some slot) (hs : onDrumState s ≠ .empty) :
    ∃ r, s.rec? slot = some r ∧ r.state = onDrumState s := by
  cases hr : s.rec? slot with
  | none => exact absurd (by simp [onDrumState_of ho, hr]) hs
  | some r => exact ⟨r, rfl, by rw [onDrumState_rec ho hr]⟩

/-- An outcome with which the record finishes (R147). -/
def Finishing (outcome : AttemptOutcome) (o : FinalOutcome) (c : FailCause) : Prop :=
  ∀ (slot : Nat) (s : State), moveRecord slot outcome s = finishRecord slot o c s

/-- The record of an attempt that ends so is FINISHED (R147, R155). -/
theorem attemptEnd_finishes {outcome : AttemptOutcome} {o : FinalOutcome} {c : FailCause} {s : State} {slot : Nat}
    (hf : Finishing outcome o c) (ho : s.pics.onDrum = some slot) (hs : onDrumState s = .sending) :
    FinishedAs slot o c s (attemptEnd outcome s) := by
  obtain ⟨r, hr, -⟩ := rec?_of_onDrumState ho (by rw [hs]; decide)
  obtain ⟨f, hp⟩ := closed_pics (outcome := outcome) ho
  obtain ⟨-, k2, k3⟩ := modAttempt_keeps (f := f) ho hr
  have kc := closed_only outcome s
  have hcr : (closed outcome s).rec? slot = some { r with attempts := r.attempts.modify (r.attempts.length - 1) f } := by
    rw [State.rec?, hp]
    exact k3
  have k : Only [.head, .tables] (finishRecord slot o c (closed outcome s)) (attemptEnd outcome s) := by
    rw [attemptEnd_eq ho (by simp [attemptInProgress, hs]), hf]
    exact endAttemptUse_only (by decide) (rewindHead_only (by decide) (by decide) (Only.refl _ _))
  exact (finishRecord_finishes hcr).congr (kc.clock (by decide)).symm (by rw [hp]; exact k2.symm)
    (kc.slips (by decide)).symm (k.pics (by decide)) (k.slips (by decide))

/-- The on-drum record is then FINISHED. -/
theorem attemptEnd_onDrumState {outcome : AttemptOutcome} {o : FinalOutcome} {c : FailCause} {s : State} {slot : Nat}
    (hf : Finishing outcome o c) (ho : s.pics.onDrum = some slot) (hs : onDrumState s = .sending) :
    onDrumState (attemptEnd outcome s) = .finished := by
  obtain ⟨r, hr, -⟩ := rec?_of_onDrumState ho (by rw [hs]; decide)
  obtain ⟨f, hp⟩ := closed_pics (outcome := outcome) ho
  obtain ⟨k1, -, k3⟩ := modAttempt_keeps (f := f) ho hr
  have hcr : (closed outcome s).rec? slot = some { r with attempts := r.attempts.modify (r.attempts.length - 1) f } := by
    rw [State.rec?, hp]
    exact k3
  have k : Only [.head, .tables] (finishRecord slot o c (closed outcome s)) (attemptEnd outcome s) := by
    rw [attemptEnd_eq ho (by simp [attemptInProgress, hs]), hf]
    exact endAttemptUse_only (by decide) (rewindHead_only (by decide) (by decide) (Only.refl _ _))
  rw [onDrumState_congr (k.pics (by decide)), finishRecord_onDrumState, if_pos (by rw [hp]; exact k1), hcr]
  rfl

/-- What `Ended` reads of its states. -/
theorem Ended.congr {o : AttemptOutcome} {s s' t t' : State} (h : Ended o s t) (hs : s'.sender.port = s.sender.port)
    (he : s'.store.entries = s.store.entries) (ht : t'.sender = t.sender) (hc : t'.scan = t.scan)
    (hl : t'.store = t.store) : Ended o s' t' :=
  ⟨by rw [ht]; exact h.tone, by rw [ht]; exact h.held, by rw [ht, hs]; exact h.port, by rw [ht]; exact h.cadence,
    by rw [hc]; exact h.scanner, by rw [hl, he]; exact h.flushed⟩

theorem closeSender_held {outcome : AttemptOutcome} {s : State} (ho : outcome ≠ .line)
    (hs : s.sender.state.sendingAttempt = true) : (closeSender outcome s).sender.held = some outcome := by
  unfold closeSender
  rw [if_neg ho, if_pos hs]
  rfl

/-- An attempt that ends other than for LINE leaves the sender at its stop tone, the scanner IDLE, the store flushed. -/
theorem attemptEnd_ended {outcome : AttemptOutcome} {s : State} (ho : outcome ≠ .line) (hp : attemptInProgress s = true)
    (hs : s.sender.state.sendingAttempt = true) : Ended outcome s (attemptEnd outcome s) := by
  obtain ⟨h1, -, -, h4, h5, -⟩ := attemptEnd_ends (outcome := outcome) hp
  have hc := closing_sender outcome s
  have hs' : (closeAttempt outcome (flushStore (stopScanner s))).sender.state.sendingAttempt = true := by rw [hc]; exact hs
  obtain ⟨c1, c2, c3⟩ := closeSender_sender ho hs'
  exact ⟨by rw [h4, c1], by rw [h4, closeSender_held ho hs'], by rw [h4, c2, hc], by rw [h4, c3], h1, by rw [h5]; exact ⟨rfl, rfl⟩⟩

/-- A record that finishes out of an attempt, or with the head in FAULT, leaves the head where it is. -/
theorem finishRecord_head {slot : Nat} {o : FinalOutcome} {c : FailCause} {s : State} (h : s.head.state = .fault) :
    (finishRecord slot o c s).head = s.head := by
  have hw : ∀ u : State, u.head = s.head → (rewindHead u).head = u.head := fun u hu => by
    unfold rewindHead
    rw [hu, h]
    exact hu
  have hq : ∀ u : State, (requestSlip slot .final u).1.head = u.head := fun u =>
    (requestSlip_only (ps := [.conv, .pics, .slips]) _ _ (by decide) (by decide) (by decide) (Only.refl _ u)).head (by decide)
  unfold finishRecord
  dsimp only
  rw [hq]
  split
  · exact hw _ rfl
  · rfl

/-- A head in FAULT stays as it is when the attempt ends with the record finished. -/
theorem attemptEnd_head {outcome : AttemptOutcome} {o : FinalOutcome} {c : FailCause} {s : State}
    (hf : Finishing outcome o c) (h : s.head.state = .fault) : (attemptEnd outcome s).head = s.head := by
  cases ho : s.pics.onDrum with
  | none => simp [attemptEnd, ho]
  | some slot =>
    cases hp : attemptInProgress s with
    | false => rw [attemptEnd_of_none hp]
    | true =>
      have kc : (closed outcome s).head = s.head := (closed_only outcome s).head (by decide)
      have hfin : (finishRecord slot o c (closed outcome s)).head = s.head :=
        (finishRecord_head (by rw [kc]; exact h)).trans kc
      have hrw : rewindHead (finishRecord slot o c (closed outcome s)) = finishRecord slot o c (closed outcome s) := by
        unfold rewindHead
        rw [hfin, h]
      have he := attemptEnd_eq (outcome := outcome) ho hp
      rw [hf, ← closed, hrw] at he
      rw [he, (endAttemptUse_only (ps := [.tables]) (by decide) (Only.refl _ _)).head (by decide), hfin]

/-! ### The evaluations after an attempt's end -/

/-- After an event that ends an attempt with the sender at its stop tone the evaluations reach the drive and the lamp alone. -/
theorem settle_ended {s0 v : State} (hf : ∀ p, (v.port p).inFault = (s0.port p).inFault) (hn : onDrumState v ≠ .granted)
    (hs : v.sender.state ≠ .free) : settle s0 v = lampEval s0 (drumEval s0 (standardEval s0 v)) := by
  have k : Only [.enc, .drum, .reg] v (drumEval s0 (standardEval s0 v)) :=
    drumEval_only _ (by decide) (by decide) (standardEval_only _ (by decide) (by decide) (Only.refl _ _))
  have hg : onDrumState (drumEval s0 (standardEval s0 v)) ≠ .granted := by
    rw [onDrumState_congr (k.pics (by decide))]
    exact hn
  have hl : ∀ u : State, u.sender = v.sender → lineupReady u = false := fun u hu => by simp [lineupReady, hu, hs]
  refine settle_drive hf (fun h => ?_) rfl (fun _ h => absurd h hg) (fun h => ?_) fun h => ?_
  · rw [noPortLeft_of_not_granted hn] at h
    exact nomatch h
  · obtain ⟨l, e⟩ := lampEval_lamp s0 (drumEval s0 (standardEval s0 v))
    rw [e] at h
    exact absurd (attemptReady_granted' h).1 hg
  · rw [hl _ (k.sender (by decide))] at h
    exact nomatch h

theorem settle_ended_only {s0 v : State} (hf : ∀ p, (v.port p).inFault = (s0.port p).inFault)
    (hn : onDrumState v ≠ .granted) (hs : v.sender.state ≠ .free) : Only [.enc, .drum, .reg, .lamp] v (settle s0 v) := by
  rw [settle_ended hf hn hs]
  exact lampEval_only _ (by decide) (drumEval_only _ (by decide) (by decide)
    (standardEval_only _ (by decide) (by decide) (Only.refl _ _)))

end Sys2Proof.Machine

/-! ## Faults during an attempt -/

namespace Sys2Proof.Machine

/-! ### A drum fault (R15; O19) -/

theorem finishing_drum : Finishing .drum .failed .drum := fun _ _ => rfl
theorem finishing_head : Finishing .head .failed .head := fun _ _ => rfl

/-- The attempt in progress at `s` has ended with `o` in the event that leads through `v`, its record FINISHED FAILED with
`c`; what the event still does leaves that as it is. -/
structure EndedAs (slot : Nat) (o : AttemptOutcome) (c : FailCause) (s v : State) : Prop where
  ended : Ended o s v
  finished : FinishedAs slot .failed c s v
  state : onDrumState v = .finished
  cause : ∀ p, (v.port p).cause = (s.port p).cause

/-- The end of the attempt in progress at a state that has of `s` all that the end of an attempt reads. -/
theorem attemptEnd_endedAs {o : AttemptOutcome} {c : FailCause} {s u : State} {slot : Nat} (hf : Finishing o .failed c)
    (hne : o ≠ .line) (hl : Links s) (hs : onDrumState s = .sending) (hu : u.pics.onDrum = some slot)
    (hsu : onDrumState u = .sending) (hfo : u.pics.finishOrder = s.pics.finishOrder)
    (k : Only [.enc, .drum, .reg, .head, .pics, .pins, .panel] s u) : EndedAs slot o c s (attemptEnd o u) where
  ended := by
    have hp : u.sender.state.sendingAttempt = true := by
      rw [k.sender (by decide), ← hl.attempt]
      simp [attemptInProgress, hs]
    refine (attemptEnd_ended hne (by simp [attemptInProgress, hsu]) hp).congr ?_ ?_ rfl rfl rfl
    · rw [k.sender (by decide)]
    · rw [k.store (by decide)]
  finished := (attemptEnd_finishes hf hu hsu).congr (k.clock (by decide)).symm hfo.symm (k.slips (by decide)).symm rfl rfl
  state := attemptEnd_onDrumState hf hu hsu
  cause p := by
    rw [((attemptEnd_ends (outcome := o) (t := u) (by simp [attemptInProgress, hsu])).2.2.2.2.2 p).2.2,
      k.port (p := p) (by cases p <;> decide)]

/-- What the evaluations make of an event that has ended the attempt. -/
theorem EndedAs.settled {slot : Nat} {o : AttemptOutcome} {c : FailCause} {s s0 v : State} (h : EndedAs slot o c s v)
    (h0 : ∀ p, (s0.port p).cause = (s.port p).cause) (y : Panel) :
    Only [.enc, .drum, .reg, .lamp, .panel] v ((settle s0 v).setPanel y) ∧ Ended o s ((settle s0 v).setPanel y) ∧
      FinishedAs slot .failed c s ((settle s0 v).setPanel y) := by
  have k : Only [.enc, .drum, .reg, .lamp] v (settle s0 v) :=
    settle_ended_only (fun p => by simp only [Port.inFault, h.cause, h0]) (by rw [h.state]; decide)
      (by rw [h.ended.tone]; decide)
  have ky : Only [.enc, .drum, .reg, .lamp, .panel] v ((settle s0 v).setPanel y) :=
    setPanel_only y (by decide) (k.mono (by decide))
  exact ⟨ky, h.ended.congr rfl rfl (ky.sender (by decide)) (ky.scan (by decide)) (ky.store (by decide)),
    h.finished.congr rfl rfl rfl (ky.pics (by decide)) (ky.slips (by decide))⟩

/-- What O19 says of a drum fault, of the state `t` at the event's end. -/
structure FaultEnds (slot : Nat) (f : DrumFault) (s t : State) : Prop where
  drum : t.drum.state = .cutoff
  fault : t.drum.lastFault = f
  head : t.head.state = .fault
  ended : Ended .drum s t
  finished : FinishedAs slot .failed .drum s t

/-- A drum that is cut off during an attempt (R15, R93, R146). -/
theorem cutoff_ends {s s0 u : State} {f : DrumFault} {slot : Nat} (hl : Links s) (hs : onDrumState s = .sending)
    (hu : u.pics.onDrum = some slot) (hsu : onDrumState u = .sending) (hfo : u.pics.finishOrder = s.pics.finishOrder)
    (k : Only [.enc, .pics, .pins, .panel] s u) (h0 : ∀ p, (s0.port p).cause = (s.port p).cause) (y : Panel) :
    FaultEnds slot f s ((settle s0 (enterCutoff f u)).setPanel y) := by
  have ku : Only [.enc, .drum, .reg, .head, .pics, .pins, .panel] s (stopHead (u.setDrum (cutoffDrum f u.drum))) :=
    setHead_only _ (by decide) (setDrum_only _ (by decide) (k.mono (by decide)))
  have he : EndedAs slot .drum .drum s (enterCutoff f u) :=
    attemptEnd_endedAs (u := stopHead (u.setDrum (cutoffDrum f u.drum))) finishing_drum (by decide) hl hs hu hsu hfo ku
  obtain ⟨ky, h1, h2⟩ := he.settled h0 y
  have hd := enterCutoff_drum f u
  have hc := (settle_cutoff (s0 := s0) (congrArg Drum.state hd)).1.trans hd
  refine ⟨congrArg Drum.state hc, congrArg Drum.lastFault hc, ?_, h1, h2⟩
  rw [ky.head (by decide), enterCutoff_eq,
    attemptEnd_head finishing_drum (s := stopHead (u.setDrum (cutoffDrum f u.drum))) rfl]
  rfl

/-- The same, as an event whose operation cuts the drum off. -/
theorem fault_event {c : Instr} {op : State → State} {s : State} {f : DrumFault} {slot : Nat} (hc : exec c s = .next (event op s))
    (hl : Links s) (ho : s.pics.onDrum = some slot) (hs : onDrumState s = .sending)
    (h : ∀ x, ∃ u, op (s.setPanel x) = enterCutoff f u ∧ Only [.enc, .pics, .pins, .panel] s u ∧
      u.pics.onDrum = s.pics.onDrum ∧ onDrumState u = onDrumState s ∧ u.pics.finishOrder = s.pics.finishOrder) :
    ∃ t, exec c s = .next t ∧ t.drum.state = .cutoff ∧ t.drum.lastFault = f ∧ t.head.state = .fault ∧
      Ended .drum s t ∧ FinishedAs slot .failed .drum s t := by
  refine event_next hc fun x y => ?_
  obtain ⟨u, hu, k, h1, h2, h3⟩ := h x
  rw [hu]
  have := cutoff_ends (s0 := s.setPanel x) (f := f) hl hs (h1.trans ho) (h2.trans hs) h3 k (fun p => by simp) y
  exact ⟨this.drum, this.fault, this.head, this.ended, this.finished⟩

/-- The end of an attempt leaves the scanner nothing to take (R45). -/
theorem swept_ended {slot : Nat} {o : AttemptOutcome} {ca : FailCause} {s v : State} (h : EndedAs slot o ca s v) (c : Instr) :
    swept c v = v := swept_off ⟨by rw [h.ended.scanner]; decide, fun _ => by rw [h.ended.scanner]; decide⟩

/-- An index slip counts in the attempt record alone (R2, R145). -/
theorem countIndexSlip_keeps (s : State) : (countIndexSlip s).pics.onDrum = s.pics.onDrum ∧
    onDrumState (countIndexSlip s) = onDrumState s ∧ (countIndexSlip s).pics.finishOrder = s.pics.finishOrder := by
  unfold countIndexSlip
  split
  · cases ho : s.pics.onDrum with
    | none => simp [modAttempt, modOnDrum, ho]
    | some slot =>
      rw [modAttempt_eq ho]
      exact ⟨ho, onDrumState_modRec_same _ _ _ fun _ => rfl, rfl⟩
  · exact ⟨rfl, rfl, rfl⟩

/-- The deviation lies beyond the tolerance (R2). -/
theorem not_tolerated {s : State} (hf : s.enc.indexFound = true) (hp : s.enc.pos ≤ 8191) (hg : ¬ IndexGood s) :
    ¬ (deviation s.enc.pos).natAbs ≤ s.tables.drum.indexTol := by
  refine fun ht => hg ⟨hf, hp, ?_⟩
  unfold deviation at ht
  split at ht
  · rw [if_pos ‹_›]; omega
  · rw [if_neg ‹_›]; omega

/-- The counter after the third index slip in a row (R2). -/
def lostEnc (e : Encoder) : Encoder :=
  { e with pos := 0, indexFound := false, slipRun := 0, curCap := none, prevCap := none, lastBoundary := none }

/-- The third index slip in a row (R2). -/
theorem checkIndex_loses {s : State} (hf : s.enc.indexFound = true) (hp : s.enc.pos ≤ 8191) (hg : ¬ IndexGood s)
    (hr : 2 ≤ s.enc.slipRun) : checkIndex s =
      drumFault .encoder ((countIndexSlip (s.setEnc { s.enc with pos := 0 })).setEnc (lostEnc s.enc)) := by
  have ht := not_tolerated hf hp hg
  have he : (countIndexSlip (s.setEnc { s.enc with pos := 0 })).enc = { s.enc with pos := 0 } :=
    (countIndexSlip_only (ps := [.pics]) (by decide) (Only.refl _ _)).enc (by decide)
  unfold checkIndex
  dsimp only
  rw [if_neg (by simp [hf]), if_neg (by simpa using ht), if_pos (by simpa using (by omega : 3 ≤ s.enc.slipRun + 1)), loseIndex, he]
  rfl

/-- A step past travel_limit is not made (R54). -/
theorem stepOut_past {s : State} (h : s.tables.scan.travelLimit < s.head.pos + 1) : stepOut s = attemptEnd .head (stopHead s) :=
  if_pos h

/-- The head stopped by a step past travel_limit, its step timer expired. -/
def faultedHead (x : Head) : Head := { x with state := .fault, owed := 0, stepTimer := none }

/-- The step timer's expiry in SCANNING with a step past travel_limit to make (R52, R54, R57). -/
theorem stepTimerExpiry_past_scanning {s : State} (ht : s.head.stepTimer.isSome = true) (hs : s.head.state = .scanning)
    (ho : 1 ≤ s.head.owed) (hp : s.tables.scan.travelLimit < s.head.pos + 1) :
    stepTimerExpiry s = attemptEnd .head (s.setHead (faultedHead s.head)) := by
  have hout : stepOut (s.setHead { s.head with stepTimer := none }) = attemptEnd .head (s.setHead (faultedHead s.head)) :=
    stepOut_past (s := s.setHead { s.head with stepTimer := none }) hp
  have hh : (attemptEnd .head (s.setHead (faultedHead s.head))).head.state = .fault :=
    congrArg Head.state (attemptEnd_head (s := s.setHead (faultedHead s.head)) finishing_head rfl)
  have hn : ¬ s.head.stepTimer.isNone = true := by rw [Option.isNone_eq_false_iff.2 ht]; decide
  have hu : (s.setHead { s.head with stepTimer := none }).head.state = .scanning := hs
  have hno : (s.setHead { s.head with stepTimer := none }).head.owed ≠ 0 := Nat.ne_of_gt ho
  unfold stepTimerExpiry
  rw [if_neg hn]
  dsimp only
  rw [hu]
  dsimp only
  rw [if_neg hno, hout, if_neg (by rw [hh]; decide)]

/-- The same in POSITIONING (R51, R54, R57). -/
theorem stepTimerExpiry_past_positioning {s : State} (ht : s.head.stepTimer.isSome = true)
    (hs : s.head.state = .positioning) (hp : s.tables.scan.travelLimit < s.head.pos + 1) (ha : attemptInProgress s = false) :
    stepTimerExpiry s = s.setHead (faultedHead s.head) := by
  have hout : stepOut (s.setHead { s.head with stepTimer := none }) = s.setHead (faultedHead s.head) :=
    (stepOut_past (s := s.setHead { s.head with stepTimer := none }) hp).trans
      (attemptEnd_of_none (t := s.setHead (faultedHead s.head)) ha)
  have hn : ¬ s.head.stepTimer.isNone = true := by rw [Option.isNone_eq_false_iff.2 ht]; decide
  have hu : (s.setHead { s.head with stepTimer := none }).head.state = .positioning := hs
  unfold stepTimerExpiry
  rw [if_neg hn]
  dsimp only
  rw [hu]
  dsimp only
  rw [positionStep, hout]
  exact if_neg fun h => nomatch h

/-- After a head fault without an attempt the evaluations reach the lamp alone. -/
theorem settle_headFault (s0 : State) : settle s0 (s0.setHead (faultedHead s0.head)) =
    lampEval s0 (s0.setHead (faultedHead s0.head)) := by
  refine settle_drive (fun p => by simp) (fun h => h) ?_ (fun h => nomatch h) (fun h => ?_) (fun h => ?_)
  · rw [standardEval_eq (s0 := s0) (s := s0.setHead (faultedHead s0.head)) (Or.inl rfl)]
    exact drumEval_same rfl rfl rfl
  · obtain ⟨l, e⟩ := lampEval_lamp s0 (s0.setHead (faultedHead s0.head))
    rw [e] at h
    exact nomatch (attemptReady_granted' h).2.2.1
  · exact (lineupReady_congr (s := s0) rfl fun p => by simp) ▸ h

/-- A step past travel_limit in SCANNING as an event (O19). -/
theorem past_scanning_event {s : State} {slot : Nat} (ht : s.head.stepTimer.isSome = true)
    (hp : s.tables.scan.travelLimit < s.head.pos + 1) (hh : s.head.state = .scanning) (hw : 1 ≤ s.head.owed) (hl : Links s)
    (ho : s.pics.onDrum = some slot) (hs : onDrumState s = .sending) :
    ∃ t, exec .stepTimerExpiry s = .next t ∧ t.head.state = .fault ∧ t.head.pos = s.head.pos ∧ t.head.owed = 0 ∧
      Ended .head s t ∧ FinishedAs slot .failed .head s t := by
  refine event_next (f := stepTimerExpiry) rfl fun x y => ?_
  have hop : stepTimerExpiry (s.setPanel x) = attemptEnd .head ((s.setPanel x).setHead (faultedHead s.head)) :=
    stepTimerExpiry_past_scanning (s := s.setPanel x) ht hh hw hp
  rw [hop]
  have k : Only [.enc, .drum, .reg, .head, .pics, .pins, .panel] s ((s.setPanel x).setHead (faultedHead s.head)) :=
    setHead_only _ (by decide) (setPanel_only _ (by decide) (Only.refl _ _))
  have he := attemptEnd_endedAs (u := (s.setPanel x).setHead (faultedHead s.head)) finishing_head (by decide) hl hs ho hs
    rfl k
  have ha := attemptEnd_head (s := (s.setPanel x).setHead (faultedHead s.head)) finishing_head rfl
  obtain ⟨ky, h1, h2⟩ := he.settled (s0 := s.setPanel x) (fun p => by simp) y
  have hhd := (ky.head (by decide)).trans ha
  rw [State.setHead_head] at hhd
  rw [hhd]
  exact ⟨rfl, rfl, rfl, h1, h2⟩

/-- A step past travel_limit in POSITIONING as an event (O19). -/
theorem past_positioning_event {s : State} (ht : s.head.stepTimer.isSome = true)
    (hp : s.tables.scan.travelLimit < s.head.pos + 1) (hh : s.head.state = .positioning) (ha : attemptInProgress s = false) :
    ∃ t, exec .stepTimerExpiry s = .next t ∧ Only [.head, .lamp, .panel] s t ∧
      t.head = { s.head with state := .fault, owed := 0, stepTimer := none } := by
  refine event_next (f := stepTimerExpiry) rfl fun x y => ?_
  obtain ⟨l, e⟩ := lampEval_lamp (s.setPanel x) ((s.setPanel x).setHead (faultedHead (s.setPanel x).head))
  rw [stepTimerExpiry_past_positioning (s := s.setPanel x) ht hh hp ha, settle_headFault (s.setPanel x), e]
  exact ⟨setPanel_only _ (by decide) (setLamp_only _ (by decide) (setHead_only _ (by decide)
    (setPanel_only _ (by decide) (Only.refl _ _)))), rfl⟩

/-- Settles O19: the five drum faults, the step past travel_limit in SCANNING and in POSITIONING. -/
theorem faultsEndAttempts : Obligations.FaultsEndAttempts := by
  refine ⟨fun s c f b prev period slot hl ho hs hd hc => ?_, fun s slot ht hp => ⟨fun hh hw hl ho hs => ?_, fun hh ha => ?_⟩⟩
  · have acts : ∀ g : DrumFault, g ≠ .none → g.actsIn s.drum.state = true := fun g hg => by
      cases g with
      | none => exact absurd rfl hg
      | _ => rcases hd with hd | hd <;> rw [hd] <;> rfl
    have sweep : ∀ (x : Panel) (u : State), Only [.enc, .pics, .pins, .panel] s u → u.pics.onDrum = s.pics.onDrum →
        onDrumState u = onDrumState s → u.pics.finishOrder = s.pics.finishOrder →
        swept c (enterCutoff f u) = enterCutoff f u := fun x u k h1 h2 h3 =>
      swept_ended (attemptEnd_endedAs (u := stopHead (u.setDrum (cutoffDrum f u.drum))) finishing_drum (by decide) hl hs
        (h1.trans ho) (h2.trans hs) h3 (setHead_only _ (by decide) (setDrum_only _ (by decide) (k.mono (by decide))))) c
    rcases hc with ⟨rfl, rfl, hst⟩ | ⟨rfl, rfl, hr⟩ | ⟨rfl, rfl, hf, hpos, hg, hr⟩ | ⟨rfl, hw, hp⟩ | ⟨rfl, rfl⟩
    · refine fault_event (op := stallDeadline) rfl hl ho hs fun x => ⟨s.setPanel x, ?_,
        setPanel_only _ (by decide) (Only.refl _ _), rfl, rfl, rfl⟩
      exact (if_pos ⟨hd, hst⟩).trans (drumFault_acts (acts _ (by decide)))
    · refine fault_event (op := encoderCount .reverse) rfl hl ho hs fun x => ⟨_,
        countReverse_raises (s := s.setPanel x) hr (Or.inr hd),
        setEnc_only _ (by decide) (setPanel_only _ (by decide) (Only.refl _ _)), rfl, rfl, rfl⟩
    · refine fault_event (op := fun u => swept .indexPulse (counted .indexPulse u)) rfl hl ho hs fun x => ?_
      have hci := checkIndex_loses (s := s.setPanel x) hf hpos hg hr
      obtain ⟨k1, k2, k3⟩ := countIndexSlip_keeps ((s.setPanel x).setEnc { s.enc with pos := 0 })
      have k : Only [.enc, .pics, .pins, .panel] s
          ((countIndexSlip ((s.setPanel x).setEnc { s.enc with pos := 0 })).setEnc (lostEnc s.enc)) :=
        setEnc_only _ (by decide) (countIndexSlip_only (by decide) (setEnc_only _ (by decide)
          (setPanel_only _ (by decide) (Only.refl _ _))))
      have hds : DrumFault.actsIn .encoder
          ((countIndexSlip ((s.setPanel x).setEnc { s.enc with pos := 0 })).setEnc (lostEnc s.enc)).drum.state = true := by
        rw [k.drum (by decide)]
        exact acts _ (by decide)
      rw [State.setPanel_enc, drumFault_acts hds] at hci
      refine ⟨_, ?_, k, k1, k2, k3⟩
      have hb : boundaryAt 0 (checkIndex (s.setPanel x)) = checkIndex (s.setPanel x) := by
        refine boundaryAt_lost 0 ?_
        rw [hci, enterCutoff_enc]
        rfl
      show swept .indexPulse (boundaryAt 0 (checkIndex (s.setPanel x))) = _
      rw [hb, hci]
      exact sweep x _ k k1 k2 k3
    · refine fault_event (op := fun u => swept c (counted c u)) hw.exec hl ho hs fun x => ?_
      obtain ⟨e, he⟩ := overspeed_cuts hw hd hp x
      have k : Only [.enc, .pics, .pins, .panel] s ((s.setPanel x).setEnc e) :=
        setEnc_only _ (by decide) (setPanel_only _ (by decide) (Only.refl _ _))
      refine ⟨_, ?_, k, rfl, rfl, rfl⟩
      show swept c (counted c (s.setPanel x)) = _
      rw [he]
      exact sweep x _ k rfl rfl rfl
    · refine fault_event (op := coverChange false) rfl hl ho hs fun x =>
        ⟨(s.setPanel x).setPins { s.pins with coverClosed := false }, ?_,
          setPins_only _ (by decide) (setPanel_only _ (by decide) (Only.refl _ _)), rfl, rfl, rfl⟩
      exact drumFault_acts (acts _ (by decide))
  · exact past_scanning_event ht hp hh hw hl ho hs
  · exact past_positioning_event ht hp hh ha

end Sys2Proof.Machine

/-! ## Unlocked windows of an attempt -/

namespace Sys2Proof.Machine

/-! ### Counts of an attempt record (R145) -/

/-- A count of the last attempt record of a slot. -/
def tally (g : Attempt → Nat) (s : State) (slot : Nat) : Option Nat :=
  (s.rec? slot).bind fun r => r.attempts.getLast?.map g

theorem tally_congr {g : Attempt → Nat} {s t : State} {slot : Nat} (h : t.pics.records = s.pics.records) :
    tally g t slot = tally g s slot := by
  rw [tally, tally, State.rec?, State.rec?, h]

/-- The last of a list after a change at its end. -/
theorem getLast?_modify {α : Type} (l : List α) (f : α → α) : (l.modify (l.length - 1) f).getLast? = l.getLast?.map f := by
  rw [List.getLast?_eq_getElem?, List.getLast?_eq_getElem?, List.length_modify, List.getElem?_modify]
  simp

theorem tally_modRec {g : Attempt → Nat} {i slot : Nat} {f : PicRecord → PicRecord} {s : State}
    (hf : ∀ r, (f r).attempts.getLast?.map g = r.attempts.getLast?.map g) : tally g (modRec i f s) slot = tally g s slot := by
  unfold tally State.rec? modRec
  rw [State.setPics_pics, List.getElem?_modify]
  cases s.pics.records[slot]? with
  | none => rfl
  | some r =>
    show (if i = slot then f r else r).attempts.getLast?.map g = r.attempts.getLast?.map g
    split
    · exact hf r
    · rfl

theorem tally_modAttempt {g : Attempt → Nat} {slot : Nat} {f : Attempt → Attempt} {s : State} (hf : ∀ a, g (f a) = g a) :
    tally g (modAttempt f s) slot = tally g s slot := by
  cases ho : s.pics.onDrum with
  | none => simp [modAttempt, modOnDrum, ho]
  | some i =>
    rw [modAttempt_eq ho]
    refine tally_modRec fun r => ?_
    show (r.attempts.modify (r.attempts.length - 1) f).getLast?.map g = _
    rw [getLast?_modify, Option.map_map]
    exact congrArg (fun h => r.attempts.getLast?.map h) (funext hf)

/-- The count that an event moves, of the attempt in progress. -/
theorem tally_modAttempt_last {g : Attempt → Nat} {slot : Nat} {f : Attempt → Attempt} {s : State} {r : PicRecord}
    {a : Attempt} (ho : s.pics.onDrum = some slot) (hr : s.rec? slot = some r) (ha : r.attempts.getLast? = some a) :
    tally g (modAttempt f s) slot = some (g (f a)) := by
  rw [tally, (modAttempt_keeps ho hr).2.2]
  show (r.attempts.modify (r.attempts.length - 1) f).getLast?.map g = _
  rw [getLast?_modify, ha]
  rfl

/-- A count that the closing of an attempt does not write (R146). -/
def Running (g : Attempt → Nat) : Prop :=
  ∀ (a : Attempt) (o : Option AttemptOutcome) (e : Option Reading) (d l u v f : Nat), g { a with
    outcome := o, endTime := e, duration := d, linesSent := l, underruns := u, overruns := v, flushed := f } = g a

theorem running_indexSlips : Running (·.indexSlips) := fun _ _ _ _ _ _ _ _ => rfl
theorem running_lockLost : Running (·.lockLost) := fun _ _ _ _ _ _ _ _ => rfl

section running

variable {g : Attempt → Nat} {slot : Nat}

theorem tally_requestSlip {kind : SlipKind} (hk : kind ≠ .reprint) (i : Nat) (s : State) :
    tally g (requestSlip i kind s).1 slot = tally g s slot := by
  obtain ⟨status, h⟩ := requestSlip_pics hk i s
  rw [tally_congr (congrArg PicTable.records h)]
  exact tally_modRec fun _ => rfl

theorem tally_finishRecord (i : Nat) (o : FinalOutcome) (c : FailCause) (s : State) :
    tally g (finishRecord i o c s) slot = tally g s slot := by
  have hm := tally_modRec (g := g) (i := i) (slot := slot) (s := s)
    (f := fun r => { r with state := .finished, final := some ⟨o, c, clockReading s⟩ }) fun _ => rfl
  unfold finishRecord
  dsimp only
  rw [tally_requestSlip (by decide)]
  split
  · rw [tally_congr (congrArg PicTable.records
      ((rewindHead_only (ps := [.head, .tables]) (by decide) (by decide) (Only.refl _ _)).pics (by decide)))]
    exact Eq.trans (tally_congr rfl) hm
  · exact Eq.trans (tally_congr rfl) hm

theorem tally_moveRecord (i : Nat) (o : AttemptOutcome) (s : State) : tally g (moveRecord i o s) slot = tally g s slot := by
  have await : tally g (awaitReceipts i s) slot = tally g s slot :=
    (tally_congr (s := modRec i (fun r => { r with state := .awaiting }) s) rfl).trans
      (tally_modRec (f := fun r => { r with state := .awaiting }) fun _ => rfl)
  have again : tally g (grantAgain i s) slot = tally g s slot := by
    unfold grantAgain
    split
    · exact tally_finishRecord _ _ _ _
    · have hm := tally_modRec (g := g) (i := i) (slot := slot) (s := s.setPics { s.pics with receiptTimer := none })
        (f := fun r => { r with state := .granted }) fun _ => rfl
      exact hm.trans (tally_congr rfl)
  unfold moveRecord
  cases o with
  | complete => exact await
  | broken => exact await
  | line =>
    dsimp only
    split
    · exact again
    · exact tally_finishRecord _ _ _ _
  | _ => exact tally_finishRecord _ _ _ _

/-- The end of an attempt leaves the running counts of its record (R146). -/
theorem tally_attemptEnd (hg : Running g) (o : AttemptOutcome) (s : State) :
    tally g (attemptEnd o s) slot = tally g s slot := by
  cases ho : s.pics.onDrum with
  | none => simp [attemptEnd, ho]
  | some i =>
    cases hp : attemptInProgress s with
    | false => rw [attemptEnd_of_none hp]
    | true =>
      have k1 : Only [.scan, .conv, .store] s (flushStore (stopScanner s)) :=
        flushStore_only (by decide) (stopScanner_only (by decide) (by decide) (Only.refl _ s))
      have k2 : Only [.portA, .portB, .sender] (closeAttempt o (flushStore (stopScanner s)))
          (closeSender o (closeAttempt o (flushStore (stopScanner s)))) :=
        closeSender_only _ (by decide) (by decide) (by decide) (Only.refl _ _)
      have k3 : Only [.head, .tables] (moveRecord i o (closeSender o (closeAttempt o (flushStore (stopScanner s)))))
          (attemptEnd o s) := by
        rw [attemptEnd_eq ho hp]
        exact endAttemptUse_only (by decide) (rewindHead_only (by decide) (by decide) (Only.refl _ _))
      calc tally g (attemptEnd o s) slot
        _ = tally g (moveRecord i o (closeSender o (closeAttempt o (flushStore (stopScanner s))))) slot :=
          tally_congr (congrArg _ (k3.pics (by decide)))
        _ = tally g (closeSender o (closeAttempt o (flushStore (stopScanner s)))) slot := tally_moveRecord _ _ _
        _ = tally g (closeAttempt o (flushStore (stopScanner s))) slot := tally_congr (congrArg _ (k2.pics (by decide)))
        _ = tally g (flushStore (stopScanner s)) slot := tally_modAttempt fun a => hg a ..
        _ = tally g s slot := tally_congr (congrArg _ (k1.pics (by decide)))

end running

/-! ### The lock decision (R11, R12, R31) -/

/-- The window leaves the drum in TRACKING: the lock is not reached, or lost (R11, R31). -/
def StaysUnlocked (eRaw : Int) (s : State) : Prop :=
  (s.drum.state = .tracking ∧
    (if eRaw.natAbs ≤ s.tables.drum.lockBand then satInc 255 s.reg.lockCount else 0) < s.tables.drum.lockCount) ∨
  (s.drum.state = .locked ∧ s.tables.drum.unlockBand < eRaw.natAbs ∧ 1 ≤ s.reg.unlockCount)

theorem decideLock_stays {eRaw : Int} {s : State} (h : StaysUnlocked eRaw s) :
    ∃ g, decideLock eRaw s = (s.setReg g).setDrum { s.drum with state := .tracking } := by
  rcases h with ⟨hs, hc⟩ | ⟨hs, hf, hu⟩
  · have e : s.drum = { s.drum with state := .tracking } := by rw [← hs]
    unfold decideLock
    rw [hs]
    dsimp only
    rw [if_neg (Nat.not_le.2 hc), ← e]
    refine ⟨{ s.reg with lockCount := if eRaw.natAbs ≤ s.tables.drum.lockBand then satInc 255 s.reg.lockCount else 0 }, rfl⟩
  · unfold decideLock
    rw [hs]
    dsimp only
    rw [if_pos hf, if_pos (by omega)]
    exact ⟨_, rfl⟩

theorem decideLock_locks {eRaw : Int} {s : State} (hd : s.drum.state = .tracking ∨ s.drum.state = .locked)
    (h : ¬ StaysUnlocked eRaw s) : ∃ g n, decideLock eRaw s = (s.setReg g).setDrum { s.drum with state := .locked, unlocked := n } ∧
      (s.drum.state = .tracking → n = 0) ∧ (s.drum.state = .locked → n = s.drum.unlocked) := by
  rcases hd with hs | hs
  · refine ⟨{ s.reg with lockCount := 0, unlockCount := 0 }, 0, ?_, fun _ => rfl, fun h => nomatch hs.symm.trans h⟩
    have hc : s.tables.drum.lockCount ≤
        (if eRaw.natAbs ≤ s.tables.drum.lockBand then satInc 255 s.reg.lockCount else 0) :=
      Nat.not_lt.1 fun hc => h (Or.inl ⟨hs, hc⟩)
    unfold decideLock
    rw [hs]
    dsimp only
    rw [if_pos hc]
  · have e : s.drum = { s.drum with state := .locked, unlocked := s.drum.unlocked } := by rw [← hs]
    have hc : ¬ 2 ≤ (if s.tables.drum.unlockBand < eRaw.natAbs then s.reg.unlockCount + 1 else 0) := by
      split
      · rename_i hf
        exact fun hc => h (Or.inr ⟨hs, hf, by omega⟩)
      · omega
    refine ⟨{ s.reg with unlockCount := if s.tables.drum.unlockBand < eRaw.natAbs then s.reg.unlockCount + 1 else 0 },
      s.drum.unlocked, ?_, fun h => (nomatch hs.symm.trans h), fun _ => rfl⟩
    unfold decideLock
    rw [hs]
    dsimp only
    rw [if_neg hc, ← e]
    rfl

/-- The drum and the regulator right after the regulator's work at a window event. -/
def regulated (period : Nat) (s : State) : State := regulate period (setStallDeadline s)

theorem regulated_only (period : Nat) (s : State) : Only [.drum, .reg] s (regulated period s) :=
  regulate_only _ (by decide) (by decide) (setStallDeadline_only (by decide) (Only.refl _ _))

theorem regulatedWindow_eq {period : Nat} {s : State} (h : (standardInForce s).w ≤ 2 * period) :
    regulatedWindow period s = countUnlocked (decideLock (eRawOf period s) (regulated period s)) :=
  if_neg (Nat.not_lt.2 h)

theorem windowEvent_regulated {period : Nat} {s : State} (hd : s.drum.state = .tracking ∨ s.drum.state = .locked)
    (h : (standardInForce s).w ≤ 2 * period) :
    windowEvent period s = countUnlocked (decideLock (eRawOf period s) (regulated period s)) := by
  rw [← regulatedWindow_eq h]
  rcases hd with hd | hd <;> simp only [windowEvent, hd]

/-! ### An attempt that goes on (O14) -/

theorem onDrumRec_modRec {slot : Nat} {f : PicRecord → PicRecord} {s : State} {r : PicRecord}
    (ho : s.pics.onDrum = some slot) (hr : s.rec? slot = some r) : onDrumRec (modRec slot f s) = some (f r) := by
  refine onDrumRec_of (s := modRec slot f s) ho ?_
  rw [rec?_modRec, hr]
  rfl

/-- A change of the attempt record in progress is nothing the drive watches. -/
theorem modAttempt_standard {f : Attempt → Attempt} {s : State} {slot : Nat} {r : PicRecord} (ho : s.pics.onDrum = some slot)
    (hr : s.rec? slot = some r) : standardNumber (modAttempt f s) = standardNumber s ∧
      onDrumState (modAttempt f s) = onDrumState s := by
  rw [modAttempt_eq ho]
  constructor
  · rw [standardNumber, standardNumber, onDrumGrant, onDrumGrant, onDrumRec_modRec ho hr, onDrumRec_of ho hr]
    rfl
  · exact onDrumState_modRec_same _ _ _ fun _ => rfl

/-- While an attempt goes on, its drum turning at its standard, the evaluations change nothing. -/
theorem settle_attempt {s0 v : State} (k : Only [.enc, .drum, .reg, .pics] s0 v) (h0 : onDrumState s0 = .sending)
    (hv : onDrumState v = .sending) (hk : standardNumber v = standardNumber s0) (hs : v.sender.state ≠ .free)
    (hd0 : s0.drum.state = .tracking ∨ s0.drum.state = .locked) (hd : v.drum.state = .tracking ∨ v.drum.state = .locked) :
    settle s0 v = v := by
  have hport : ∀ p, v.port p = s0.port p := fun p => k.port (p := p) (by cases p <;> decide)
  have hkey : standardKey s0 = standardKey v := (standardKey_number (k.tables (by decide))).2 hk.symm
  have hdem : demand v = true := by simp [demand, hv]
  refine settle_drive_lit (fun p => by rw [hport]) (fun h => ?_)
    (drive_eq (Or.inl hkey) (evaluateDemand_demanded hdem (Or.inr hd))) (fun _ h => ?_) ?_ (fun h => ?_) (fun h => ?_)
  · rw [noPortLeft_of_not_granted (by rw [hv]; decide)] at h
    exact nomatch h
  · exact nomatch hv.symm.trans h
  · refine lampDemand_congr (hv.trans h0.symm) (k.scan (by decide)) ?_ (by rw [k.head (by decide)])
    rcases hd0 with hd0 | hd0 <;> rcases hd with hd | hd <;> rw [hd0, hd] <;> decide
  · exact nomatch hv.symm.trans (attemptReady_granted' h).1
  · simp [lineupReady, hs] at h

/-- One more unlocked window of the attempt (R12, R145). -/
def unlockedOnce (s : State) : State := countLockLost (s.setDrum { s.drum with unlocked := s.drum.unlocked + 1 })

theorem countUnlocked_tracking {s : State} (ha : onDrumState s = .sending) (hd : s.drum.state = .tracking) :
    countUnlocked s = if 32 ≤ s.drum.unlocked + 1 then attemptEnd .drum (unlockedOnce s) else unlockedOnce s :=
  if_pos ⟨by simp [attemptInProgress, ha], hd⟩

theorem countUnlocked_locked {s : State} (hd : s.drum.state = .locked) : countUnlocked s = s :=
  if_neg fun h => by rw [hd] at h; exact nomatch h.2

/-- The state right after an unlocked window is counted, and what it has of the state before it. -/
theorem unlockedOnce_keeps {s : State} {slot : Nat} {r : PicRecord} {a : Attempt} (ho : s.pics.onDrum = some slot)
    (hr : s.rec? slot = some r) (hs : r.state = .sending) (ha : r.attempts.getLast? = some a) :
    Only [.drum, .pics] s (unlockedOnce s) ∧
      (unlockedOnce s).drum = { s.drum with unlocked := s.drum.unlocked + 1 } ∧
      tally (·.lockLost) (unlockedOnce s) slot = some (satInc 65535 a.lockLost) ∧
      onDrumState (unlockedOnce s) = .sending ∧ standardNumber (unlockedOnce s) = standardNumber s ∧
      (unlockedOnce s).pics.onDrum = some slot ∧ (unlockedOnce s).pics.finishOrder = s.pics.finishOrder := by
  have hst : onDrumState s = .sending := (onDrumState_rec ho hr).trans hs
  have e : unlockedOnce s = modAttempt (fun a => { a with lockLost := satInc 65535 a.lockLost })
      (s.setDrum { s.drum with unlocked := s.drum.unlocked + 1 }) :=
    if_pos (show attemptInProgress s = true by simp [attemptInProgress, hst])
  have hd : (unlockedOnce s).drum = { s.drum with unlocked := s.drum.unlocked + 1 } :=
    (countLockLost_only (ps := [.pics]) (by decide) (Only.refl _ _)).drum (by decide)
  obtain ⟨k1, k2, -⟩ := modAttempt_keeps (f := fun a => { a with lockLost := satInc 65535 a.lockLost })
    (s := s.setDrum { s.drum with unlocked := s.drum.unlocked + 1 }) ho hr
  obtain ⟨k3, k4⟩ := modAttempt_standard (f := fun a => { a with lockLost := satInc 65535 a.lockLost })
    (s := s.setDrum { s.drum with unlocked := s.drum.unlocked + 1 }) ho hr
  refine ⟨countLockLost_only (by decide) (setDrum_only _ (by decide) (Only.refl _ _)), hd, ?_, ?_, ?_, ?_, ?_⟩
  · rw [e]
    exact tally_modAttempt_last (s := s.setDrum { s.drum with unlocked := s.drum.unlocked + 1 }) ho hr ha
  · rw [e, k4]
    exact hst
  · rw [e, k3]
    rfl
  · rw [e]; exact k1
  · rw [e]; exact k2

/-- The drum at the end of the event with the 32nd unlocked window (R12, R14). -/
theorem settle_unlocked_drum {s0 v : State} (hf : ∀ p, (v.port p).inFault = (s0.port p).inFault)
    (hv : onDrumState v = .finished) (hs : v.sender.state ≠ .free) (h0 : onDrumState s0 = .sending)
    (hd : v.drum.state = .tracking) :
    (settle s0 v).drum.state = if v.drum.spinLatch = true then .tracking else .braking := by
  obtain ⟨l, e⟩ := lampEval_lamp s0 (drumEval s0 (standardEval s0 v))
  rw [settle_ended hf (by rw [hv]; decide) hs, e]
  have k : ∃ g, standardEval s0 v = (v.setReg g).setDrum { v.drum with state := .tracking } := by
    unfold standardEval
    split
    · exact ⟨_, rfl⟩
    · refine ⟨v.reg, ?_⟩
      rw [show ({ v.drum with state := .tracking } : Drum) = v.drum by rw [← hd]]
      rfl
  obtain ⟨g, hg⟩ := k
  have hdem : demand ((v.setReg g).setDrum { v.drum with state := .tracking }) = v.drum.spinLatch := by
    have : onDrumState ((v.setReg g).setDrum { v.drum with state := .tracking }) = .finished := hv
    simp [demand, this]
  show (drumEval s0 (standardEval s0 v)).drum.state = _
  rw [hg]
  cases hl : v.drum.spinLatch with
  | true =>
    rw [drumEval_eq (evaluateDemand_demanded (hdem.trans hl) (Or.inr (Or.inl rfl)))]
    rfl
  | false =>
    rw [drumEval_changed (Or.inl (by rw [hdem, hl]; simp [demand, h0])),
      evaluateDemand_braked (hdem.trans hl) (Or.inr (Or.inl rfl))]
    rfl

/-- The drum's part of a window event that is regulated. -/
theorem WindowAt.regulates {c : Instr} {s : State} {b : Nat} {prev : Tick} {period : Nat} (h : WindowAt c s b prev period)
    (hd : s.drum.state = .tracking ∨ s.drum.state = .locked) (hp : (standardInForce s).w ≤ 2 * period) (x : Panel) :
    ∃ e : Encoder, Machine.counted c (s.setPanel x) =
      countUnlocked (decideLock (eRawOf period s) (regulated period ((s.setPanel x).setEnc e))) ∧
      e.curCap = some s.now ∧ e.prevCap = some prev ∧ e.lastBoundary = some b := by
  obtain ⟨e, hc, h1, h2, h3, -⟩ := (h.setPanel x).counted
  exact ⟨e, hc.trans (windowEvent_regulated (s := (s.setPanel x).setEnc e) hd hp), h1, h2, h3⟩

section unlocked

variable {c : Instr} {s : State} {slot : Nat} {r : PicRecord} {a : Attempt} {x : Panel} {e : Encoder} {period : Nat}

/-- What the drum's part of the event has left after the lock decision. -/
def decided (s : State) (x : Panel) (e : Encoder) (period : Nat) : State :=
  decideLock (eRawOf period s) (regulated period ((s.setPanel x).setEnc e))

theorem decided_only (s : State) (x : Panel) (e : Encoder) (period : Nat) :
    Only [.enc, .drum, .reg] (s.setPanel x) (decided s x e period) :=
  decideLock_only _ (by decide) (by decide)
    ((setEnc_only e (by decide) (Only.refl _ _)).trans ((regulated_only period _).mono (by decide)))

variable (hl : Links s) (hu : Unscanned c s) (hd : s.drum.state = .tracking ∨ s.drum.state = .locked)
  (ho : s.pics.onDrum = some slot) (hr : s.rec? slot = some r) (hs : r.state = .sending)

include hl ho hr hs in
/-- The sender of an attempt in progress is not FREE. -/
theorem sender_busy : s.sender.state ≠ .free := by
  have h := hl.attempt
  rw [attemptInProgress, onDrumState_rec ho hr, hs] at h
  intro hf
  rw [hf] at h
  exact nomatch h

include hl hu hd ho hr hs in
/-- A regulated window that does not leave the drum in TRACKING (O14). -/
theorem window_locked (h : ¬ StaysUnlocked (eRawOf period s) (regulated period ((s.setPanel x).setEnc e))) (y : Panel) :
    ∃ n, (s.drum.state = .tracking → n = 0) ∧ (s.drum.state = .locked → n = s.drum.unlocked) ∧
      ((settle (s.setPanel x) (swept c (countUnlocked (decided s x e period)))).setPanel y).drum.state = .locked ∧
      ((settle (s.setPanel x) (swept c (countUnlocked (decided s x e period)))).setPanel y).drum.unlocked = n ∧
      ((settle (s.setPanel x) (swept c (countUnlocked (decided s x e period)))).setPanel y).pics = s.pics := by
  have k := decided_only s x e period
  obtain ⟨g, n, hw, h1, h2⟩ := decideLock_locks (s := regulated period ((s.setPanel x).setEnc e)) hd h
  have hst : (decided s x e period).drum.state = .locked := by rw [decided, hw]; rfl
  have hn : (decided s x e period).drum.unlocked = n := by rw [decided, hw]; rfl
  have hsend : onDrumState s = .sending := (onDrumState_rec ho hr).trans hs
  rw [countUnlocked_locked hst, swept_off (by
      rw [Unscanned, k.scan (by decide)]
      exact hu),
    settle_attempt (k.mono (by decide)) hsend ((onDrumState_congr (k.pics (by decide))).trans hsend)
      (standardNumber_congr (k.pics (by decide)))
      (by rw [k.sender (by decide)]; exact sender_busy (s := s) hl ho hr hs) hd (Or.inr hst)]
  exact ⟨n, h1, h2, hst, hn, k.pics (by decide)⟩

variable (ha : r.attempts.getLast? = some a)
  (h : StaysUnlocked (eRawOf period s) (regulated period ((s.setPanel x).setEnc e)))

include h in
theorem decided_stays : (decided s x e period).drum.state = .tracking ∧
    (decided s x e period).drum.unlocked = s.drum.unlocked ∧ (decided s x e period).drum.spinLatch = s.drum.spinLatch := by
  obtain ⟨g, hw⟩ := decideLock_stays h
  rw [decided, hw]
  exact ⟨rfl, rfl, rfl⟩

include ho hr hs ha h in
/-- The count of the window, in the drive and in the attempt record. -/
theorem decided_unlockedOnce : Only [.enc, .drum, .reg, .pics] (s.setPanel x) (unlockedOnce (decided s x e period)) ∧
    (unlockedOnce (decided s x e period)).drum.state = .tracking ∧
    (unlockedOnce (decided s x e period)).drum.unlocked = s.drum.unlocked + 1 ∧
    (unlockedOnce (decided s x e period)).drum.spinLatch = s.drum.spinLatch ∧
    tally (·.lockLost) (unlockedOnce (decided s x e period)) slot = some (satInc 65535 a.lockLost) ∧
    onDrumState (unlockedOnce (decided s x e period)) = .sending ∧
    standardNumber (unlockedOnce (decided s x e period)) = standardNumber s ∧
    (unlockedOnce (decided s x e period)).pics.onDrum = some slot ∧
    (unlockedOnce (decided s x e period)).pics.finishOrder = s.pics.finishOrder := by
  have k := decided_only s x e period
  have hpics : (decided s x e period).pics = s.pics := k.pics (by decide)
  obtain ⟨h1, h2, h3⟩ := decided_stays h
  obtain ⟨m1, m2, m3, m4, m5, m6, m7⟩ := unlockedOnce_keeps (s := decided s x e period) (by rw [hpics]; exact ho)
    (by rw [State.rec?, hpics]; exact hr) hs ha
  refine ⟨(k.mono (by decide)).trans (m1.mono (by decide)), ?_, ?_, ?_, m3, m4, m5.trans (standardNumber_congr hpics), m6, ?_⟩
  · rw [m2]; exact h1
  · rw [m2]; exact congrArg (· + 1) h2
  · rw [m2]; exact h3
  · rw [m7, hpics]

include hl hu hd ho hr hs ha h in
/-- A regulated window that leaves the drum in TRACKING, not the 32nd (O14). -/
theorem window_unlocked (hn : s.drum.unlocked < 31) (y : Panel) :
    let t := (settle (s.setPanel x) (swept c (countUnlocked (decided s x e period)))).setPanel y
    tally (·.lockLost) t slot = some (satInc 65535 a.lockLost) ∧ t.drum.state = .tracking ∧
      t.drum.unlocked = s.drum.unlocked + 1 ∧ attemptInProgress t = true := by
  obtain ⟨h1, h2, -⟩ := decided_stays h
  obtain ⟨k, m1, m2, -, m3, m4, m5, -⟩ := decided_unlockedOnce ho hr hs ha h
  have hsend : onDrumState s = .sending := (onDrumState_rec ho hr).trans hs
  have hsd : onDrumState (decided s x e period) = .sending :=
    (onDrumState_congr ((decided_only s x e period).pics (by decide))).trans hsend
  have hcu : countUnlocked (decided s x e period) = unlockedOnce (decided s x e period) := by
    rw [countUnlocked_tracking hsd h1, if_neg (by omega)]
  rw [hcu, swept_off (by
      rw [Unscanned, k.scan (by decide)]
      exact hu),
    settle_attempt k hsend m4 m5 (by rw [k.sender (by decide)]; exact sender_busy (s := s) hl ho hr hs) hd (Or.inl m1)]
  exact ⟨m3, m1, m2, by simp [attemptInProgress, m4]⟩

include hl ho hr hs ha h in
/-- The 32nd unlocked window (O14). -/
theorem window_unlocked_last (hn : 31 ≤ s.drum.unlocked) (y : Panel) :
    let t := (settle (s.setPanel x) (swept c (countUnlocked (decided s x e period)))).setPanel y
    tally (·.lockLost) t slot = some (satInc 65535 a.lockLost) ∧ Ended .drum s t ∧ FinishedAs slot .failed .drum s t ∧
      t.drum.state = if s.drum.spinLatch = true then .tracking else .braking := by
  obtain ⟨h1, h2, -⟩ := decided_stays h
  obtain ⟨k, m1, m2, m8, m3, m4, m5, m6, m7⟩ := decided_unlockedOnce ho hr hs ha h
  have hsend : onDrumState s = .sending := (onDrumState_rec ho hr).trans hs
  have hsd : onDrumState (decided s x e period) = .sending :=
    (onDrumState_congr ((decided_only s x e period).pics (by decide))).trans hsend
  have hcu : countUnlocked (decided s x e period) = attemptEnd .drum (unlockedOnce (decided s x e period)) := by
    rw [countUnlocked_tracking hsd h1, if_pos (by omega)]
  have ks : Only [.enc, .drum, .reg, .head, .pics, .pins, .panel] s (unlockedOnce (decided s x e period)) :=
    (setPanel_only x (by decide) (Only.refl _ _)).trans (k.mono (by decide))
  have he := attemptEnd_endedAs finishing_drum (by decide) hl hsend m6 m4 m7 ks
  obtain ⟨ky, e1, e2⟩ := he.settled (s0 := s.setPanel x) (fun p => by simp) y
  have hd := (attemptEnd_frame .drum (unlockedOnce (decided s x e period))).drum (by decide)
  rw [hcu, swept_ended he]
  refine ⟨?_, e1, e2, ?_⟩
  · rw [tally_congr (congrArg _ (ky.pics (by decide))), tally_attemptEnd running_lockLost, m3]
  · show (settle (s.setPanel x) (attemptEnd .drum (unlockedOnce (decided s x e period)))).drum.state = _
    rw [settle_unlocked_drum (s0 := s.setPanel x) (fun p => by simp [Port.inFault, he.cause]) he.state (by rw [he.ended.tone]; decide) hsend
      (by rw [hd]; exact m1), hd, m8]

end unlocked

/-- Settles O14: the window that stays unlocked, the 32nd, the one that locks. -/
theorem unlockedWindows : Obligations.UnlockedWindows := by
  intro c s b prev period slot r a hl hw hu hd hp ho hr hs ha p far count stays
  refine event_next hw.exec fun x y => ?_
  obtain ⟨e, hc, -⟩ := hw.regulates hd hp x
  have hstays : stays = StaysUnlocked (eRawOf period s) (regulated period ((s.setPanel x).setEnc e)) := rfl
  rw [hstays]
  rw [hc, ← decided]
  by_cases h : StaysUnlocked (eRawOf period s) (regulated period ((s.setPanel x).setEnc e))
  · by_cases hn : s.drum.unlocked < 31
    · obtain ⟨h1, h2, h3, h4⟩ := window_unlocked hl hu hd ho hr hs ha h hn y
      exact ⟨fun _ => h1, fun _ _ => ⟨h2, h3, h4⟩, fun _ h' => absurd hn (Nat.not_lt.2 h'), fun h' => absurd h h'⟩
    · obtain ⟨h1, h2, h3, h4⟩ := window_unlocked_last (c := c) hl ho hr hs ha h (Nat.not_lt.1 hn) y
      exact ⟨fun _ => h1, fun _ h' => absurd h' hn, fun _ _ => ⟨h2, h3, h4⟩, fun h' => absurd h h'⟩
  · obtain ⟨n, h1, h2, h3, h4, h5⟩ := window_locked hl hu hd ho hr hs h y
    exact ⟨fun h' => absurd h' h, fun h' => absurd h' h, fun h' => absurd h' h,
      fun _ => ⟨h3, h5, fun h' => h4.trans (h1 h'), fun h' => h4.trans (h2 h')⟩⟩

end Sys2Proof.Machine

/-! ## What the scanner's and the head's part of an event keeps -/

namespace Sys2Proof.Machine

/-! ### The relations -/

/-- Two ports show the same to the evaluations and to the report rules: all but their counts, their timers of R82 and R83 and
the loop-current level. -/
structure SameLine (x y : Port) : Prop where
  activity : y.activity = x.activity
  cause : y.cause = x.cause
  list : y.list = x.list
  turn : y.turn = x.turn
  rx : y.rx = x.rx

theorem SameLine.refl (x : Port) : SameLine x x := ⟨rfl, rfl, rfl, rfl, rfl⟩

theorem SameLine.trans {x y z : Port} (h : SameLine x y) (k : SameLine y z) : SameLine x z :=
  ⟨k.activity.trans h.activity, k.cause.trans h.cause, k.list.trans h.list, k.turn.trans h.turn, k.rx.trans h.rx⟩

/-- `t` comes of `s` by what keeps the lines and the order queue, a drum at rest with its pending profile, and of the lamp
whether it is OFF, and whether it is OFF or in FAULT, but for a LAMP fault. -/
structure Carried (s t : State) : Prop where
  port : ∀ p, SameLine (s.port p) (t.port p)
  orders : t.orders = s.orders
  stopped : s.drum.state = .stopped → t.drum.state = .stopped ∧ t.tables.drumPending = s.tables.drumPending
  lampOn : s.lamp.state ≠ .off → t.lamp.state ≠ .off
  lampOff : s.lamp.state = .off ∨ s.lamp.state = .fault → t.lamp.state = .off ∨ t.lamp.state = .fault

/-- `t` comes of `s` by what besides grants no record, starts no attempt, counts no index slip, and changes the picture table
and the standard in force only where an attempt ends. -/
structure Swept (s t : State) : Prop extends Carried s t where
  slips : ∀ slot, tally (·.indexSlips) t slot = tally (·.indexSlips) s slot
  granted : onDrumState t = .granted → onDrumState s = .granted
  sending : attemptInProgress t = true → attemptInProgress s = true ∧ standardKey t = standardKey s
  idle : attemptInProgress s = false → t.pics = s.pics ∧ t.tables.standards = s.tables.standards

theorem Carried.refl (s : State) : Carried s s :=
  ⟨fun _ => SameLine.refl _, rfl, fun h => ⟨h, rfl⟩, id, id⟩

theorem Carried.trans {s t u : State} (h : Carried s t) (k : Carried t u) : Carried s u where
  port p := (h.port p).trans (k.port p)
  orders := k.orders.trans h.orders
  stopped hs := ⟨(k.stopped (h.stopped hs).1).1, (k.stopped (h.stopped hs).1).2.trans (h.stopped hs).2⟩
  lampOn hs := k.lampOn (h.lampOn hs)
  lampOff hs := k.lampOff (h.lampOff hs)

theorem Swept.refl (s : State) : Swept s s :=
  { Carried.refl s with slips := fun _ => rfl, granted := id, sending := fun h => ⟨h, rfl⟩, idle := fun _ => ⟨rfl, rfl⟩ }

theorem Swept.trans {s t u : State} (h : Swept s t) (k : Swept t u) : Swept s u where
  toCarried := h.toCarried.trans k.toCarried
  slips slot := (k.slips slot).trans (h.slips slot)
  granted hu := h.granted (k.granted hu)
  sending hu :=
    have ht := k.sending hu
    have hs := h.sending ht.1
    ⟨hs.1, ht.2.trans hs.2⟩
  idle hs := by
    obtain ⟨h1, h2⟩ := h.idle hs
    obtain ⟨k1, k2⟩ := k.idle (by rw [attemptInProgress_congr h1]; exact hs)
    exact ⟨k1.trans h1, k2.trans h2⟩

/-- What leaves ports, queue, drive, tables and lamp alone. -/
theorem Carried.of_only {ps : List Part} {s t : State} (h : Only ps s t)
    (hp : ∀ q ∈ [Part.portA, .portB, .orders, .drum, .tables, .lamp], q ∉ ps) : Carried s t where
  port p := by
    rw [h.port (p := p) (by cases p; exacts [hp _ (by decide), hp _ (by decide)])]
    exact SameLine.refl _
  orders := h.orders (hp _ (by decide))
  stopped hs := ⟨by rw [h.drum (hp _ (by decide))]; exact hs, by rw [h.tables (hp _ (by decide))]⟩
  lampOn := by rw [h.lamp (hp _ (by decide))]; exact id
  lampOff := by rw [h.lamp (hp _ (by decide))]; exact id

/-- What a drum that is not at rest may do besides. -/
theorem Carried.of_moving {ps : List Part} {s t : State} (hd : s.drum.state ≠ .stopped) (h : Only ps s t)
    (hp : ∀ q ∈ [Part.portA, .portB, .orders, .lamp], q ∉ ps) : Carried s t where
  port p := by
    rw [h.port (p := p) (by cases p; exacts [hp _ (by decide), hp _ (by decide)])]
    exact SameLine.refl _
  orders := h.orders (hp _ (by decide))
  stopped hs := absurd hs hd
  lampOn := by rw [h.lamp (hp _ (by decide))]; exact id
  lampOff := by rw [h.lamp (hp _ (by decide))]; exact id

/-- A change of the state that keeps the picture table and the standards besides. -/
theorem Swept.of_carried {s t : State} (h : Carried s t) (hp : t.pics = s.pics)
    (ht : t.tables.standards = s.tables.standards) : Swept s t where
  toCarried := h
  slips _ := tally_congr (congrArg _ hp)
  granted hg := (onDrumState_congr hp).symm.trans hg
  sending hg := ⟨(attemptInProgress_congr hp).symm.trans hg, standardKey_congr hp ht⟩
  idle _ := ⟨hp, ht⟩

theorem Swept.of_only {ps : List Part} {s t : State} (h : Only ps s t)
    (hp : ∀ q ∈ [Part.portA, .portB, .orders, .drum, .tables, .lamp, .pics], q ∉ ps) : Swept s t :=
  Swept.of_carried (Carried.of_only h fun q hq => hp q (by simp only [List.mem_cons] at hq ⊢; tauto))
    (h.pics (hp _ (by decide))) (by rw [h.tables (hp _ (by decide))])

/-! ### The named updates -/

section sets

variable {s t : State} (h : Swept s t)
include h

theorem setScan_swept (x : Scanner) : Swept s (t.setScan x) :=
  h.trans (Swept.of_only (setScan_only (ps := [.scan]) x (by decide) (Only.refl _ _)) (by decide))
theorem setHead_swept (x : Head) : Swept s (t.setHead x) :=
  h.trans (Swept.of_only (setHead_only (ps := [.head]) x (by decide) (Only.refl _ _)) (by decide))
theorem setStore_swept (x : LineStore) : Swept s (t.setStore x) :=
  h.trans (Swept.of_only (setStore_only (ps := [.store]) x (by decide) (Only.refl _ _)) (by decide))
theorem setSender_swept (x : Sender) : Swept s (t.setSender x) :=
  h.trans (Swept.of_only (setSender_only (ps := [.sender]) x (by decide) (Only.refl _ _)) (by decide))

end sets

/-! ### The head on its way home (R55, R56) -/

theorem applyScan_tables (s : State) : (applyScan s).tables.drumPending = s.tables.drumPending ∧
    (applyScan s).tables.standards = s.tables.standards := by
  unfold applyScan
  split <;> exact ⟨rfl, rfl⟩

theorem parkHead_tables (s : State) : (parkHead s).tables.drumPending = s.tables.drumPending ∧
    (parkHead s).tables.standards = s.tables.standards := by
  unfold parkHead
  dsimp only
  split
  · exact ⟨rfl, rfl⟩
  · exact applyScan_tables _

theorem enterRewind_tables (limit : Nat) (s : State) : (enterRewind limit s).tables.drumPending = s.tables.drumPending ∧
    (enterRewind limit s).tables.standards = s.tables.standards := by
  unfold enterRewind
  dsimp only
  split
  · exact parkHead_tables _
  · split
    · exact ⟨rfl, rfl⟩
    · have k := (rewindStep_only (ps := [.head]) (by decide) (Only.refl _ (s.setHead { s.head with
        state := .rewinding, owed := 0, stepTimer := none, rewindCount := 0, rewindLimit := limit }))).tables (by decide)
      rw [k]
      exact ⟨rfl, rfl⟩

theorem rewindHead_tables (s : State) : (rewindHead s).tables.drumPending = s.tables.drumPending ∧
    (rewindHead s).tables.standards = s.tables.standards := by
  unfold rewindHead
  split
  iterate 3 exact enterRewind_tables _ _
  iterate 3 exact ⟨rfl, rfl⟩

/-- A change of the tables that keeps the pending drum profile. -/
theorem Carried.of_tables {ps : List Part} {s t : State} (h : Only ps s t)
    (hp : ∀ q ∈ [Part.portA, .portB, .orders, .drum, .lamp], q ∉ ps)
    (ht : t.tables.drumPending = s.tables.drumPending) : Carried s t where
  port p := by
    rw [h.port (p := p) (by cases p; exacts [hp _ (by decide), hp _ (by decide)])]
    exact SameLine.refl _
  orders := h.orders (hp _ (by decide))
  stopped hs := ⟨by rw [h.drum (hp _ (by decide))]; exact hs, ht⟩
  lampOn := by rw [h.lamp (hp _ (by decide))]; exact id
  lampOff := by rw [h.lamp (hp _ (by decide))]; exact id

theorem parkHead_swept (t : State) : Swept t (parkHead t) :=
  have k : Only [.head, .tables] t (parkHead t) := parkHead_only (by decide) (by decide) (Only.refl _ _)
  Swept.of_carried (Carried.of_tables k (by decide) (parkHead_tables t).1) (k.pics (by decide)) (parkHead_tables t).2

theorem rewindHead_swept (t : State) : Swept t (rewindHead t) :=
  have k : Only [.head, .tables] t (rewindHead t) := rewindHead_only (by decide) (by decide) (Only.refl _ _)
  Swept.of_carried (Carried.of_tables k (by decide) (rewindHead_tables t).1) (k.pics (by decide)) (rewindHead_tables t).2

/-! ### The end of an attempt -/

theorem closeSender_line (o : AttemptOutcome) (t : State) (p : PortId) : SameLine (t.port p) ((closeSender o t).port p) := by
  unfold closeSender
  dsimp only
  split
  · rw [State.setSender_port]
    exact SameLine.refl _
  · split
    · cases t.sender.port with
      | none =>
        rw [State.setSender_port]
        exact SameLine.refl _
      | some q =>
        rw [State.setSender_port]
        by_cases hq : q = p
        · subst hq
          rw [State.setPort_port_same]
          exact ⟨rfl, rfl, rfl, rfl, rfl⟩
        · rw [State.setPort_port_other _ _ _ _ hq]
          exact SameLine.refl _
    · exact SameLine.refl _

theorem closed_carried (o : AttemptOutcome) (t : State) : Carried t (closed o t) := by
  have k1 : Only [.scan, .conv, .store, .pics] t (closeAttempt o (flushStore (stopScanner t))) :=
    closeAttempt_only _ (by decide) (flushStore_only (by decide) (stopScanner_only (by decide) (by decide) (Only.refl _ _)))
  have k2 : Only [.portA, .portB, .sender] (closeAttempt o (flushStore (stopScanner t))) (closed o t) :=
    closeSender_only _ (by decide) (by decide) (by decide) (Only.refl _ _)
  refine (Carried.of_only k1 (by decide)).trans ⟨closeSender_line o _, k2.orders (by decide), fun h => ?_, ?_, ?_⟩
  · exact ⟨by rw [k2.drum (by decide)]; exact h, by rw [k2.tables (by decide)]⟩
  · rw [k2.lamp (by decide)]; exact id
  · rw [k2.lamp (by decide)]; exact id

theorem finishRecord_carried (slot : Nat) (o : FinalOutcome) (c : FailCause) (t : State) :
    Carried t (finishRecord slot o c t) := by
  have slip : ∀ u : State, Carried u (requestSlip slot .final u).1 := fun u =>
    Carried.of_only (requestSlip_only (ps := [.conv, .pics, .slips]) _ _ (by decide) (by decide) (by decide) (Only.refl _ u))
      (by decide)
  unfold finishRecord
  dsimp only
  refine Carried.trans ?_ (slip _)
  have key : ∀ x : PicTable, Carried t ((modRec slot (fun r =>
      { r with state := .finished, final := some ⟨o, c, clockReading t⟩ }) t).setPics x) := fun x =>
    Carried.of_only (ps := [.pics]) (setPics_only _ (by decide) (modRec_only _ _ (by decide) (Only.refl _ _))) (by decide)
  split
  · exact (key _).trans (rewindHead_swept _).toCarried
  · exact key _

theorem grantAgain_carried (slot : Nat) (t : State) : Carried t (grantAgain slot t) := by
  unfold grantAgain
  split
  · exact finishRecord_carried _ _ _ _
  · exact Carried.of_only (ps := [.pics]) (modRec_only _ _ (by decide) (setPics_only _ (by decide) (Only.refl _ _))) (by decide)

theorem moveRecord_carried (slot : Nat) (o : AttemptOutcome) (t : State) : Carried t (moveRecord slot o t) := by
  have await : Carried t (awaitReceipts slot t) :=
    Carried.of_only (ps := [.pics]) (awaitReceipts_only _ (by decide) (Only.refl _ _)) (by decide)
  unfold moveRecord
  cases o with
  | complete => exact await
  | broken => exact await
  | line =>
    dsimp only
    split
    · exact grantAgain_carried _ _
    · exact finishRecord_carried _ _ _ _
  | _ => exact finishRecord_carried _ _ _ _

theorem endAttemptUse_carried (t : State) : Carried t (endAttemptUse t) := by
  have k : Only [.tables] t (endAttemptUse t) := endAttemptUse_only (by decide) (Only.refl _ _)
  refine Carried.of_tables k (by decide) ?_
  have tone : (applyTone t).tables.drumPending = t.tables.drumPending := by
    unfold applyTone
    split <;> rfl
  have standard : (applyStandard (applyTone t)).tables.drumPending = t.tables.drumPending := by
    refine Eq.trans ?_ tone
    unfold applyStandard
    split <;> rfl
  unfold endAttemptUse
  dsimp only
  split
  · exact (applyScan_tables _).1.trans standard
  · exact standard

theorem attemptEnd_carried (o : AttemptOutcome) (t : State) : Carried t (attemptEnd o t) := by
  cases ho : t.pics.onDrum with
  | none => simpa [attemptEnd, ho] using Carried.refl t
  | some slot =>
    cases hp : attemptInProgress t with
    | false =>
      rw [attemptEnd_of_none hp]
      exact Carried.refl t
    | true =>
      rw [attemptEnd_eq ho hp]
      exact (closed_carried o t).trans ((moveRecord_carried slot o _).trans
        ((rewindHead_swept _).toCarried.trans (endAttemptUse_carried _)))

/-- A finished, waiting or cancelled record: the attempt's end grants it again for LINE alone (R147). -/
theorem attemptEnd_not_granted {o : AttemptOutcome} {t : State} (ho : o ≠ .line) (hp : attemptInProgress t = true) :
    onDrumState (attemptEnd o t) ≠ .granted := by
  have hs : onDrumState t = .sending := by simpa [attemptInProgress] using hp
  cases hd : t.pics.onDrum with
  | none => simp [onDrumState, onDrumRec, hd] at hs
  | some slot =>
    obtain ⟨r, hr, -⟩ := rec?_of_onDrumState hd (by rw [hs]; decide)
    obtain ⟨f, hc⟩ := closed_pics (outcome := o) hd
    obtain ⟨k1, -, k3⟩ := modAttempt_keeps (f := f) hd hr
    have hon : (closed o t).pics.onDrum = some slot := by rw [hc]; exact k1
    have hcr : (closed o t).rec? slot = some { r with attempts := r.attempts.modify (r.attempts.length - 1) f } := by
      rw [State.rec?, hc]
      exact k3
    have k : Only [.head, .tables] (moveRecord slot o (closed o t)) (attemptEnd o t) := by
      rw [attemptEnd_eq hd hp]
      exact endAttemptUse_only (by decide) (rewindHead_only (by decide) (by decide) (Only.refl _ _))
    have fin : ∀ a b, onDrumState (finishRecord slot a b (closed o t)) ≠ .granted := fun a b => by
      rw [finishRecord_onDrumState, if_pos hon, hcr]
      exact fun h => nomatch h
    have wait : onDrumState (awaitReceipts slot (closed o t)) ≠ .granted := by
      show onDrumState (modRec slot (fun r => { r with state := .awaiting }) (closed o t)) ≠ .granted
      rw [onDrumState_modRec, if_pos hon, hcr]
      exact fun h => nomatch h
    rw [onDrumState_congr (k.pics (by decide))]
    cases o with
    | line => exact absurd rfl ho
    | complete => exact wait
    | broken => exact wait
    | _ => exact fin _ _

theorem attemptEnd_swept {o : AttemptOutcome} (ho : o ≠ .line) (t : State) : Swept t (attemptEnd o t) := by
  cases hp : attemptInProgress t with
  | false =>
    rw [attemptEnd_of_none hp]
    exact Swept.refl t
  | true =>
    have he := (attemptEnd_ends (outcome := o) hp).2.2.1
    exact {
      attemptEnd_carried o t with
      slips := fun slot => tally_attemptEnd running_indexSlips o t
      granted := fun h => absurd h (attemptEnd_not_granted ho hp)
      sending := fun h => by rw [he] at h; exact nomatch h
      idle := fun h => by rw [hp] at h; exact nomatch h }

/-- A count of the attempt in progress other than its index slips. -/
theorem modAttempt_swept {f : Attempt → Attempt} {t : State} (hp : attemptInProgress t = true)
    (hf : ∀ a, (f a).indexSlips = a.indexSlips) : Swept t (modAttempt f t) := by
  have hs : onDrumState t = .sending := by simpa [attemptInProgress] using hp
  cases ho : t.pics.onDrum with
  | none => simp [onDrumState, onDrumRec, ho] at hs
  | some slot =>
    obtain ⟨r, hr, -⟩ := rec?_of_onDrumState ho (by rw [hs]; decide)
    obtain ⟨k1, k2⟩ := modAttempt_standard (f := f) ho hr
    have k : Only [.pics] t (modAttempt f t) := modAttempt_only _ (by decide) (Only.refl _ _)
    exact {
      Carried.of_only k (by decide) with
      slips := fun _ => tally_modAttempt hf
      granted := fun hg => k2.symm.trans hg
      sending := fun _ => ⟨hp, ((standardKey_number (k.tables (by decide))).2 k1.symm).symm⟩
      idle := fun hi => by rw [hp] at hi; exact nomatch hi }

/-! ### The head's part (R51 to R57) -/

section ops

variable {s t : State} (h : Swept s t)
include h

theorem attemptEnd_swept' {o : AttemptOutcome} (ho : o ≠ .line) : Swept s (attemptEnd o t) := h.trans (attemptEnd_swept ho t)

theorem rewindHead_swept' : Swept s (rewindHead t) := h.trans (rewindHead_swept t)

theorem stopScanner_swept : Swept s (stopScanner t) :=
  h.trans (Swept.of_only (stopScanner_only (ps := [.scan, .conv]) (by decide) (by decide) (Only.refl _ _)) (by decide))

theorem raiseHeadFault_swept : Swept s (raiseHeadFault t) := attemptEnd_swept' (setHead_swept h _) (by decide)

theorem rewindInAttempt_swept : Swept s (rewindInAttempt t) := by
  unfold rewindInAttempt
  dsimp only
  split
  · exact attemptEnd_swept' (rewindHead_swept' h) (by decide)
  · exact rewindHead_swept' h

theorem stepOut_swept : Swept s (stepOut t) := by
  unfold stepOut
  split
  · exact raiseHeadFault_swept h
  · exact setHead_swept h _

theorem positionStep_swept : Swept s (positionStep t) := by
  unfold positionStep
  dsimp only
  split
  · split
    · exact setHead_swept (stepOut_swept h) _
    · exact setHead_swept (stepOut_swept h) _
  · exact stepOut_swept h

theorem lineBurst_swept : Swept s (lineBurst t) := by
  unfold lineBurst
  dsimp only
  split
  · split
    · exact raiseHeadFault_swept h
    · split
      · split
        · exact setHead_swept (stepOut_swept (setHead_swept h _)) _
        · exact stepOut_swept (setHead_swept h _)
      · exact setHead_swept h _
  · exact h

/-- A head-late line counts in the attempt record, where nothing of this is read. -/
theorem countHeadLate_swept : Swept s (countHeadLate t) := by
  refine h.trans ?_
  unfold countHeadLate
  split
  · rename_i hp
    exact modAttempt_swept hp fun _ => rfl
  · exact Swept.refl t

theorem checkHeadLate_swept : Swept s (checkHeadLate t) := by
  unfold checkHeadLate
  split
  · exact countHeadLate_swept h
  · exact h

theorem headAtCount_swept (rev pos : Nat) : Swept s (headAtCount rev pos t) := by
  unfold headAtCount
  dsimp only
  split
  · split
    · exact checkHeadLate_swept (lineBurst_swept h)
    · exact lineBurst_swept h
  · split
    · exact checkHeadLate_swept h
    · exact h

theorem headAtIndex_swept (closing : Nat) : Swept s (headAtIndex closing t) := by
  unfold headAtIndex
  dsimp only
  split
  · split
    · exact checkHeadLate_swept (lineBurst_swept h)
    · exact lineBurst_swept h
  · split
    · exact checkHeadLate_swept h
    · exact h

/-! ### The scanner's part (R39 to R44, R47, R48) -/

theorem lastEntryWritten_swept : Swept s (lastEntryWritten t) :=
  h.trans (Swept.of_only (lastEntryWritten_only (ps := [.store, .sender]) (by decide) (by decide) (Only.refl _ _)) (by decide))

theorem offerReady_swept : Swept s (offerReady t) :=
  h.trans (Swept.of_only (offerReady_only (ps := [.store, .sender, .scan]) (by decide) (by decide) (by decide) (Only.refl _ _))
    (by decide))

theorem signalIfDue_swept : Swept s (signalIfDue t) := by
  unfold signalIfDue
  split
  · exact rewindInAttempt_swept (lastEntryWritten_swept (setScan_swept h _))
  · exact h

theorem takeSample_swept (k : Nat) : Swept s (takeSample k t) :=
  h.trans (Swept.of_only (takeSample_only (ps := [.scan, .conv, .store, .sender]) k (by decide) (by decide) (by decide)
    (by decide) (Only.refl _ _)) (by decide))

theorem updateWhite_swept : Swept s (updateWhite t) := by
  unfold updateWhite
  split
  · exact setScan_swept h _
  · exact h

/-- A LAMP fault takes the lamp to FAULT (R48). -/
theorem lampFault_swept : Swept s (lampFault t) := by
  have k : Swept t (t.setLamp { t.lamp with state := .fault, warmTimer := none }) :=
    Swept.of_carried ⟨fun p => by rw [State.setLamp_port]; exact SameLine.refl _, rfl, fun hs => ⟨hs, rfl⟩,
      fun _ hf => (nomatch hf), fun _ => Or.inr rfl⟩ rfl rfl
  exact attemptEnd_swept' (stopScanner_swept (h.trans k)) (by decide)

theorem finishRun_swept : Swept s (finishRun t) := signalIfDue_swept (setScan_swept h _)

theorem finishAtSample_swept : Swept s (finishAtSample t) := by
  unfold finishAtSample
  dsimp only
  split
  · exact lampFault_swept (updateWhite_swept h)
  · exact finishRun_swept (updateWhite_swept h)

theorem openRevolution_swept (rev : Nat) : Swept s (openRevolution rev t) := takeSample_swept (setScan_swept h _) 0

theorem closeRevolution_swept : Swept s (closeRevolution t) := by
  have k := updateWhite_swept h
  unfold closeRevolution
  dsimp only
  split
  · exact lampFault_swept k
  · split
    · exact lampFault_swept k
    · split
      · exact finishRun_swept k
      · exact openRevolution_swept k _

theorem scannerAtIndex_swept : Swept s (scannerAtIndex t) := by
  unfold scannerAtIndex
  split
  · exact h
  · exact openRevolution_swept (setScan_swept h _) _
  · exact closeRevolution_swept h
  · exact h

theorem scannerAtCount_swept (pos : Nat) : Swept s (scannerAtCount pos t) := by
  have k := takeSample_swept h t.scan.k
  unfold scannerAtCount
  dsimp only
  split
  · split
    · exact finishAtSample_swept k
    · exact k
  · exact h

/-- The scanner's and the head's part of a count or an index pulse. -/
theorem swept_swept (c : Instr) : Swept s (swept c t) := by
  unfold swept
  split
  · exact headAtIndex_swept (scannerAtIndex_swept h) _
  · exact headAtCount_swept (scannerAtCount_swept h _) _ _

end ops

end Sys2Proof.Machine

/-! ## The regulated window and the index pulse -/

namespace Sys2Proof.Machine

/-! ### The drum's part of an event -/

theorem attemptInProgress_iff (s : State) : attemptInProgress s = true ↔ onDrumState s = .sending := by
  simp [attemptInProgress]

theorem attemptInProgress_setPanel (s : State) (x : Panel) : attemptInProgress (s.setPanel x) = attemptInProgress s := rfl

/-- What a drum that is not at rest may do to the drive, the counter and the regulator. -/
theorem Swept.of_moving {ps : List Part} {s t : State} (hd : s.drum.state ≠ .stopped) (h : Only ps s t)
    (hp : ∀ q ∈ [Part.portA, .portB, .orders, .lamp, .pics, .tables], q ∉ ps) : Swept s t :=
  Swept.of_carried (Carried.of_moving hd h fun q hq => hp q (by simp only [List.mem_cons] at hq ⊢; tauto))
    (h.pics (hp _ (by decide))) (by rw [h.tables (hp _ (by decide))])

theorem setEnc_swept {s t : State} (h : Swept s t) (x : Encoder) : Swept s (t.setEnc x) :=
  h.trans (Swept.of_only (setEnc_only (ps := [.enc]) x (by decide) (Only.refl _ _)) (by decide))

theorem enterStopped_swept {t : State} (hd : t.drum.state ≠ .stopped) : Swept t (enterStopped t) := by
  obtain ⟨n, tb, e, ht, -⟩ := enterStopped_eq t
  have k : Only [.drum, .tables] t (enterStopped t) := enterStopped_only (by decide) (by decide) (Only.refl _ _)
  refine Swept.of_carried (Carried.of_moving hd k (by decide)) (k.pics (by decide)) ?_
  rw [e]
  exact ht

theorem enterCutoff_swept {f : DrumFault} {t : State} (hd : t.drum.state ≠ .stopped) : Swept t (enterCutoff f t) := by
  have k : Only [.drum] t (t.setDrum (cutoffDrum f t.drum)) := setDrum_only _ (by decide) (Only.refl _ _)
  rw [enterCutoff_eq]
  exact attemptEnd_swept' (setHead_swept (Swept.of_moving hd k (by decide)) _) (by decide)

theorem drumFault_swept (f : DrumFault) (t : State) : Swept t (drumFault f t) := by
  cases hf : f.actsIn t.drum.state with
  | false =>
    rw [drumFault_off hf]
    exact Swept.refl t
  | true =>
    rw [drumFault_acts hf]
    refine enterCutoff_swept fun hs => ?_
    rw [hs] at hf
    cases f <;> exact nomatch hf

/-- A lock-lost window counts in the attempt record, where nothing of this is read. -/
theorem countLockLost_swept {s t : State} (h : Swept s t) : Swept s (countLockLost t) := by
  refine h.trans ?_
  unfold countLockLost
  split
  · rename_i hp
    exact modAttempt_swept hp fun _ => rfl
  · exact Swept.refl t

theorem countLockLost_onDrumState (t : State) : onDrumState (countLockLost t) = onDrumState t := by
  unfold countLockLost
  split
  · cases ho : t.pics.onDrum with
    | none => simp [modAttempt, modOnDrum, ho]
    | some slot =>
      rw [modAttempt_eq ho]
      exact onDrumState_modRec_same _ _ _ fun _ => rfl
  · rfl

theorem countUnlocked_swept (t : State) : Swept t (countUnlocked t) := by
  unfold countUnlocked
  dsimp only
  split
  · rename_i h
    have k : Only [.drum] t (t.setDrum { t.drum with unlocked := t.drum.unlocked + 1 }) :=
      setDrum_only _ (by decide) (Only.refl _ _)
    have kd := countLockLost_swept (Swept.of_moving (by rw [h.2]; decide) k (by decide))
    split
    · exact attemptEnd_swept' kd (by decide)
    · exact kd
  · exact Swept.refl t

theorem decided_swept {t : State} (period : Nat) (eRaw : Int) (hd : t.drum.state ≠ .stopped) :
    Swept t (decideLock eRaw (regulated period t)) :=
  Swept.of_moving (ps := [.drum, .reg]) hd (decideLock_only _ (by decide) (by decide) (regulated_only period t)) (by decide)

theorem regulatedWindow_swept {t : State} (period : Nat) (hd : t.drum.state ≠ .stopped) :
    Swept t (regulatedWindow period t) := by
  unfold regulatedWindow
  split
  · exact drumFault_swept _ t
  · exact (decided_swept period _ hd).trans (countUnlocked_swept _)

theorem windowEvent_swept (period : Nat) (t : State) : Swept t (windowEvent period t) := by
  unfold windowEvent
  cases hd : t.drum.state with
  | stopped => exact Swept.refl t
  | spinup =>
    dsimp only
    split
    · exact Swept.of_moving (ps := [.drum, .reg]) (by rw [hd]; decide)
        (enterTracking_only (by decide) (by decide) (Only.refl _ _)) (by decide)
    · exact Swept.refl t
  | tracking => exact regulatedWindow_swept period (by rw [hd]; decide)
  | locked => exact regulatedWindow_swept period (by rw [hd]; decide)
  | braking =>
    dsimp only
    split
    · exact enterStopped_swept (by rw [hd]; decide)
    · exact Swept.of_moving (ps := [.drum]) (by rw [hd]; decide) (setDrum_only _ (by decide) (Only.refl _ _)) (by decide)
  | cutoff => exact Swept.refl t

theorem boundaryAt_swept (b : Nat) (t : State) : Swept t (boundaryAt b t) := by
  unfold boundaryAt takeBoundary
  split
  · dsimp only
    split
    · exact (setEnc_swept (Swept.refl t) _).trans (windowEvent_swept _ _)
    · exact setEnc_swept (Swept.refl t) _
  · exact Swept.refl t

/-! ### What the evaluations leave of a window event -/

/-- The evaluations move of the counter the reverse run alone (R9). -/
theorem drumEval_enc (s0 s : State) : ∃ n, (drumEval s0 s).enc = { s.enc with reverseRun := n } := by
  have same : ∃ n, s.enc = { s.enc with reverseRun := n } := ⟨_, rfl⟩
  have spin : ∃ n, (enterSpinup s).enc = { s.enc with reverseRun := n } := ⟨0, rfl⟩
  have brake : ∃ n, (enterBraking s).enc = { s.enc with reverseRun := n } := ⟨_, rfl⟩
  unfold drumEval
  split
  · exact same
  · unfold evaluateDemand
    split
    · split
      exacts [spin, same]
    iterate 3
      · split
        exacts [same, brake]
    · split
      exacts [spin, same]
    · exact same

/-- An attempt start moves of the drive the unlocked count alone (R12). -/
theorem attemptStart_drum (s : State) : ∃ n, (attemptStart s).drum = { s.drum with unlocked := n } := by
  have same : ∃ n, s.drum = { s.drum with unlocked := n } := ⟨_, rfl⟩
  unfold attemptStart
  split
  · split
    · rename_i slot p b _ _
      refine ⟨0, ?_⟩
      cases p <;> rfl
    · exact same
  · exact same

/-- With nothing of a port's fault changed, and no record left without a port, the evaluations begin with the drive's. -/
theorem settle_rest {s0 v : State} (hf : ∀ p, (v.port p).inFault = (s0.port p).inFault)
    (hn : noPortLeft v = true → noPortLeft s0 = true) : ∃ n m, (settle s0 v).enc = { v.enc with reverseRun := m } ∧
      (settle s0 v).reg = (drumEval s0 (standardEval s0 v)).reg ∧
      (settle s0 v).drum = { (drumEval s0 (standardEval s0 v)).drum with unlocked := n } := by
  have ks : Only [.drum, .reg] v (standardEval s0 v) := standardEval_only _ (by decide) (by decide) (Only.refl _ _)
  obtain ⟨m, he⟩ := drumEval_enc s0 (standardEval s0 v)
  rw [ks.enc (by decide)] at he
  unfold settle
  dsimp only
  rw [lapseEval_eq hf, portFailEval_eq hn]
  generalize drumEval s0 (standardEval s0 v) = u at *
  have k1 : Only (.lamp :: attemptParts) u (lampEval s0 (headEval s0 u)) := by
    refine lampEval_only _ ?_ (headEval_only _ ?_ ?_ ?_ ?_ ?_ ?_ ?_ ?_ ?_ ?_ (Only.refl _ _)) <;> decide
  generalize lampEval s0 (headEval s0 u) = w at *
  have k2 : Only [.drum, .head, .store, .portA, .portB, .sender, .pics] w (attemptEval s0 w) := by
    refine attemptEval_only _ ?_ ?_ ?_ ?_ ?_ ?_ ?_ (Only.refl _ _) <;> decide
  have k3 : Only [.sender, .portA, .portB] (attemptEval s0 w) (lineupEval s0 (attemptEval s0 w)) :=
    lineupEval_only _ (by decide) (by decide) (by decide) (Only.refl _ _)
  have hd : ∃ n, (attemptEval s0 w).drum = { w.drum with unlocked := n } := by
    unfold attemptEval
    split
    · exact attemptStart_drum w
    · exact ⟨_, rfl⟩
  obtain ⟨n, hd⟩ := hd
  refine ⟨n, m, ?_, ?_, ?_⟩
  · rw [k3.enc (by decide), k2.enc (by decide), k1.enc (by decide), he]
  · rw [k3.reg (by decide), k2.reg (by decide), k1.reg (by decide)]
  · rw [k3.drum (by decide), hd, k1.drum (by decide)]

/-- With no record granted the evaluations leave the picture table alone. -/
theorem settle_pics {s0 v : State} (h : onDrumState v ≠ .granted) : (settle s0 v).pics = v.pics := by
  have k1 : Only [.sender] v (lapseEval s0 v) := lapseEval_only _ (by decide) (Only.refl _ _)
  have h1 : onDrumState (lapseEval s0 v) ≠ .granted := by
    rw [onDrumState_congr (k1.pics (by decide))]
    exact h
  have hp : portFailEval s0 (lapseEval s0 v) = lapseEval s0 v :=
    portFailEval_eq fun hn => by rw [noPortLeft_of_not_granted h1] at hn; exact nomatch hn
  unfold settle
  dsimp only
  rw [hp]
  have k2 : Only [.enc, .drum, .reg] (lapseEval s0 v) (drumEval s0 (standardEval s0 (lapseEval s0 v))) :=
    drumEval_only _ (by decide) (by decide) (standardEval_only _ (by decide) (by decide) (Only.refl _ _))
  generalize drumEval s0 (standardEval s0 (lapseEval s0 v)) = u at *
  have hu : u.pics = v.pics := (k2.pics (by decide)).trans (k1.pics (by decide))
  have h2 : onDrumState u ≠ .granted := by
    rw [onDrumState_congr hu]
    exact h
  obtain ⟨l, hl⟩ := lampEval_lamp s0 u
  rw [headEval_eq fun _ hg => absurd hg h2, hl,
    attemptEval_eq fun hr => absurd (attemptReady_granted' hr).1 (by exact h2)]
  have k3 : Only [.sender, .portA, .portB] (u.setLamp l) (lineupEval s0 (u.setLamp l)) :=
    lineupEval_only _ (by decide) (by decide) (by decide) (Only.refl _ _)
  exact (k3.pics (by decide)).trans hu

/-! ### The regulated window (O12) -/

theorem decideLock_tracking {eRaw : Int} {s : State} (hs : s.drum.state = .tracking) : decideLock eRaw s =
    if s.tables.drum.lockCount ≤ (if eRaw.natAbs ≤ s.tables.drum.lockBand then satInc 255 s.reg.lockCount else 0) then
      (s.setReg { s.reg with lockCount := 0, unlockCount := 0 }).setDrum { s.drum with state := .locked, unlocked := 0 }
    else s.setReg { s.reg with
      lockCount := if eRaw.natAbs ≤ s.tables.drum.lockBand then satInc 255 s.reg.lockCount else 0 } := by
  unfold decideLock
  rw [hs]

theorem decideLock_locked {eRaw : Int} {s : State} (hs : s.drum.state = .locked) : decideLock eRaw s =
    if 2 ≤ (if s.tables.drum.unlockBand < eRaw.natAbs then s.reg.unlockCount + 1 else 0) then
      (s.setReg { s.reg with lockCount := 0, unlockCount := 0 }).setDrum { s.drum with state := .tracking }
    else s.setReg { s.reg with
      unlockCount := if s.tables.drum.unlockBand < eRaw.natAbs then s.reg.unlockCount + 1 else 0 } := by
  unfold decideLock
  rw [hs]

/-- The lock decision moves the drum between TRACKING and LOCKED, its unlocked count, and the lock counters alone. -/
theorem decideLock_parts {eRaw : Int} {s : State} (hd : s.drum.state = .tracking ∨ s.drum.state = .locked) :
    ∃ st n l u, decideLock eRaw s = (s.setReg { s.reg with lockCount := l, unlockCount := u }).setDrum
      { s.drum with state := st, unlocked := n } ∧ (st = .tracking ∨ st = .locked) := by
  rcases hd with hs | hs
  · rw [decideLock_tracking hs]
    generalize (if eRaw.natAbs ≤ s.tables.drum.lockBand then satInc 255 s.reg.lockCount else 0) = count
    split
    · exact ⟨.locked, 0, 0, 0, rfl, Or.inr rfl⟩
    · exact ⟨s.drum.state, s.drum.unlocked, count, s.reg.unlockCount, rfl, Or.inl hs⟩
  · rw [decideLock_locked hs]
    generalize (if s.tables.drum.unlockBand < eRaw.natAbs then s.reg.unlockCount + 1 else 0) = count
    split
    · exact ⟨.tracking, s.drum.unlocked, 0, 0, rfl, Or.inl rfl⟩
    · exact ⟨s.drum.state, s.drum.unlocked, s.reg.lockCount, count, rfl, Or.inr hs⟩

/-- The lock's steps in TRACKING (R31). -/
theorem decideLock_tracking_steps {eRaw : Int} {s : State} (hs : s.drum.state = .tracking) (hc : s.reg.lockCount < 255) :
    (s.tables.drum.lockBand < eRaw.natAbs → 1 ≤ s.tables.drum.lockCount →
      (decideLock eRaw s).drum.state = .tracking ∧ (decideLock eRaw s).reg.lockCount = 0) ∧
    (eRaw.natAbs ≤ s.tables.drum.lockBand → s.reg.lockCount + 1 < s.tables.drum.lockCount →
      (decideLock eRaw s).drum.state = .tracking ∧ (decideLock eRaw s).reg.lockCount = s.reg.lockCount + 1) ∧
    (eRaw.natAbs ≤ s.tables.drum.lockBand → s.tables.drum.lockCount ≤ s.reg.lockCount + 1 →
      (decideLock eRaw s).drum.state = .locked ∧ (decideLock eRaw s).reg.lockCount = 0 ∧
        (decideLock eRaw s).reg.unlockCount = 0) := by
  have hsat : satInc 255 s.reg.lockCount = s.reg.lockCount + 1 := by
    unfold satInc
    rw [if_pos hc]
  rw [decideLock_tracking hs, hsat]
  refine ⟨fun hb hl => ?_, fun hb hl => ?_, fun hb hl => ?_⟩
  · rw [if_neg (Nat.not_le.2 hb), if_neg (by omega)]
    exact ⟨hs, rfl⟩
  · rw [if_pos hb, if_neg (Nat.not_le.2 hl)]
    exact ⟨hs, rfl⟩
  · rw [if_pos hb, if_pos hl]
    exact ⟨rfl, rfl, rfl⟩

/-- The lock's steps in LOCKED (R31). -/
theorem decideLock_locked_steps {eRaw : Int} {s : State} (hs : s.drum.state = .locked) :
    (eRaw.natAbs ≤ s.tables.drum.unlockBand →
      (decideLock eRaw s).drum.state = .locked ∧ (decideLock eRaw s).reg.unlockCount = 0) ∧
    (s.tables.drum.unlockBand < eRaw.natAbs → s.reg.unlockCount = 0 →
      (decideLock eRaw s).drum.state = .locked ∧ (decideLock eRaw s).reg.unlockCount = 1) ∧
    (s.tables.drum.unlockBand < eRaw.natAbs → 1 ≤ s.reg.unlockCount →
      (decideLock eRaw s).drum.state = .tracking ∧ (decideLock eRaw s).reg.lockCount = 0 ∧
        (decideLock eRaw s).reg.unlockCount = 0) := by
  rw [decideLock_locked hs]
  refine ⟨fun hb => ?_, fun hb hl => ?_, fun hb hl => ?_⟩
  · rw [if_neg (Nat.not_lt.2 hb), if_neg (by omega)]
    exact ⟨hs, rfl⟩
  · rw [if_pos hb, hl, if_neg (by omega)]
    exact ⟨hs, rfl⟩
  · rw [if_pos hb, if_pos (by omega)]
    exact ⟨rfl, rfl, rfl⟩

/-- The unlocked count and an attempt's end leave the regulator and all else of the drive. -/
theorem countUnlocked_drive (s : State) : (countUnlocked s).reg = s.reg ∧ (countUnlocked s).enc = s.enc ∧
    ∃ n, (countUnlocked s).drum = { s.drum with unlocked := n } := by
  have k : ∀ u : State, Only [.pics] u (countLockLost u) := fun u => countLockLost_only (by decide) (Only.refl _ _)
  unfold countUnlocked
  dsimp only
  split
  · split
    · have ka := attemptEnd_frame .drum (countLockLost (s.setDrum { s.drum with unlocked := s.drum.unlocked + 1 }))
      exact ⟨(ka.reg (by decide)).trans ((k _).reg (by decide)), (ka.enc (by decide)).trans ((k _).enc (by decide)), _,
        (ka.drum (by decide)).trans ((k _).drum (by decide))⟩
    · exact ⟨(k _).reg (by decide), (k _).enc (by decide), _, (k _).drum (by decide)⟩
  · exact ⟨rfl, rfl, _, rfl⟩

theorem Carried.inFault {s t : State} (h : Carried s t) (p : PortId) : (t.port p).inFault = (s.port p).inFault := by
  simp only [Port.inFault, (h.port p).cause]

theorem Carried.isIdle {s t : State} (h : Carried s t) (p : PortId) : (t.port p).isIdle = (s.port p).isIdle := by
  simp only [Port.isIdle, (h.port p).cause, (h.port p).activity]

theorem Swept.noPortLeft {s t : State} (h : Swept s t) (ht : Machine.noPortLeft t = true) : Machine.noPortLeft s = true := by
  have hA : t.portA.inFault = s.portA.inFault := h.inFault .a
  have hB : t.portB.inFault = s.portB.inFault := h.inFault .b
  simp only [Machine.noPortLeft, bothFault, Bool.and_eq_true, decide_eq_true_eq] at ht ⊢
  rw [← hA, ← hB]
  exact ⟨ht.1, h.granted ht.2⟩

/-- A regulated drum that follows its demand, or brakes without it, whatever else the event did: the evaluations leave what
the regulator did, and with demand the lock's step. -/
theorem settle_regulated {s0 w v : State} (k : Swept s0 v) (hr : v.reg = w.reg)
    (hd : ∃ n, v.drum = { w.drum with unlocked := n }) (hw : w.drum.state = .tracking ∨ w.drum.state = .locked)
    (hlatch : w.drum.spinLatch = s0.drum.spinLatch)
    (ha : attemptInProgress s0 = true → attemptInProgress v = true) :
    (settle s0 v).reg = w.reg ∧ (settle s0 v).drum.pendingDuty = w.drum.pendingDuty ∧
      (demand s0 = true → ∃ n, (settle s0 v).drum = { w.drum with unlocked := n }) := by
  obtain ⟨n, hd⟩ := hd
  have hkey : standardKey s0 = standardKey v := by
    cases hp : attemptInProgress s0 with
    | true => exact (k.sending (ha hp)).2.symm
    | false =>
      obtain ⟨h1, h2⟩ := k.idle hp
      exact (standardKey_congr h1 h2).symm
  have hdem : demand s0 = true → demand v = true := fun h => by
    cases hp : attemptInProgress s0 with
    | true =>
      have hs : onDrumState v = .sending := by simpa [attemptInProgress] using ha hp
      simp [demand, hs]
    | false =>
      rw [← h]
      exact demand_congr (by rw [hd]; exact hlatch) (onDrumState_congr (k.idle hp).1)
  have hv : v.drum.state = .tracking ∨ v.drum.state = .locked := by rw [hd]; exact hw
  obtain ⟨m, -, -, h2, h3⟩ := settle_rest k.inFault k.noPortLeft
  rw [standardEval_eq (Or.inl hkey)] at h2 h3
  have hcase : drumEval s0 v = v ∨ (drumEval s0 v = enterBraking v ∧ demand v = false) := by
    unfold drumEval
    split
    · exact Or.inl rfl
    · cases hd : demand v with
      | true => exact Or.inl (evaluateDemand_demanded hd (Or.inr hv))
      | false => exact Or.inr ⟨evaluateDemand_braked hd (Or.inr hv), rfl⟩
  rcases hcase with hc | ⟨hc, hno⟩
  · rw [hc] at h2 h3
    exact ⟨h2.trans hr, by rw [h3, hd], fun _ => ⟨m, by rw [h3, hd]⟩⟩
  · rw [hc] at h2 h3
    have hpd : v.drum.pendingDuty = w.drum.pendingDuty := by rw [hd]
    refine ⟨h2.trans hr, by rw [h3]; exact hpd, fun h => ?_⟩
    rw [hdem h] at hno
    exact nomatch hno

section window

variable {c : Instr} {s : State} {x : Panel} {e : Encoder} {period : Nat}

/-- The state a regulated window event comes to before the evaluations. -/
def windowed (c : Instr) (s : State) (x : Panel) (e : Encoder) (period : Nat) : State :=
  swept c (countUnlocked (decided s x e period))

variable (hd : s.drum.state = .tracking ∨ s.drum.state = .locked)
include hd

theorem windowed_swept : Swept (s.setPanel x) (windowed c s x e period) := by
  have hm : ((s.setPanel x).setEnc e).drum.state ≠ .stopped := by
    show s.drum.state ≠ .stopped
    rcases hd with hd | hd <;> rw [hd] <;> decide
  exact swept_swept ((setEnc_swept (Swept.refl _) e).trans ((decided_swept period _ hm).trans (countUnlocked_swept _))) c

omit hd in
/-- The scanner's and the head's part, and an attempt's end, leave of the drive what the lock decision left. -/
theorem windowed_drive : (windowed c s x e period).reg = (decided s x e period).reg ∧
    (windowed c s x e period).enc = e ∧
    ∃ n, (windowed c s x e period).drum = { (decided s x e period).drum with unlocked := n } := by
  have k := swept_frame c (countUnlocked (decided s x e period))
  obtain ⟨h1, h2, n, h3⟩ := countUnlocked_drive (decided s x e period)
  have kd : Only [.drum, .reg] ((s.setPanel x).setEnc e) (decided s x e period) :=
    decideLock_only _ (by decide) (by decide) (regulated_only period _)
  exact ⟨(k.reg (by decide)).trans h1, (k.enc (by decide)).trans (h2.trans (kd.enc (by decide))), n,
    (k.drum (by decide)).trans h3⟩

theorem decided_parts : ∃ l u st n, (decided s x e period).reg =
      { (regulated period ((s.setPanel x).setEnc e)).reg with lockCount := l, unlockCount := u } ∧
    (decided s x e period).drum =
      { (regulated period ((s.setPanel x).setEnc e)).drum with state := st, unlocked := n } ∧
    (st = .tracking ∨ st = .locked) := by
  obtain ⟨st, n, l, u, h, hst⟩ := decideLock_parts (eRaw := eRawOf period s)
    (s := regulated period ((s.setPanel x).setEnc e)) hd
  exact ⟨l, u, st, n, congrArg State.reg h, congrArg State.drum h, hst⟩

/-- A regulated window that is not the 32nd unlocked one, with no sample at its count, leaves the attempt in progress. -/
theorem windowed_goes_on (hu : Unscanned c s) (hn : s.drum.unlocked < 31) (ha : attemptInProgress s = true) :
    onDrumState (windowed c s x e period) = .sending := by
  have k := decided_only s x e period
  have hs : onDrumState s = .sending := (attemptInProgress_iff s).1 ha
  have hsd : onDrumState (decided s x e period) = .sending := (onDrumState_congr (k.pics (by decide))).trans hs
  have off : ∀ v : State, v.scan = (decided s x e period).scan → swept c v = v := fun v hv => by
    refine swept_off ?_
    rw [Unscanned, hv, k.scan (by decide)]
    exact hu
  unfold windowed
  by_cases h : StaysUnlocked (eRawOf period s) (regulated period ((s.setPanel x).setEnc e))
  · obtain ⟨h1, h2, -⟩ := decided_stays h
    rw [countUnlocked_tracking hsd h1, if_neg (by omega)]
    have kc : Only [.pics] ((decided s x e period).setDrum
        { (decided s x e period).drum with unlocked := (decided s x e period).drum.unlocked + 1 })
        (unlockedOnce (decided s x e period)) := countLockLost_only (by decide) (Only.refl _ _)
    rw [off _ (kc.scan (by decide))]
    exact countLockLost_onDrumState _ |>.trans hsd
  · obtain ⟨g, n, hw, -⟩ := decideLock_locks (s := regulated period ((s.setPanel x).setEnc e)) hd h
    rw [countUnlocked_locked (by rw [decided, hw]; rfl), off _ rfl]
    exact hsd

end window

theorem attemptReady_congr {s t : State} (hp : t.pics = s.pics) (hd : t.drum.state = s.drum.state) (hh : t.head = s.head)
    (hl : t.lamp = s.lamp) (hs : t.sender = s.sender) (hport : ∀ p, t.port p = s.port p) :
    attemptReady t = attemptReady s := by
  have hc : chosenPort t = chosenPort s := chosenPort_congr hp fun p => by rw [hport]
  simp only [attemptReady, onDrumState_congr hp, hd, hh, hl, hs, hc, hport]

/-- With no attempt in progress and none about to start a regulated window moves the counter, the drive and the regulator
alone (O12). -/
theorem windowed_alone {c : Instr} {s : State} {x : Panel} {e : Encoder} {period : Nat}
    (hd : s.drum.state = .tracking ∨ s.drum.state = .locked) (hu : Unscanned c s) (hdem : demand s = true)
    (ha : attemptInProgress s = false) (hr : attemptReady (s.setDrum { s.drum with state := .locked }) = false) :
    Only [.enc, .drum, .reg] (s.setPanel x) (settle (s.setPanel x) (windowed c s x e period)) := by
  have k := decided_only s x e period
  have hport : ∀ p, (decided s x e period).port p = s.port p := fun p => by
    rw [k.port (p := p) (by cases p <;> decide), State.setPanel_port]
  have hpics : (decided s x e period).pics = s.pics := k.pics (by decide)
  have hcu : countUnlocked (decided s x e period) = decided s x e period := if_neg fun h => by
    rw [attemptInProgress_congr (s := s) hpics, ha] at h
    exact nomatch h.1
  have hw : windowed c s x e period = decided s x e period := by
    rw [windowed, hcu]
    refine swept_off ?_
    rw [Unscanned, k.scan (by decide)]
    exact hu
  obtain ⟨l, u, st, n, hreg, hdrum, hst⟩ := decided_parts (x := x) (e := e) (period := period) hd
  have hds : (decided s x e period).drum.state = .tracking ∨ (decided s x e period).drum.state = .locked := by
    rw [hdrum]
    exact hst
  have hdw : demand (decided s x e period) = true :=
    (demand_congr (s := s) (by rw [hdrum]; rfl) (onDrumState_congr hpics)).trans hdem
  rw [hw]
  have hset : settle (s.setPanel x) (decided s x e period) = decided s x e period := by
    have hnp : noPortLeft (decided s x e period) = noPortLeft s := by
      have hA := hport .a
      have hB := hport .b
      simp only [noPortLeft, bothFault, onDrumState_congr hpics, State.port_a, State.port_b] at *
      rw [hA, hB]
    refine settle_drive_lit (fun p => by rw [hport, State.setPanel_port]) (fun h => hnp ▸ h)
      (drive_eq (Or.inl (standardKey_congr hpics (by rw [k.tables (by decide)]; rfl)).symm)
        (evaluateDemand_demanded hdw (Or.inr hds)))
      (fun h1 h2 => ⟨by rw [k.head (by decide)] at h1; exact h1, (onDrumState_congr hpics).symm.trans h2⟩) ?_ (fun h => ?_)
      (fun h => ?_)
    · refine lampDemand_congr (onDrumState_congr hpics) (k.scan (by decide)) ?_ (by rw [k.head (by decide)])
      have h1 : s.drum.state ≠ .cutoff := by rcases hd with hd | hd <;> rw [hd] <;> decide
      have h2 : (decided s x e period).drum.state ≠ .cutoff := by rcases hds with hd | hd <;> rw [hd] <;> decide
      exact ⟨fun h => absurd h h2, fun h => absurd h h1⟩
    · have hlock := (attemptReady_granted' h).2.1
      rw [attemptReady_congr (s := s.setDrum { s.drum with state := .locked }) hpics hlock (k.head (by decide))
        (k.lamp (by decide)) (k.sender (by decide)) (fun p => by rw [hport, State.setDrum_port]), hr] at h
      exact nomatch h
    · rw [← lineupReady_congr (s := s.setPanel x) (k.sender (by decide)) fun p => by rw [hport, State.setPanel_port]]
      exact h
  rw [hset]
  exact k

/-- An attempt in progress is so after the evaluations when the event kept it or left no record granted. -/
theorem settle_attemptInProgress {s0 v : State} (h : onDrumState v ≠ .granted) :
    attemptInProgress (settle s0 v) = attemptInProgress v :=
  attemptInProgress_congr (settle_pics h)

section steps

variable {s : State} {x : Panel} {e : Encoder} {period : Nat} (hd : s.drum.state = .tracking ∨ s.drum.state = .locked)
include hd

/-- What a regulated window writes, the lock decision aside (R21, R25 to R30). -/
theorem decided_writes :
    let i := integrate s.reg.memory s.reg.integ (clampedError (eRawOf period s))
    let raw := ((standardInForce s).dff : Int) + correction s.tables.drum (clampedError (eRawOf period s)) i
    (decided s x e period).reg.integ = i ∧ (decided s x e period).reg.memory = memoryAfter s.tables.drum raw ∧
      (decided s x e period).drum.pendingDuty = dutyWritten s.tables.drum raw ∧
      (decided s x e period).drum.stallDeadline = some (s.now + BitVec.ofNat 32 (4 * (standardInForce s).w)) := by
  obtain ⟨l, u, st, n, hr, hdr, -⟩ := decided_parts (x := x) (e := e) (period := period) hd
  rw [hr, hdr]
  exact ⟨rfl, rfl, rfl, rfl⟩

end steps

/-- Settles O12: the captures, the attempt that goes on, the regulator and the lock, the frame. -/
theorem windowEventRegulates : Obligations.WindowEventRegulates := by
  intro c s b prev period hw hd hp p e i raw far
  refine event_next hw.exec fun x y => ?_
  obtain ⟨en, hc, e1, e2, e3⟩ := hw.regulates hd hp x
  have hop : swept c (counted c (s.setPanel x)) = windowed c s x en period := by rw [hc]; rfl
  rw [hop]
  have k := windowed_swept (c := c) (x := x) (e := en) (period := period) hd
  obtain ⟨hreg, henc, hdrum⟩ := windowed_drive (c := c) (s := s) (x := x) (e := en) (period := period)
  obtain ⟨l, u, st, n, dr, dd, hst⟩ := decided_parts (x := x) (e := en) (period := period) hd
  obtain ⟨n', m, se, -, -⟩ := settle_rest k.inFault k.noPortLeft
  rw [henc] at se
  refine ⟨by rw [State.setPanel_enc, se]; exact e1, by rw [State.setPanel_enc, se]; exact e2,
    by rw [State.setPanel_enc, se]; exact e3, fun hu hn ha => ?_, fun hgo => ?_, fun hu hdem ha hr => ?_⟩
  · have hs := windowed_goes_on (c := c) (x := x) (e := en) (period := period) hd hu hn ha
    rw [attemptInProgress_setPanel, settle_attemptInProgress (by rw [hs]; decide), attemptInProgress_iff]
    exact hs
  · have ha : attemptInProgress (s.setPanel x) = true → attemptInProgress (windowed c s x en period) = true := fun h => by
      have hs : onDrumState s = .sending := (attemptInProgress_iff s).1 h
      have hng : onDrumState (windowed c s x en period) ≠ .granted := fun hg => by
        have := k.granted hg
        rw [onDrumState_setPanel, hs] at this
        exact nomatch this
      have ht := hgo h
      rwa [attemptInProgress_setPanel, settle_attemptInProgress hng] at ht
    obtain ⟨r1, r2, r3⟩ := settle_regulated k hreg hdrum (by rw [dd]; exact hst) (by rw [dd]; rfl) ha
    obtain ⟨w1, w2, w3, w4⟩ := decided_writes (x := x) (e := en) (period := period) hd
    rw [State.setPanel_reg, State.setPanel_drum, r1, r2]
    refine ⟨w1, w2, w3, fun hdem => ?_⟩
    obtain ⟨n2, r3⟩ := r3 hdem
    rw [r3]
    exact ⟨w4, fun ht hl => decideLock_tracking_steps (s := regulated period ((s.setPanel x).setEnc en)) ht hl,
      fun hl => decideLock_locked_steps (s := regulated period ((s.setPanel x).setEnc en)) hl⟩
  · exact Only.panels x y (by decide) ((windowed_alone hd hu hdem ha hr).mono (by decide))

end Sys2Proof.Machine

/-! ## The index pulse (O11) -/

namespace Sys2Proof.Machine

theorem deviation_natAbs {n : Nat} (h : n ≤ 8191) : (deviation n).natAbs = if n < 4096 then n else 8192 - n := by
  unfold deviation
  split <;> omega

/-- The counter after the check of the index pulse (R2). -/
def judged (s : State) : Encoder :=
  if s.enc.indexFound = false then { s.enc with pos := 0, indexFound := true, slipRun := 0 }
  else if (deviation s.enc.pos).natAbs ≤ s.tables.drum.indexTol then { s.enc with pos := 0, slipRun := 0 }
  else if 3 ≤ s.enc.slipRun + 1 then lostEnc s.enc
  else { s.enc with pos := 0, slipRun := s.enc.slipRun + 1 }

/-- The counter after boundary 0 (R4). -/
def atZero (now : Tick) (e : Encoder) : Encoder :=
  if e.indexFound = true ∧ e.lastBoundary ≠ some 0 then
    { e with prevCap := e.curCap, curCap := some now, lastBoundary := some 0 }
  else e

/-! ### The drum at rest or in CUTOFF -/

theorem checkIndex_resting {s : State} (hd : s.drum.state = .stopped ∨ s.drum.state = .cutoff)
    (ha : attemptInProgress s = false) : checkIndex s = s.setEnc (judged s) := by
  have hc : countIndexSlip (s.setEnc { s.enc with pos := 0 }) = s.setEnc { s.enc with pos := 0 } :=
    if_neg (show ¬ attemptInProgress s = true by simp [ha])
  have off : DrumFault.actsIn .encoder s.drum.state = false := by rcases hd with hd | hd <;> rw [hd] <;> rfl
  unfold checkIndex judged
  dsimp only
  by_cases hf : s.enc.indexFound = false
  · rw [if_pos (by simpa using hf), if_pos hf]
    rfl
  · rw [if_neg (by simpa using hf), if_neg hf]
    by_cases ht : (deviation s.enc.pos).natAbs ≤ s.tables.drum.indexTol
    · rw [if_pos (by simpa using ht), if_pos ht]
      rfl
    · rw [if_neg (by simpa using ht), if_neg ht, hc]
      by_cases hr : 3 ≤ s.enc.slipRun + 1
      · rw [if_pos (by simpa using hr), if_pos hr]
        exact drumFault_off (s := s.setEnc (lostEnc s.enc)) off
      · rw [if_neg (by simpa using hr), if_neg hr]
        rfl

theorem boundaryAt_resting {s : State} (hd : s.drum.state = .stopped ∨ s.drum.state = .cutoff) :
    boundaryAt 0 s = s.setEnc (atZero s.now s.enc) := by
  unfold boundaryAt atZero takeBoundary
  split
  · dsimp only
    split
    · rcases hd with hd | hd <;> simp only [windowEvent, State.setEnc_drum, hd]
    · rfl
  · rfl

/-- The index pulse of a drum at rest or in CUTOFF moves the counter alone. -/
theorem indexPulse_resting {s : State} (hd : s.drum.state = .stopped ∨ s.drum.state = .cutoff)
    (hk : s.scan.state = .idle ∨ s.scan.state = .finished) (ha : attemptInProgress s = false) :
    indexPulse s = s.setEnc (atZero s.now (judged s)) := by
  have hb : boundaryAt 0 (checkIndex s) = s.setEnc (atZero s.now (judged s)) :=
    (congrArg (boundaryAt 0) (checkIndex_resting hd ha)).trans (boundaryAt_resting (s := s.setEnc (judged s)) hd)
  have hu : Unscanned .indexPulse (boundaryAt 0 (checkIndex s)) := by
    rw [hb]
    rcases hk with hk | hk <;> exact ⟨by rw [State.setEnc_scan, hk]; decide, fun _ => by rw [State.setEnc_scan, hk]; decide⟩
  exact (swept_off hu).trans hb

theorem atZero_keeps (now : Tick) (e : Encoder) : (atZero now e).pos = e.pos ∧ (atZero now e).indexFound = e.indexFound ∧
    (atZero now e).slipRun = e.slipRun := by
  unfold atZero
  split <;> exact ⟨rfl, rfl, rfl⟩

/-- While the index is found the check leaves the captures. -/
theorem judged_captures {s : State} (h : (judged s).indexFound = true) : (judged s).curCap = s.enc.curCap ∧
    (judged s).prevCap = s.enc.prevCap ∧ (judged s).lastBoundary = s.enc.lastBoundary := by
  unfold judged at h ⊢
  split at h
  · rw [if_pos ‹_›]; exact ⟨rfl, rfl, rfl⟩
  · rw [if_neg ‹_›]
    split at h
    · rw [if_pos ‹_›]; exact ⟨rfl, rfl, rfl⟩
    · rw [if_neg ‹_›]
      split at h
      · exact nomatch h
      · rw [if_neg ‹_›]; exact ⟨rfl, rfl, rfl⟩

theorem judged_pos (s : State) : (judged s).pos = 0 := by
  unfold judged
  split
  · rfl
  · split
    · rfl
    · split <;> rfl

/-- The index pulse of a drum at rest or in CUTOFF, as O11 says it. -/
theorem judged_atZero {s : State} {e : Encoder} (he : e = atZero s.now (judged s)) :
    let good := (if s.enc.pos < 4096 then s.enc.pos else 8192 - s.enc.pos) ≤ s.tables.drum.indexTol
    e.pos = 0 ∧ (s.enc.indexFound = false → e.indexFound = true ∧ e.slipRun = 0) ∧
      (s.enc.indexFound = true → s.enc.pos ≤ 8191 → good → e.indexFound = true ∧ e.slipRun = 0) ∧
      (s.enc.indexFound = true → s.enc.pos ≤ 8191 → ¬ good → s.enc.slipRun + 1 < 3 →
        e.indexFound = true ∧ e.slipRun = s.enc.slipRun + 1) ∧
      (s.enc.indexFound = true → s.enc.pos ≤ 8191 → ¬ good → 3 ≤ s.enc.slipRun + 1 →
        e.indexFound = false ∧ e.slipRun = 0 ∧ e.curCap = none ∧ e.prevCap = none ∧ e.lastBoundary = none) ∧
      (e.indexFound = true → s.enc.lastBoundary ≠ some 0 →
        e.curCap = some s.now ∧ e.prevCap = s.enc.curCap ∧ e.lastBoundary = some 0) ∧
      (e.indexFound = true → s.enc.lastBoundary = some 0 →
        e.curCap = s.enc.curCap ∧ e.prevCap = s.enc.prevCap ∧ e.lastBoundary = some 0) := by
  intro good
  subst he
  obtain ⟨z1, z2, z3⟩ := atZero_keeps s.now (judged s)
  rw [z1, z2, z3]
  refine ⟨judged_pos s, fun hf => ?_, fun hf hp hg => ?_, fun hf hp hg hr => ?_, fun hf hp hg hr => ?_, fun hf hb => ?_,
    fun hf hb => ?_⟩
  · rw [judged, if_pos hf]
    exact ⟨rfl, rfl⟩
  · rw [judged, if_neg (by simp [hf]), if_pos (by rw [deviation_natAbs hp]; exact hg)]
    exact ⟨hf, rfl⟩
  · rw [judged, if_neg (by simp [hf]), if_neg (by rw [deviation_natAbs hp]; exact hg), if_neg (Nat.not_le.2 hr)]
    exact ⟨hf, rfl⟩
  · have hj : judged s = lostEnc s.enc := by
      rw [judged, if_neg (by simp [hf]), if_neg (by rw [deviation_natAbs hp]; exact hg), if_pos hr]
    rw [hj, atZero, if_neg fun h => nomatch h.1]
    exact ⟨rfl, rfl, rfl, rfl, rfl⟩
  · obtain ⟨c1, c2, c3⟩ := judged_captures hf
    rw [atZero, if_pos ⟨hf, c3 ▸ hb⟩]
    exact ⟨rfl, c1, rfl⟩
  · obtain ⟨c1, c2, c3⟩ := judged_captures hf
    rw [atZero, if_neg fun h => h.2 (c3.trans hb)]
    exact ⟨c1, c2, c3.trans hb⟩

/-! ### Slips of a turning drum and of an attempt -/

/-- The third slip in a row of a turning drum cuts the drum off before boundary 0. -/
theorem third_slip_cuts {s : State}
    (hd : s.drum.state = .spinup ∨ s.drum.state = .tracking ∨ s.drum.state = .locked ∨ s.drum.state = .braking)
    (hf : s.enc.indexFound = true) (hp : s.enc.pos ≤ 8191) (hg : ¬ IndexGood s) (hr : 2 ≤ s.enc.slipRun) :
    (boundaryAt 0 (checkIndex s)).drum = cutoffDrum .encoder s.drum ∧
      (boundaryAt 0 (checkIndex s)).enc = lostEnc s.enc := by
  let u := (countIndexSlip (s.setEnc { s.enc with pos := 0 })).setEnc (lostEnc s.enc)
  have hud : u.drum = s.drum :=
    (countIndexSlip_only (ps := [.pics]) (by decide) (Only.refl _ (s.setEnc { s.enc with pos := 0 }))).drum (by decide)
  have ha : DrumFault.actsIn .encoder u.drum.state = true := by
    rw [hud]
    rcases hd with hd | hd | hd | hd <;> rw [hd] <;> rfl
  have hc : checkIndex s = enterCutoff .encoder u := (checkIndex_loses hf hp hg hr).trans (drumFault_acts ha)
  have he : (enterCutoff .encoder u).enc = lostEnc s.enc := enterCutoff_enc .encoder u
  rw [hc, boundaryAt_lost _ (by rw [he]; rfl)]
  exact ⟨(enterCutoff_drum .encoder u).trans (by rw [hud]), he⟩

/-- The check of the index pulse counts a slip in the attempt record and else sweeps on. -/
theorem checkIndex_slip {s : State} (hf : s.enc.indexFound = true) (hp : s.enc.pos ≤ 8191) (hg : ¬ IndexGood s) :
    Swept (countIndexSlip (s.setEnc { s.enc with pos := 0 })) (checkIndex s) := by
  have ht := not_tolerated hf hp hg
  unfold checkIndex
  dsimp only
  rw [if_neg (by simp [hf]), if_neg (by simpa using ht)]
  split
  · exact (setEnc_swept (Swept.refl _) _).trans (drumFault_swept _ _)
  · exact setEnc_swept (Swept.refl _) _

/-- An event that sweeps on from a record being sent keeps its count of index slips. -/
theorem slips_settled {s0 v w : State} (k : Swept v w) (hv : onDrumState v = .sending) (y : Panel) (slot : Nat) :
    tally (·.indexSlips) ((settle s0 w).setPanel y) slot = tally (·.indexSlips) v slot := by
  have hw : onDrumState w ≠ .granted := fun h => by
    rw [k.granted h] at hv
    exact nomatch hv
  have hp : ((settle s0 w).setPanel y).pics = w.pics := by rw [State.setPanel_pics, settle_pics hw]
  exact (tally_congr (congrArg PicTable.records hp)).trans (k.slips slot)

/-- Settles O11: the drum at rest, the third slip of a turning drum, the slips of an attempt. -/
theorem indexPulseChecks : Obligations.IndexPulseChecks := by
  refine ⟨fun s hd hk ha => ?_, fun s hd hf hp hg hr => ?_, fun s slot r a ho hr hs hl hf hp => ?_⟩
  · have hop : ∀ x, indexPulse (s.setPanel x) = (s.setPanel x).setEnc (atZero s.now (judged s)) := fun x =>
      indexPulse_resting (s := s.setPanel x) hd hk ha
    obtain ⟨t, ht, hk, he⟩ := encoder_event (c := .indexPulse) (f := indexPulse) rfl hop
    exact ⟨t, ht, hk, judged_atZero he⟩
  · refine event_next (c := .indexPulse) (f := indexPulse) rfl fun x y => ?_
    obtain ⟨h1, h2⟩ := third_slip_cuts (s := s.setPanel x) hd hf hp hg hr
    have k := swept_frame .indexPulse (boundaryAt 0 (checkIndex (s.setPanel x)))
    have kd : (indexPulse (s.setPanel x)).drum = cutoffDrum .encoder s.drum := (k.drum (by decide)).trans h1
    have ke : (indexPulse (s.setPanel x)).enc = lostEnc s.enc := (k.enc (by decide)).trans h2
    obtain ⟨sd, se, -⟩ := settle_cutoff (s0 := s.setPanel x) (congrArg Drum.state kd)
    rw [State.setPanel_drum, State.setPanel_enc, sd, se, kd, ke]
    exact ⟨rfl, rfl, rfl, rfl, rfl, rfl, rfl, rfl⟩
  · refine event_next (c := .indexPulse) (f := indexPulse) rfl fun x y => ?_
    have hsd : onDrumState s = .sending := (onDrumState_rec ho hr).trans hs
    have on : ∀ v, Swept v (checkIndex (s.setPanel x)) → Swept v (indexPulse (s.setPanel x)) := fun v k =>
      swept_swept (k.trans (boundaryAt_swept 0 _)) .indexPulse
    have kept : ∀ v, Swept v (indexPulse (s.setPanel x)) → onDrumState v = .sending →
        (((settle (s.setPanel x) (indexPulse (s.setPanel x))).setPanel y).rec? slot).bind
          (fun r => r.attempts.getLast?.map (·.indexSlips)) = tally (·.indexSlips) v slot := fun v k hv =>
      slips_settled k hv y slot
    refine ⟨fun hg => ?_, fun hg => ?_⟩
    · have hs1 : onDrumState (countIndexSlip ((s.setPanel x).setEnc { s.enc with pos := 0 })) = .sending :=
        (countIndexSlip_keeps _).2.1.trans hsd
      have hc : countIndexSlip ((s.setPanel x).setEnc { s.enc with pos := 0 }) = modAttempt _ _ :=
        if_pos ((attemptInProgress_iff ((s.setPanel x).setEnc { s.enc with pos := 0 })).2 hsd)
      rw [kept _ (on _ (checkIndex_slip (s := s.setPanel x) hf hp hg)) hs1]
      exact (congrArg (tally (·.indexSlips) · slot) hc).trans (tally_modAttempt_last ho hr hl)
    · have k : Swept (s.setPanel x) (checkIndex (s.setPanel x)) := by
        rw [checkIndex_good (s := s.setPanel x) hg]
        exact setEnc_swept (Swept.refl _) _
      rw [kept _ (on _ k) hsd]
      show (s.rec? slot).bind _ = _
      rw [hr]
      exact congrArg (Option.map (·.indexSlips)) hl

end Sys2Proof.Machine

/-! ## Nothing is left due at the end of an event -/

namespace Sys2Proof.Machine

/-! ### What is settled, block by block -/

/-- The drum follows demand (R8, R14). -/
structure Driven (s : State) : Prop where
  spins : s.drum.state = .spinup ∨ s.drum.state = .tracking ∨ s.drum.state = .locked → demand s = true
  brakes : s.drum.state = .braking → demand s = false
  stopped : s.drum.state = .stopped → s.pins.coverClosed = true → s.tables.drumPending = none → demand s = false

/-- The lamp follows its demand (R46). -/
structure Lit (s : State) : Prop where
  on : lampDemand s = true → s.lamp.state ≠ .off
  off : lampDemand s = false → s.lamp.state = .off ∨ s.lamp.state = .fault

/-- The reports that are due are on the line, unless an eligible order waits (R79, R108; log 35). -/
def ReportsOut (s : State) : Prop := s.orders = [] ∨ eligible s = false → ∀ p, (s.port p).reportDue = false

theorem Settled.driven {s : State} (h : Settled s) : Driven s := ⟨h.spins, h.brakes, h.stopped⟩

theorem Settled.lit {s : State} (h : Settled s) : Lit s := ⟨h.lampOn, h.lampOff⟩

theorem Settled.of {s : State} (hd : Driven s) (hl : Lit s) (hh : s.head.state = .parked → onDrumState s ≠ .granted)
    (ha : attemptReady s = false) (hu : lineupReady s = false) (hr : ReportsOut s) : Settled s :=
  ⟨hd.spins, hd.brakes, hd.stopped, hl.on, hl.off, hh, ha, hu, hr⟩

theorem Driven.of {s t : State} (h : Driven s) (hs : t.drum.state = s.drum.state) (hd : demand t = demand s)
    (hc : t.pins.coverClosed = s.pins.coverClosed) (hp : t.tables.drumPending = s.tables.drumPending) : Driven t := by
  constructor <;> simp only [hs, hd, hc, hp]
  exacts [h.spins, h.brakes, h.stopped]

theorem Lit.of {s t : State} (h : Lit s) (hd : lampDemand t = lampDemand s) (hl : t.lamp.state = s.lamp.state) : Lit t := by
  constructor <;> simp only [hd, hl]
  exacts [h.on, h.off]

/-! ### Reports that are due -/

/-- A port holds the order queue back: a report on its line or a reception (R108). -/
def Port.holds (x : Port) : Bool := decide (x.activity = .reporting) || x.inReception

theorem eligible_eq (s : State) : eligible s = (!(s.port .a).holds && !(s.port .b).holds) := by
  simp only [eligible, Port.holds, State.port_a, State.port_b, Bool.not_or, decide_not]
  ac_rfl

theorem eligible_false_iff {s : State} : eligible s = false ↔ ∃ p, (s.port p).holds = true := by
  rw [eligible_eq]
  constructor
  · intro h
    cases ha : (s.port .a).holds with
    | true => exact ⟨.a, ha⟩
    | false =>
      rw [ha, Bool.not_false, Bool.true_and, Bool.not_eq_false'] at h
      exact ⟨.b, h⟩
  · rintro ⟨p, hp⟩
    cases p
    · rw [hp, Bool.not_true, Bool.false_and]
    · rw [hp, Bool.not_true, Bool.and_false]

/-- The port `y` is due and holds the queue back only where `x` does. -/
structure Eased (x y : Port) : Prop where
  due : y.reportDue = true → x.reportDue = true
  holds : y.holds = true → x.holds = true

theorem Eased.refl (x : Port) : Eased x x := ⟨id, id⟩

theorem Eased.trans {x y z : Port} (h : Eased x y) (k : Eased y z) : Eased x z :=
  ⟨fun hz => h.due (k.due hz), fun hz => h.holds (k.holds hz)⟩

theorem SameLine.eased {x y : Port} (h : SameLine x y) : Eased x y := by
  constructor
  · rw [Port.reportDue, Port.reportDue, h.activity, h.list, h.turn]
    exact id
  · rw [Port.holds, Port.holds, Port.inReception, Port.inReception, h.activity, h.rx]
    exact id

theorem ReportsOut.eased {s t : State} (h : ReportsOut s) (ho : t.orders = s.orders)
    (k : ∀ p, Eased (s.port p) (t.port p)) : ReportsOut t := by
  intro ht p
  have hs : s.orders = [] ∨ eligible s = false := by
    rcases ht with ht | ht
    · exact Or.inl (ho.symm.trans ht)
    · obtain ⟨q, hq⟩ := eligible_false_iff.1 ht
      exact Or.inr (eligible_false_iff.2 ⟨q, (k q).holds hq⟩)
  have hd := h hs p
  by_contra hf
  rw [(k p).due (by simpa using hf)] at hd
  exact nomatch hd

theorem ReportsOut.ports {s t : State} (h : ReportsOut s) (ho : t.orders = s.orders) (hp : ∀ p, t.port p = s.port p) :
    ReportsOut t := h.eased ho fun p => hp p ▸ Eased.refl _

theorem ReportsOut.of_only {ps : List Part} {s t : State} (h : ReportsOut s) (k : Only ps s t)
    (hp : ∀ q ∈ [Part.portA, .portB, .orders], q ∉ ps) : ReportsOut t :=
  h.ports (k.orders (hp _ (by decide))) fun p => k.port (p := p) (by cases p; exacts [hp _ (by decide), hp _ (by decide)])

theorem ReportsOut.carried {s t : State} (h : ReportsOut s) (k : Carried s t) : ReportsOut t :=
  h.eased k.orders fun p => (k.port p).eased

/-- A port that carries or is IDLE, its receiver at rest, is not due and holds nothing back. -/
theorem eased_of_rest {x y : Port} (ha : y.activity = .carrying ∨ y.activity = .idle) (hr : y.rx.state = .hunting) :
    Eased x y := by
  constructor
  · intro h
    rw [Port.reportDue] at h
    rcases ha with ha | ha <;> simp [ha] at h
  · intro h
    rw [Port.holds, Port.inReception, hr] at h
    rcases ha with ha | ha <;> simp [ha] at h

/-- A port changed so that it is eased. -/
theorem ReportsOut.setPort {s : State} (h : ReportsOut s) {p : PortId} {x : Port} (k : Eased (s.port p) x) :
    ReportsOut (s.setPort p x) := by
  refine h.eased (by cases p <;> rfl) fun q => ?_
  by_cases hq : p = q
  · subst hq
    rw [State.setPort_port_same]
    exact k
  · rw [State.setPort_port_other _ _ _ _ hq]
    exact Eased.refl _

theorem ReportsOut.enterCarrying {s : State} (h : ReportsOut s) (p : PortId) : ReportsOut (enterCarrying p s) :=
  h.setPort (eased_of_rest (Or.inl rfl) rfl)

theorem ReportsOut.startAttempt {s : State} (h : ReportsOut s) (slot : Nat) (p : PortId) (b : Bool) :
    ReportsOut (startAttempt slot p b s) := by
  unfold Machine.startAttempt
  dsimp only
  generalize hu : State.setSender _ _ = u
  have hp : ∀ q, u.port q = s.port q := fun q => by
    rw [← hu]
    cases q <;> rfl
  have ho : u.orders = s.orders := by
    rw [← hu]
    rfl
  exact ((h.ports ho hp).enterCarrying p).ports rfl fun q => by cases q <;> rfl

/-! ### The evaluations of an event -/

/-- What an event's operation must leave to the evaluations: a drum at rest with its pending profile, and of the lamp whether
it is OFF, and whether it is OFF or in FAULT, but for a LAMP fault. -/
structure Led (s t : State) : Prop where
  stopped : s.drum.state = .stopped → t.drum.state = .stopped ∧ t.tables.drumPending = s.tables.drumPending
  lampOn : s.lamp.state ≠ .off → t.lamp.state ≠ .off
  lampOff : s.lamp.state = .off ∨ s.lamp.state = .fault → t.lamp.state = .off ∨ t.lamp.state = .fault

theorem Led.refl (s : State) : Led s s := ⟨fun h => ⟨h, rfl⟩, id, id⟩

theorem Led.trans {s t u : State} (h : Led s t) (k : Led t u) : Led s u where
  stopped hs := ⟨(k.stopped (h.stopped hs).1).1, (k.stopped (h.stopped hs).1).2.trans (h.stopped hs).2⟩
  lampOn hs := k.lampOn (h.lampOn hs)
  lampOff hs := k.lampOff (h.lampOff hs)

theorem Carried.led {s t : State} (h : Carried s t) : Led s t := ⟨h.stopped, h.lampOn, h.lampOff⟩

theorem Led.of_only {ps : List Part} {s t : State} (h : Only ps s t) (hp : ∀ q ∈ [Part.drum, .tables, .lamp], q ∉ ps) :
    Led s t where
  stopped hs := ⟨by rw [h.drum (hp _ (by decide))]; exact hs, by rw [h.tables (hp _ (by decide))]⟩
  lampOn := by rw [h.lamp (hp _ (by decide))]; exact id
  lampOff := by rw [h.lamp (hp _ (by decide))]; exact id

/-- The drive's evaluation leaves the drum to its demand, whatever state it finds (R8, R14). -/
theorem evaluateDemand_driven (s : State) : Driven (evaluateDemand s) := by
  have brake : demand s = false → Driven (enterBraking s) := fun hd =>
    ⟨fun h => (by rcases h with h | h | h <;> exact nomatch h), fun _ => hd, fun h => nomatch h⟩
  have spin : demand s = true → Driven (enterSpinup s) := fun hd =>
    ⟨fun _ => hd, fun h => (nomatch h), fun h => nomatch h⟩
  have turns : s.drum.state = .spinup ∨ s.drum.state = .tracking ∨ s.drum.state = .locked → Driven (evaluateDemand s) := by
    intro h
    cases hd : demand s with
    | true =>
      rw [evaluateDemand_demanded hd h]
      exact ⟨fun _ => hd, fun hb => (by rw [hb] at h; simp at h), fun hb => (by rw [hb] at h; simp at h)⟩
    | false =>
      rw [evaluateDemand_braked hd h]
      exact brake hd
  cases hs : s.drum.state with
  | spinup => exact turns (Or.inl hs)
  | tracking => exact turns (Or.inr (Or.inl hs))
  | locked => exact turns (Or.inr (Or.inr hs))
  | stopped =>
    by_cases hc : demand s = true ∧ s.pins.coverClosed = true ∧ s.tables.drumPending = none
    · rw [evaluateDemand_spun hc.1 (Or.inr ⟨hs, hc.2⟩)]
      exact spin hc.1
    · have e : evaluateDemand s = s := by simp only [evaluateDemand, hs, if_neg hc]
      rw [e]
      exact ⟨fun h => (by rw [hs] at h; simp at h), fun h => (by rw [hs] at h; exact nomatch h),
        fun _ h1 h2 => Bool.not_eq_true _ ▸ fun hd => hc ⟨hd, h1, h2⟩⟩
  | braking =>
    cases hd : demand s with
    | true =>
      rw [evaluateDemand_spun hd (Or.inl hs)]
      exact spin hd
    | false =>
      rw [evaluateDemand_undemanded hd (Or.inr hs)]
      exact ⟨fun h => (by rw [hs] at h; simp at h), fun _ => hd, fun h => (by rw [hs] at h; exact nomatch h)⟩
  | cutoff =>
    rw [evaluateDemand_cutoff hs]
    exact ⟨fun h => (by rw [hs] at h; simp at h), fun h => (by rw [hs] at h; exact nomatch h),
      fun h => (by rw [hs] at h; exact nomatch h)⟩

/-- What the drive evaluates when something it watches changed, it need not when nothing did (R7). -/
theorem drumEval_driven {s0 v : State} (h : Driven s0)
    (hp : s0.drum.state = .stopped → v.tables.drumPending = s0.tables.drumPending) : Driven (drumEval s0 v) := by
  unfold drumEval
  split
  · rename_i hsame
    obtain ⟨hd, hs, hc⟩ := hsame
    refine ⟨fun hv => hd ▸ h.spins (by rw [hs]; exact hv), fun hv => hd ▸ h.brakes (by rw [hs]; exact hv),
      fun hv h1 h2 => hd ▸ h.stopped (by rw [hs]; exact hv) (by rw [hc]; exact h1) ?_⟩
    rw [← hp (by rw [hs]; exact hv)]
    exact h2
  · exact evaluateDemand_driven v

/-- A head that enters POSITIONING is not PARKED after it (R51). -/
theorem enterPositioning_leaves {s : State} (h : attemptInProgress s = false) :
    (enterPositioning s).head.state ≠ .parked := by
  unfold enterPositioning
  split
  · exact fun hf => nomatch hf
  · obtain ⟨x, e⟩ := stepOut_idle (s := s.setHead { s.head with state := .positioning }) h
    have hx : x.state ≠ .parked := by
      have hs : (stepOut (s.setHead { s.head with state := .positioning })).head.state ≠ .parked := by
        unfold stepOut
        split
        · have e : raiseHeadFault (s.setHead { s.head with state := .positioning }) = stopHead _ :=
            attemptEnd_of_none (t := stopHead (s.setHead { s.head with state := .positioning })) h
          rw [e]
          exact fun hf => nomatch hf
        · exact fun hf => nomatch hf
      rw [e] at hs
      exact hs
    unfold positionStep
    rw [e]
    dsimp only
    split
    · split
      · exact fun hf => nomatch hf
      · exact hx
    · exact hx

/-- The head's evaluation moves the head alone, and leaves none parked under a record GRANTED (R51). -/
theorem headEval_out {s0 u : State} (h : s0.head.state = .parked → onDrumState s0 ≠ .granted) :
    ∃ x, headEval s0 u = u.setHead x ∧ (x.state = .parked → onDrumState u ≠ .granted) := by
  by_cases hu : u.head.state = .parked ∧ onDrumState u = .granted
  · have ha : attemptInProgress u = false := by simp [attemptInProgress, hu.2]
    have he : headEval s0 u = enterPositioning u := by
      have hb : ¬ (s0.head.state = .parked ∧ onDrumState s0 = .granted) := fun hf => h hf.1 hf.2
      unfold headEval
      simp only [hu.1, hu.2]
      exact if_pos ⟨by simp, by simpa using hb⟩
    obtain ⟨x, hx⟩ := enterPositioning_idle ha
    have hl := enterPositioning_leaves ha
    rw [hx] at hl
    exact ⟨x, he.trans hx, fun hf => absurd hf hl⟩
  · exact ⟨u.head, headEval_eq fun h1 h2 => absurd ⟨h1, h2⟩ hu, fun h1 h2 => hu ⟨h1, h2⟩⟩

/-- The lamp's evaluation (R46). -/
theorem lampEval_lit {s0 w : State} (h : Lit s0) (hon : s0.lamp.state ≠ .off → w.lamp.state ≠ .off)
    (hoff : s0.lamp.state = .off ∨ s0.lamp.state = .fault → w.lamp.state = .off ∨ w.lamp.state = .fault) :
    Lit (lampEval s0 w) := by
  have hd : lampDemand (lampEval s0 w) = lampDemand w := by
    obtain ⟨l, e⟩ := lampEval_lamp s0 w
    rw [e]
    rfl
  constructor <;> rw [hd] <;> intro hw
  · unfold lampEval
    cases h0 : lampDemand s0 with
    | false =>
      rw [if_pos ⟨hw, rfl⟩]
      exact fun hf => nomatch hf
    | true =>
      rw [if_neg fun hf => (nomatch hf.2), hw, if_neg fun hf => nomatch hf.1]
      exact hon (h.on h0)
  · unfold lampEval
    rw [hw, if_neg fun hf => nomatch hf.1]
    cases h0 : lampDemand s0 with
    | true =>
      rw [if_pos ⟨rfl, rfl⟩]
      split
      · rename_i hl
        exact Or.inr hl
      · rename_i hl
        exact Or.inl hl
      · exact Or.inl rfl
      · exact Or.inl rfl
    | false =>
      rw [if_neg fun hf => nomatch hf.2]
      exact hoff (h.off h0)

/-- An attempt start leaves demand and the lamp's demand as they were, and the attempt's conditions unmet (R142, R144). -/
theorem attemptStart_settles {w : State} (hr : attemptReady w = true) (hd : Driven w) (hl : Lit w) (ho : ReportsOut w) :
    Driven (attemptStart w) ∧ Lit (attemptStart w) ∧ (attemptStart w).head.state ≠ .parked ∧
      attemptReady (attemptStart w) = false ∧ ReportsOut (attemptStart w) := by
  obtain ⟨hg, hlock, hready, -, -⟩ := attemptReady_granted' hr
  obtain ⟨slot, hslot⟩ : ∃ slot, w.pics.onDrum = some slot := by
    cases h : w.pics.onDrum with
    | none => simp [onDrumState, onDrumRec, h] at hg
    | some slot => exact ⟨slot, rfl⟩
  obtain ⟨⟨p, sub⟩, hport⟩ : ∃ c, chosenPort w = some c := by
    cases h : chosenPort w with
    | none => simp [attemptReady, h] at hr
    | some c => exact ⟨c, rfl⟩
  have e : attemptStart w = startAttempt slot p sub w := by
    rw [attemptStart, if_pos hr, hslot, hport]
  have hs : onDrumState (startAttempt slot p sub w) = .sending := by
    obtain ⟨r, hrec, -⟩ := rec?_of_onDrumState hslot (by rw [hg]; decide)
    exact startAttempt_onDrumState slot p sub hslot (by rw [hrec]; rfl)
  have k : Only [.drum, .head, .store, .portA, .portB, .sender, .pics] w (startAttempt slot p sub w) := by
    refine startAttempt_only slot p sub ?_ ?_ ?_ ?_ ?_ ?_ ?_ (Only.refl _ _) <;> decide
  have hdrum : (startAttempt slot p sub w).drum = { w.drum with unlocked := 0 } := by cases p <;> rfl
  have hhead : (startAttempt slot p sub w).head.state = .scanning := rfl
  rw [e]
  refine ⟨hd.of (by rw [hdrum]) ?_ (by rw [k.pins (by decide)]) (by rw [k.tables (by decide)]), hl.of ?_ (by rw [k.lamp (by decide)]),
    fun hf => (nomatch hf), not_attemptReady (Or.inl (by rw [hs]; decide)), ?_⟩
  · simp [demand, hs, hg]
  · simp [lampDemand, hs, hg, hdrum, hhead, hready, k.scan (by decide)]
  · exact ho.startAttempt slot p sub

/-- What the frame of an operation says of the drive, when it reaches none of what the drive's demand reads. -/
theorem Driven.of_only {ps : List Part} {s t : State} (h : Driven s) (k : Only ps s t)
    (hp : ∀ q ∈ [Part.drum, .pics, .pins, .tables], q ∉ ps) : Driven t := by
  have hd : t.drum = s.drum := k.drum (hp _ (by decide))
  refine h.of (by rw [hd]) (demand_congr (by rw [hd]) (onDrumState_congr (k.pics (hp _ (by decide))))) ?_ ?_
  · rw [k.pins (hp _ (by decide))]
  · rw [k.tables (hp _ (by decide))]

theorem Lit.of_only {ps : List Part} {s t : State} (h : Lit s) (k : Only ps s t)
    (hp : ∀ q ∈ [Part.drum, .pics, .scan, .head, .lamp], q ∉ ps) : Lit t := by
  refine h.of (lampDemand_congr (onDrumState_congr (k.pics (hp _ (by decide)))) (k.scan (hp _ (by decide))) ?_ ?_) ?_
  · rw [k.drum (hp _ (by decide))]
  · rw [k.head (hp _ (by decide))]
  · rw [k.lamp (hp _ (by decide))]

/-- A line-up that starts takes the sender (R97, R98). -/
theorem lineupStart_sender {z : State} (h : lineupReady z = true) : (lineupStart z).sender.state = .lineupWhite := by
  have hs := h
  simp only [lineupReady, Bool.and_eq_true, decide_eq_true_eq] at hs
  unfold lineupStart
  rw [if_pos h]
  split
  · rename_i p _
    cases p <;> rfl
  · rename_i hn
    rw [hn] at hs
    exact nomatch hs.2

theorem lineupReady_of_busy {s : State} (h : s.sender.state ≠ .free) : lineupReady s = false := by
  simp [lineupReady, h]

theorem ReportsOut.lineupStart {s : State} (h : ReportsOut s) : ReportsOut (lineupStart s) := by
  unfold Machine.lineupStart
  split
  · split
    · exact (h.of_only (ps := [.sender]) (setSender_only _ (by decide) (Only.refl _ _)) (by decide)).enterCarrying _
    · exact h
  · exact h

/-- The attempt's and the line-up's start, the last of the evaluations. -/
theorem starts_settled {s0 w : State} (h : Settled s0) (hd : Driven w) (hl : Lit w)
    (hh : w.head.state = .parked → onDrumState w ≠ .granted) (hr : ReportsOut w) :
    Settled (lineupEval s0 (attemptEval s0 w)) := by
  have attempt : Driven (attemptEval s0 w) ∧ Lit (attemptEval s0 w) ∧
      ((attemptEval s0 w).head.state = .parked → onDrumState (attemptEval s0 w) ≠ .granted) ∧
      attemptReady (attemptEval s0 w) = false ∧ ReportsOut (attemptEval s0 w) := by
    cases ha : attemptReady w with
    | false =>
      rw [attemptEval_eq fun hf => by rw [ha] at hf; exact nomatch hf]
      exact ⟨hd, hl, hh, ha, hr⟩
    | true =>
      have e : attemptEval s0 w = attemptStart w := if_pos ⟨ha, h.attempt⟩
      rw [e]
      obtain ⟨h1, h2, h3, h4, h5⟩ := attemptStart_settles ha hd hl hr
      exact ⟨h1, h2, fun hf => absurd hf h3, h4, h5⟩
  generalize attemptEval s0 w = z at attempt
  obtain ⟨hd, hl, hh, ha, hr⟩ := attempt
  cases hq : lineupReady z with
  | false =>
    rw [lineupEval_eq fun hf => by rw [hq] at hf; exact nomatch hf]
    exact Settled.of hd hl hh ha hq hr
  | true =>
    have e : lineupEval s0 z = lineupStart z := if_pos ⟨hq, h.lineup⟩
    have k : Only [.sender, .portA, .portB] z (lineupStart z) :=
      lineupStart_only (by decide) (by decide) (by decide) (Only.refl _ _)
    have hs : (lineupStart z).sender.state ≠ .free := by rw [lineupStart_sender hq]; decide
    rw [e]
    refine Settled.of (hd.of_only k (by decide)) (hl.of_only k (by decide)) (fun h1 h2 => ?_)
      (not_attemptReady (Or.inr (Or.inr (Or.inr (Or.inr hs))))) (lineupReady_of_busy hs) hr.lineupStart
    rw [k.head (by decide)] at h1
    rw [onDrumState_congr (k.pics (by decide))] at h2
    exact hh h1 h2

/-- The evaluations after an event's operation leave nothing due, when nothing was before it. -/
theorem settle_settled {s0 s : State} (h : Settled s0) (k : Led s0 s) (hr : ReportsOut s) : Settled (settle s0 s) := by
  have kv : Carried s (portFailEval s0 (lapseEval s0 s)) := by
    have k1 : Carried s (lapseEval s0 s) :=
      Carried.of_only (ps := [.sender]) (lapseEval_only _ (by decide) (Only.refl _ _)) (by decide)
    refine k1.trans ?_
    unfold portFailEval
    split
    · split
      · exact finishRecord_carried _ _ _ _
      · exact Carried.refl _
    · exact Carried.refl _
  unfold settle
  dsimp only
  generalize portFailEval s0 (lapseEval s0 s) = v at *
  have kl : Led s0 v := k.trans kv.led
  have k1 : Only [.drum, .reg] v (standardEval s0 v) := standardEval_only _ (by decide) (by decide) (Only.refl _ _)
  have k2 : Only [.enc, .drum, .reg] v (drumEval s0 (standardEval s0 v)) :=
    drumEval_only _ (by decide) (by decide) (k1.mono (by decide))
  have hd : Driven (drumEval s0 (standardEval s0 v)) :=
    drumEval_driven h.driven fun hs => by rw [k1.tables (by decide)]; exact (kl.stopped hs).2
  generalize drumEval s0 (standardEval s0 v) = u at *
  have hru : ReportsOut u := (hr.carried kv).of_only k2 (by decide)
  obtain ⟨x, ex, hx⟩ := headEval_out (u := u) h.head
  obtain ⟨l, el⟩ := lampEval_lamp s0 (u.setHead x)
  have hlit : Lit (lampEval s0 (u.setHead x)) := by
    refine lampEval_lit h.lit ?_ ?_ <;> rw [State.setHead_lamp, k2.lamp (by decide)]
    exacts [kl.lampOn, kl.lampOff]
  rw [ex]
  rw [el] at hlit ⊢
  have k3 : Only [.head, .lamp] u ((u.setHead x).setLamp l) :=
    setLamp_only _ (by decide) (setHead_only _ (by decide) (Only.refl _ _))
  exact starts_settled h (hd.of_only k3 (by decide)) hlit hx
    (hru.of_only k3 (by decide))

/-! ### Events -/

/-- What the panel holds is no part of what is settled. -/
theorem Settled.setPanel {s : State} (h : Settled s) (x : Panel) : Settled (s.setPanel x) := by
  have k : Only [.panel] s (s.setPanel x) := setPanel_only _ (by decide) (Only.refl _ _)
  exact Settled.of (h.driven.of_only k (by decide)) (h.lit.of_only k (by decide)) h.head h.attempt h.lineup
    (ReportsOut.of_only h.reports k (by decide))

/-- An event whose operation leaves to the evaluations what is theirs, and no report due, leaves nothing due. -/
theorem event_settled {f : State → State} {s : State} (h : Settled s)
    (hf : ∀ u, Settled u → Led u (f u) ∧ ReportsOut (f u)) : Settled (event f s) := by
  obtain ⟨x, y, e⟩ := event_eq f s
  have hu := h.setPanel x
  obtain ⟨k, hr⟩ := hf _ hu
  exact e ▸ (settle_settled hu k hr).setPanel y

/-- The same for an operation that leaves the lines and the queue alone. -/
theorem event_settled_carried {f : State → State} {s : State} (h : Settled s) (hf : ∀ u, Settled u → Carried u (f u)) :
    Settled (event f s) :=
  event_settled h fun u hu => ⟨(hf u hu).led, ReportsOut.carried hu.reports (hf u hu)⟩

end Sys2Proof.Machine

/-! ## The operations that leave the lines alone -/

namespace Sys2Proof.Machine

/-! ### The mechanism (01 to 04) -/

theorem Carried.setPins {s t : State} (h : Carried s t) (x : Pins) : Carried s (t.setPins x) :=
  h.trans (Carried.of_only (ps := [.pins]) (setPins_only _ (by decide) (Only.refl _ _)) (by decide))

theorem Carried.setPanel {s t : State} (h : Carried s t) (x : Panel) : Carried s (t.setPanel x) :=
  h.trans (Carried.of_only (ps := [.panel]) (setPanel_only _ (by decide) (Only.refl _ _)) (by decide))

/-- A change of the drive that keeps its state. -/
theorem Carried.setDrum {s t : State} (h : Carried s t) {x : Drum} (hx : x.state = t.drum.state) : Carried s (t.setDrum x) :=
  h.trans ⟨fun p => by rw [State.setDrum_port]; exact SameLine.refl _, rfl, fun hs => ⟨hx.trans hs, rfl⟩, id, id⟩

theorem checkIndex_carried (s : State) : Carried s (checkIndex s) := by
  have enc : ∀ (u : State) (x : Encoder), Carried u (u.setEnc x) := fun u x => (setEnc_swept (Swept.refl u) x).toCarried
  unfold checkIndex
  dsimp only
  split
  · exact (enc s _).trans (enc _ _)
  · split
    · exact (enc s _).trans (enc _ _)
    · have slip : ∀ u : State, Carried u (countIndexSlip u) := fun u =>
        Carried.of_only (ps := [.pics]) (countIndexSlip_only (by decide) (Only.refl _ _)) (by decide)
      split
      · exact (enc s _).trans ((slip _).trans ((enc _ _).trans (drumFault_swept _ _).toCarried))
      · exact (enc s _).trans ((slip _).trans (enc _ _))

theorem indexPulse_carried (s : State) : Carried s (indexPulse s) :=
  (checkIndex_carried s).trans (swept_swept (boundaryAt_swept 0 _) .indexPulse).toCarried

theorem encoderCount_carried (dir : Dir) (s : State) : Carried s (encoderCount dir s) := by
  cases dir with
  | forward =>
    have h : Swept s (countForward s) := by
      unfold countForward
      dsimp only
      generalize (if s.enc.pos = 8191 then 0 else s.enc.pos + 1) = pos
      split
      · exact (setEnc_swept (Swept.refl s) _).trans (boundaryAt_swept _ _)
      · exact setEnc_swept (Swept.refl s) _
    exact (swept_swept h (.encoderCount .forward)).toCarried
  | reverse =>
    have h : Swept s (countReverse s) := by
      unfold countReverse
      dsimp only
      split
      · exact (setEnc_swept (Swept.refl s) _).trans (drumFault_swept _ _)
      · exact setEnc_swept (Swept.refl s) _
    exact h.toCarried

theorem spinupTimerExpiry_carried (s : State) : Carried s (spinupTimerExpiry s) := by
  unfold spinupTimerExpiry
  split
  · exact (drumFault_swept _ s).toCarried
  · exact Carried.refl s

theorem stallDeadline_carried (s : State) : Carried s (stallDeadline s) := by
  unfold stallDeadline
  split
  · exact (drumFault_swept _ s).toCarried
  · exact Carried.refl s

theorem brakingTimerExpiry_carried (s : State) : Carried s (brakingTimerExpiry s) := by
  unfold brakingTimerExpiry
  split
  · rename_i h
    exact (enterStopped_swept (by rw [h.1]; decide)).toCarried
  · exact Carried.refl s

theorem silenceTimerExpiry_carried (s : State) : Carried s (silenceTimerExpiry s) := by
  unfold silenceTimerExpiry
  split
  · rename_i h
    exact (enterStopped_swept (by rw [h.1]; decide)).toCarried
  · exact Carried.refl s

theorem coverChange_carried (closed : Bool) (s : State) : Carried s (coverChange closed s) := by
  unfold coverChange
  dsimp only
  split
  · exact (Carried.refl s).setPins _
  · exact ((Carried.refl s).setPins _).trans (drumFault_swept _ _).toCarried

theorem takeWhite_carried (reading : Nat) (s : State) : Carried s (takeWhite reading s) := by
  unfold takeWhite
  dsimp only
  split
  · have k := offerReady_swept (setScan_swept (Swept.refl s) { s.scan with
      whiteSum := s.scan.whiteSum + reading, whiteCount := s.scan.whiteCount + 1, waiting := fillWhite s.scan.waiting })
    split
    · exact (finishAtSample_swept k).toCarried
    · exact k.toCarried
  · exact (signalIfDue_swept (offerReady_swept (setScan_swept (Swept.refl s) _))).toCarried

theorem conversionComplete_carried (reading : Nat) (s : State) : Carried s (conversionComplete reading s) := by
  have hand : Carried s (handResult reading s) := by
    unfold handResult
    split
    · exact Carried.refl s
    · exact Carried.of_only (ps := [.conv, .slips]) (takeTherm_only _ (by decide) (by decide) (Only.refl _ _)) (by decide)
    · exact Carried.refl s
    · exact takeWhite_carried reading s
    · exact (signalIfDue_swept (offerReady_swept (setScan_swept (Swept.refl s) _))).toCarried
  unfold conversionComplete
  split
  · exact Carried.refl s
  · exact hand.trans (Carried.of_only (ps := [.conv]) (startNextConversion_only (by decide) (Only.refl _ _)) (by decide))

theorem lampWarm_carried (s : State) : Carried s (lampWarm s) := by
  unfold lampWarm
  split
  · rename_i h
    exact ⟨fun p => by rw [State.setLamp_port]; exact SameLine.refl _, rfl, fun hs => ⟨hs, rfl⟩, fun _ hf => (nomatch hf),
      fun hf => by rw [h.1] at hf; simp at hf⟩
  · exact Carried.refl s

theorem stepTimerExpiry_carried (s : State) : Carried s (stepTimerExpiry s) := by
  have k0 := setHead_swept (Swept.refl s) { s.head with stepTimer := none }
  unfold stepTimerExpiry
  dsimp only
  split
  · exact Carried.refl s
  · split
    · exact (positionStep_swept k0).toCarried
    · split
      · exact k0.toCarried
      · have k1 := stepOut_swept k0
        split
        · exact (setHead_swept k1 _).toCarried
        · exact k1.toCarried
    · have k1 : Swept s (rewindStep (s.setHead { s.head with stepTimer := none })) :=
        k0.trans (Swept.of_only (ps := [.head]) (rewindStep_only (by decide) (Only.refl _ _)) (by decide))
      split
      · exact (raiseHeadFault_swept k1).toCarried
      · exact k1.toCarried
    iterate 3 exact k0.toCarried

theorem homeSensor_carried (level : Bool) (s : State) : Carried s (homeSensor level s) := by
  unfold homeSensor
  dsimp only
  split
  · exact ((Carried.refl s).setPins _).trans (parkHead_swept _).toCarried
  · exact (Carried.refl s).setPins _

/-! ### The sender's cadence and the breaks of an attempt (05) -/

theorem cadenceEvent_carried (s : State) : Carried s (cadenceEvent s) := by
  have take : ∀ u : State, Carried u (takeEntry u) := fun u => by
    unfold takeEntry
    split
    · exact (setSender_swept (setStore_swept (Swept.refl u) _) _).toCarried
    · split
      · split
        · exact attemptEnd_carried _ u
        · exact Carried.refl u
      · exact Carried.of_only (ps := [.store, .pics]) (underrun_only (by decide) (by decide) (Only.refl _ _)) (by decide)
  unfold cadenceEvent
  split
  · exact (setSender_swept (Swept.refl s) _).toCarried.trans (take _)
  · exact Carried.refl s

/-- A port changed in its counts, its timers of R82 and R83 or its loop-current level. -/
theorem Carried.setPort {s : State} {p : PortId} {x : Port} (h : SameLine (s.port p) x) : Carried s (s.setPort p x) where
  port q := by
    by_cases hq : p = q
    · subst hq
      rw [State.setPort_port_same]
      exact h
    · rw [State.setPort_port_other _ _ _ _ hq]
      exact SameLine.refl _
  orders := State.setPort_orders s p x
  stopped hs := ⟨by rw [State.setPort_drum]; exact hs, by rw [State.setPort_tables]⟩
  lampOn := by rw [State.setPort_lamp]; exact id
  lampOff := by rw [State.setPort_lamp]; exact id

theorem breakExpiry_carried (p : PortId) (s : State) : Carried s (breakExpiry p s) := by
  unfold breakExpiry
  split
  · have k : Carried s (s.setPort p { s.port p with breakTimer := none }) := Carried.setPort ⟨rfl, rfl, rfl, rfl, rfl⟩
    exact k.trans (attemptEnd_carried _ _)
  · exact Carried.refl s

/-! ### The picture table, the slip unit and the panel (08 to 10) -/

theorem receiptExpiry_carried (s : State) : Carried s (receiptExpiry s) := by
  unfold receiptExpiry
  split
  · split
    · exact finishRecord_carried _ _ _ _
    · exact Carried.refl s
  · exact Carried.refl s

/-- MECH CLEAR brings to rest a drum in CUTOFF alone (R17). -/
theorem mechClear_carried {s t : State} (h : mechClear s = some t) : Carried s t := by
  have stop : Carried s (if s.drum.state = .cutoff then enterStopped s else s) := by
    split
    · rename_i hc
      exact (enterStopped_swept (by rw [hc]; decide)).toCarried
    · exact Carried.refl s
  have rewind : ∀ u : State, Carried u (rewindFromFault u) := fun u => by
    unfold rewindFromFault
    split
    · exact Carried.of_tables (ps := [.head, .tables]) (enterRewind_only _ (by decide) (by decide) (Only.refl _ _)) (by decide)
        (enterRewind_tables _ u).1
    · exact Carried.refl u
  unfold mechClear at h
  split at h
  · exact nomatch h
  · exact Option.some.inj h ▸ stop.trans (rewind _)

theorem giveNotice_carried (k : PanelKind) (n : Notice) (s : State) : Carried s (giveNotice k n s) := (Carried.refl s).setPanel _

theorem panelHunting_carried (s : State) : Carried s (panelHunting s) := (Carried.refl s).setPanel _

theorem loadPhotograph_carried (lines : Nat) (slug : List Byte) (s : State) : Carried s (loadPhotograph lines slug s) :=
  Carried.of_only (ps := [.pics, .panel]) (loadPhotograph_only _ _ (by decide) (by decide) (Only.refl _ _)) (by decide)

theorem spinKey_carried (s : State) : Carried s (spinKey s) := by
  unfold spinKey
  split
  · exact giveNotice_carried _ _ s
  · exact (Carried.refl s).setDrum rfl

theorem stopKey_carried (s : State) : Carried s (stopKey s) := by
  unfold stopKey
  split
  · exact giveNotice_carried _ _ s
  · exact (Carried.refl s).setDrum rfl

theorem abortKey_carried (s : State) : Carried s (abortKey s) := by
  unfold abortKey
  split
  · exact giveNotice_carried _ _ s
  · split
    · exact Carried.of_only (ps := [.pics]) (emptyRecord_only _ (by decide) (Only.refl _ _)) (by decide)
    · exact finishRecord_carried _ _ _ s
    · exact finishRecord_carried _ _ _ s
    · exact attemptEnd_carried _ s
    · exact giveNotice_carried _ _ s
    · exact giveNotice_carried _ _ s

theorem reprintKey_carried (s : State) : Carried s (reprintKey s) :=
  Carried.of_only (ps := [.conv, .pics, .slips, .panel])
    (reprintKey_only (by decide) (by decide) (by decide) (by decide) (Only.refl _ _)) (by decide)

theorem resetMechKey_carried (s : State) : Carried s (resetMechKey s) := by
  unfold resetMechKey
  split
  · rename_i h
    exact mechClear_carried h
  · exact giveNotice_carried _ _ s

theorem panelLoad_carried (lines : Nat) (slug : List Byte) (s : State) : Carried s (panelLoad lines slug s) := by
  unfold panelLoad
  dsimp only
  split
  · exact (panelHunting_carried s).trans (loadPhotograph_carried _ _ _)
  · exact panelHunting_carried s

theorem panelOwner_carried (k : PanelKind) (content : List Byte) (s : State) : Carried s (panelOwner k content s) := by
  cases k with
  | load => exact loadPhotograph_carried _ _ s
  | spin => exact spinKey_carried s
  | stop => exact stopKey_carried s
  | abort => exact abortKey_carried s
  | reprint => exact reprintKey_carried s
  | resetMech => exact resetMechKey_carried s

theorem panelByte_carried (b : Option Byte) (s : State) : Carried s (panelByte b s) := by
  have push : ∀ (b : Byte) (u : State), Carried u (panelPush b u) := fun b u => (Carried.refl u).setPanel _
  have position : ∀ b : Byte, Carried s (panelPosition b s) := fun b => by
    unfold panelPosition
    split
    · split
      exacts [push b s, panelHunting_carried s]
    · split
      · exact panelHunting_carried s
      · split
        exacts [push b s, panelHunting_carried s]
      · split
        · exact push b s
        · split
          · exact (panelHunting_carried s).trans (panelOwner_carried _ _ _)
          · exact panelHunting_carried s
  unfold panelByte
  split
  · split
    · exact panelHunting_carried s
    · exact position _
  · split
    · exact (Carried.refl s).setPanel _
    · exact Carried.refl s

/-- Each byte of a run on the panel link is an event of its own (R170; log 21). -/
theorem panelFeed_settled (bytes : List (Option Byte)) {s : State} (h : Settled s) : Settled (panelFeed bytes s) := by
  unfold panelFeed
  induction bytes generalizing s with
  | nil => exact h
  | cons b rest ih => exact ih (event_settled_carried h fun u _ => panelByte_carried b u)

end Sys2Proof.Machine

/-! ## The operations on the lines and the order queue -/

namespace Sys2Proof.Machine

/-! ### Reports -/

/-- No report is due on either port. -/
def NoneReportDue (s : State) : Prop := ∀ p, (s.port p).reportDue = false

theorem NoneReportDue.out {s : State} (h : NoneReportDue s) : ReportsOut s := fun _ => h

theorem ReportsOut.none {s : State} (h : ReportsOut s) {p : PortId} (hp : (s.port p).holds = true) : NoneReportDue s :=
  h (Or.inr (eligible_false_iff.2 ⟨p, hp⟩))

theorem Port.reportDue_turn {x : Port} (h : x.turn ≠ .stopped) : x.reportDue = false := by
  simp [Port.reportDue, h]

/-- A port changed to one that is not due. -/
theorem NoneReportDue.setPort {s : State} (h : NoneReportDue s) {p : PortId} {x : Port} (hx : x.reportDue = false) :
    NoneReportDue (s.setPort p x) := by
  intro q
  by_cases hq : p = q
  · subst hq
    rwa [State.setPort_port_same]
  · rw [State.setPort_port_other _ _ _ _ hq]
    exact h q

theorem NoneReportDue.ports {s t : State} (h : NoneReportDue s) (hp : ∀ p, t.port p = s.port p) : NoneReportDue t :=
  fun p => hp p ▸ h p

theorem reportStart_due (p : PortId) (s : State) : ((reportStart p s).port p).reportDue = false := by
  unfold reportStart
  dsimp only
  split
  · rw [State.setPort_port_same]
    rfl
  · rename_i h
    by_contra hf
    simp only [Port.reportDue, Bool.not_eq_false, Bool.and_eq_true, decide_eq_true_eq] at hf
    exact h ⟨hf.1.1, hf.1.2, hf.2⟩

theorem reportStart_other {p q : PortId} (h : p ≠ q) (s : State) : (reportStart p s).port q = s.port q := by
  unfold reportStart
  dsimp only
  split
  · exact State.setPort_port_other _ _ _ _ h
  · rfl

/-- The start of the reports that are due leaves none due, unless an eligible order waits (R79; log 35). -/
theorem startReports_out (s : State) : ReportsOut (startReports s) := by
  unfold startReports
  split
  · rename_i h
    intro ht
    rcases ht with ht | ht
    · exact absurd ht h.1
    · rw [h.2] at ht
      exact nomatch ht
  · refine NoneReportDue.out fun p => ?_
    cases p with
    | a =>
      rw [reportStart_other (by decide)]
      exact reportStart_due .a s
    | b => exact reportStart_due .b _

theorem startReports_led (s : State) : Led s (startReports s) :=
  Led.of_only (ps := [.portA, .portB]) (startReports_only (by decide) (by decide) (Only.refl _ _)) (by decide)

theorem setPort_led (s : State) (p : PortId) (x : Port) : Led s (s.setPort p x) :=
  Led.of_only (ps := [.portA, .portB]) (setPort_only p x (by cases p <;> decide) (Only.refl _ _)) (by decide)

theorem setSender_led (s : State) (x : Sender) : Led s (s.setSender x) :=
  Led.of_only (ps := [.sender]) (setSender_only _ (by decide) (Only.refl _ _)) (by decide)

theorem ReportsOut.setSender {s : State} (h : ReportsOut s) (x : Sender) : ReportsOut (s.setSender x) :=
  h.of_only (ps := [.sender]) (setSender_only _ (by decide) (Only.refl _ _)) (by decide)

/-! ### A port that leaves CARRYING (R82, R86, R98) -/

theorem applyLine_frame (p : PortId) (s : State) : Only [.tables] s (applyLine p s) :=
  applyLine_only p (by decide) (Only.refl _ _)

theorem applyLine_led (p : PortId) (s : State) : Led s (applyLine p s) := by
  have k := applyLine_frame p s
  have ht : (applyLine p s).tables.drumPending = s.tables.drumPending := by
    unfold applyLine
    split
    · split
      · cases p <;> rfl
      · rfl
    · rfl
  refine ⟨fun hs => ⟨by rw [k.drum (by decide)]; exact hs, ht⟩, ?_, ?_⟩ <;> rw [k.lamp (by decide)] <;> exact id

theorem leaveCarrying_led (p : PortId) (a : Activity) (s : State) : Led s (leaveCarrying p a s) :=
  (setPort_led s p _).trans (applyLine_led p _)

theorem ReportsOut.leaveCarrying {s : State} (h : ReportsOut s) (p : PortId) : ReportsOut (leaveCarrying p .idle s) :=
  (h.setPort (eased_of_rest (Or.inr rfl) rfl)).of_only (applyLine_frame p _) (by decide)

theorem endLineup_led (s : State) : Led s (endLineup s) := by
  unfold endLineup
  dsimp only
  refine Led.trans ?_ (setSender_led _ _)
  split
  · split
    · exact leaveCarrying_led _ _ s
    · exact Led.refl s
  · exact Led.refl s

theorem ReportsOut.endLineup {s : State} (h : ReportsOut s) : ReportsOut (endLineup s) := by
  unfold Machine.endLineup
  dsimp only
  refine ReportsOut.setSender ?_ _
  split
  · split
    · exact h.leaveCarrying _
    · exact h
  · exact h

/-! ### The sender's timers and the loop sense (R82, R95, R96, R98) -/

theorem stopToneExpiry_led (s : State) : Led s (stopToneExpiry s) := by
  unfold stopToneExpiry
  split
  · split
    · exact Led.refl s
    · rename_i p _
      split
      · exact (leaveCarrying_led p .idle s).trans (setSender_led _ _)
      · exact (leaveCarrying_led p .reporting s).trans
          ((setPort_led _ p _).trans ((setSender_led _ _).trans (startReports_led _)))
  · exact Led.refl s

theorem ReportsOut.stopToneExpiry {s : State} (h : ReportsOut s) : ReportsOut (stopToneExpiry s) := by
  unfold Machine.stopToneExpiry
  split
  · split
    · exact h
    · split
      · exact (h.leaveCarrying _).setSender _
      · exact startReports_out _
  · exact h

theorem lineupBlackExpiry_led (s : State) : Led s (lineupBlackExpiry s) := by
  unfold lineupBlackExpiry
  split
  exacts [endLineup_led s, Led.refl s]

theorem ReportsOut.lineupBlackExpiry {s : State} (h : ReportsOut s) : ReportsOut (lineupBlackExpiry s) := by
  unfold Machine.lineupBlackExpiry
  split
  exacts [h.endLineup, h]

theorem senderLoopFault_led (s : State) : Led s (senderLoopFault s) := by
  unfold senderLoopFault
  split
  · exact (attemptEnd_carried _ s).led
  · split
    · exact setSender_led s _
    · split
      exacts [endLineup_led s, Led.refl s]

theorem ReportsOut.senderLoopFault {s : State} (h : ReportsOut s) : ReportsOut (senderLoopFault s) := by
  unfold Machine.senderLoopFault
  split
  · exact h.carried (attemptEnd_carried _ s)
  · split
    · exact h.setSender _
    · split
      exacts [h.endLineup, h]

theorem loopLossExpiry_led (p : PortId) (s : State) : Led s (loopLossExpiry p s) := by
  unfold loopLossExpiry
  split
  · exact (setPort_led s p _).trans ((leaveCarrying_led p .idle _).trans (senderLoopFault_led _))
  · exact Led.refl s

theorem ReportsOut.loopLossExpiry {s : State} (h : ReportsOut s) (p : PortId) : ReportsOut (loopLossExpiry p s) := by
  unfold Machine.loopLossExpiry
  split
  · have k : ReportsOut (s.setPort p { s.port p with cause := .loop }) := h.setPort ⟨id, id⟩
    exact (k.leaveCarrying p).senderLoopFault
  · exact h

/-! ### The end of a report (R79 to R81) -/

theorem endReport_led (p : PortId) (good : Bool) (s : State) : Led s (endReport p good s) := by
  unfold endReport
  split
  · dsimp only
    split
    · exact (setPort_led s p _).trans (setSender_led _ _)
    · exact setPort_led s p _
  · exact Led.refl s

/-- The turnaround timer runs at a report's end (R79). -/
theorem ReportsOut.endReport {s : State} (h : ReportsOut s) (p : PortId) (good : Bool) : ReportsOut (endReport p good s) := by
  unfold Machine.endReport
  split
  · rename_i ha
    have hn : NoneReportDue (s.setPort p (reportEnded good (s.port p))) :=
      (h.none (p := p) (by simp [Port.holds, ha])).setPort (Port.reportDue_turn fun hf => nomatch hf)
    dsimp only
    split
    · exact hn.out.setSender _
    · exact hn.out
  · exact h

theorem echoFailure_led (p : PortId) (e : List Echo) (s : State) : Led s (echoFailure p e s) := by
  unfold echoFailure
  split
  exacts [endReport_led p _ s, Led.refl s]

theorem ReportsOut.echoFailure {s : State} (h : ReportsOut s) (p : PortId) (e : List Echo) : ReportsOut (echoFailure p e s) := by
  unfold Machine.echoFailure
  split
  exacts [h.endReport p _, h]

/-! ### RESTART (R85, R112, R178) -/

theorem restartLineup_led (s : State) : Led s (restartLineup s) := by
  unfold restartLineup
  dsimp only
  refine Led.trans ?_ (setSender_led _ _)
  split
  exacts [endLineup_led s, Led.refl s]

theorem setOrders_led (s : State) (l : List Order) : Led s (s.setOrders l) :=
  Led.of_only (ps := [.orders]) (setOrders_only _ (by decide) (Only.refl _ _)) (by decide)

theorem restartAll_led (own : Option PortId) (s : State) : Led s (restartAll own s) := by
  have latch : ∀ u : State, Led u (u.setDrum { u.drum with spinLatch := false }) := fun u => ⟨fun h => ⟨h, rfl⟩, id, id⟩
  exact (setOrders_led s []).trans ((attemptEnd_carried .restarted _).led.trans ((restartLineup_led _).trans
    ((setPort_led _ .a _).trans ((setPort_led _ .b _).trans (latch _)))))

/-- A port at a RESTART that keeps no reservation is not due. -/
theorem portRestarted_due (x : Port) : (portRestarted false x).reportDue = false := by
  unfold portRestarted
  split
  · rename_i h
    simp [Port.reportDue, h]
  · rename_i h
    simp [Port.reportDue, h]
  · rfl
  · rfl

theorem restartAll_out (s : State) : NoneReportDue (restartAll none s) := by
  intro p
  unfold restartAll
  dsimp only
  cases p
  · exact portRestarted_due _
  · exact portRestarted_due _

/-! ### A block taken (R100 to R107) -/

theorem answerAtOnce_led (p : PortId) (r : Report) (s : State) : Led s (answerAtOnce p r s) :=
  Led.of_only (ps := [.portA, .portB]) (answerAtOnce_only p r (by cases p <;> decide) (Only.refl _ _)) (by decide)

theorem joinQueue_led (o : Order) (s : State) : Led s (joinQueue o s) :=
  Led.of_only (ps := [.portA, .portB, .orders]) (joinQueue_only o (by decide) (by decide) (by decide) (Only.refl _ _))
    (by decide)

theorem takeAtFull_led (o : Order) (s : State) : Led s (takeAtFull o s) := by
  unfold takeAtFull
  split
  · split <;> exact answerAtOnce_led _ _ s
  · split
    · dsimp only
      split
      · exact restartAll_led none s
      · exact (restartAll_led none s).trans (answerAtOnce_led _ _ _)
    · split
      · exact Led.refl s
      · exact answerAtOnce_led _ _ s
  · split
    · exact Led.refl s
    · exact answerAtOnce_led _ _ s

theorem admission_led (o : Order) (s : State) : Led s (admission o s) := by
  unfold admission
  split
  exacts [joinQueue_led o s, takeAtFull_led o s]

theorem takeGood_led (p : PortId) (b : Block) (s : State) : Led s (takeGood p b s) := by
  have broadcast : Led s (takeBroadcast p b s) := by
    unfold takeBroadcast
    split
    · exact Led.refl s
    · split
      exacts [admission_led _ s, Led.refl s]
  have addressed : Led s (takeAddressed p b s) := by
    unfold takeAddressed
    split
    · exact answerAtOnce_led _ _ s
    · split
      exacts [admission_led _ s, answerAtOnce_led _ _ s, answerAtOnce_led _ _ s]
  unfold takeGood
  split
  · exact Led.refl s
  · split
    · exact broadcast
    · split
      exacts [addressed, Led.refl s]

theorem blockTake_led (p : PortId) (bytes : List Byte) (s : State) : Led s (blockTake p bytes s) := by
  unfold blockTake
  dsimp only
  split
  · split
    · exact setPort_led s p _
    · exact setPort_led s p _
    · exact setPort_led s p _
    · exact (setPort_led s p _).trans (takeGood_led p _ _)
  · exact Led.refl s

/-- An answer at once is not due after it: it has started, or its port is held (R78, R79). -/
theorem NoneReportDue.answerAtOnce {s : State} (h : NoneReportDue s) (p : PortId) (r : Report) :
    NoneReportDue (answerAtOnce p r s) := by
  intro q
  unfold Machine.answerAtOnce
  by_cases hq : p = q
  · subst hq
    exact reportStart_due p _
  · rw [reportStart_other hq]
    unfold addItem
    dsimp only
    split
    · rw [State.setPort_port_other _ _ _ _ hq]
      exact h q
    · exact h q

/-- A reservation is put on the list of a port whose turnaround timer runs (R79, R107). -/
theorem NoneReportDue.joinQueue {s : State} (h : NoneReportDue s) {o : Order} (ht : (s.port o.port).turn ≠ .stopped) :
    NoneReportDue (joinQueue o s) := by
  unfold Machine.joinQueue
  dsimp only
  split
  · exact h.ports fun p => by cases p <;> rfl
  · unfold addItem
    dsimp only
    split
    · refine NoneReportDue.setPort (h.ports fun p => by cases p <;> rfl) (Port.reportDue_turn ?_)
      show ((s.setOrders _).port o.port).turn ≠ .stopped
      rw [State.setOrders_port]
      exact ht
    · exact h.ports fun p => by cases p <;> rfl

theorem NoneReportDue.takeAtFull {s : State} (h : NoneReportDue s) (o : Order) : NoneReportDue (takeAtFull o s) := by
  unfold Machine.takeAtFull
  split
  · split <;> exact h.answerAtOnce _ _
  · split
    · dsimp only
      split
      · exact restartAll_out s
      · exact (restartAll_out s).answerAtOnce _ _
    · split
      · exact h
      · exact h.answerAtOnce _ _
  · split
    · exact h
    · exact h.answerAtOnce _ _

theorem NoneReportDue.takeGood {s : State} (h : NoneReportDue s) {p : PortId} (ht : (s.port p).turn ≠ .stopped) (b : Block) :
    NoneReportDue (takeGood p b s) := by
  have queued : ∀ k, NoneReportDue (admission (orderOf p k b) s) := fun k => by
    unfold admission
    split
    · exact h.joinQueue (o := orderOf p k b) ht
    · exact h.takeAtFull _
  have broadcast : NoneReportDue (takeBroadcast p b s) := by
    unfold takeBroadcast
    split
    · exact h
    · split
      exacts [queued _, h]
  have addressed : NoneReportDue (takeAddressed p b s) := by
    unfold takeAddressed
    split
    · exact h.answerAtOnce _ _
    · split
      exacts [queued _, h.answerAtOnce _ _, h.answerAtOnce _ _]
  unfold Machine.takeGood
  split
  · exact h
  · split
    · exact broadcast
    · split
      exacts [addressed, h]

/-- No report starts while a block is received, and the turnaround timer runs at its end (R79, R100, R108). -/
theorem ReportsOut.blockTake {s : State} (h : ReportsOut s) (p : PortId) (bytes : List Byte) :
    ReportsOut (blockTake p bytes s) := by
  unfold Machine.blockTake
  dsimp only
  split
  · rename_i hr
    have hn : NoneReportDue s := h.none (p := p) (by simp [Port.holds, hr.2])
    have ended : NoneReportDue (s.setPort p (receptionEnded (s.port p))) :=
      hn.setPort (Port.reportDue_turn fun hf => nomatch hf)
    split
    · refine (NoneReportDue.setPort hn ?_).out
      exact hn p
    · exact ended.out
    · refine (NoneReportDue.setPort hn (Port.reportDue_turn ?_)).out
      exact fun hf => nomatch hf
    · refine (ended.takeGood ?_ _).out
      rw [State.setPort_port_same]
      exact fun hf => nomatch hf
  · exact h

/-! ### The execution of an order (R108, R109) -/

theorem placeLoad_led (c : LoadContent) (s : State) : Led s (placeLoad c s) := by
  have still : ∀ tb : Tables, tb.drumPending = s.tables.drumPending → Led s (s.setTables tb) := fun tb ht =>
    ⟨fun h => ⟨h, ht⟩, id, id⟩
  unfold placeLoad
  split
  · split <;> exact still _ rfl
  · split <;> exact still _ rfl
  · split
    · rename_i hu
      exact ⟨fun h => absurd h (by simpa [drumInUse] using hu), id, id⟩
    · exact ⟨fun h => ⟨h, rfl⟩, id, id⟩
  · split <;> exact still _ rfl
  · rename_i p lp
    split
    · exact still _ rfl
    · cases p <;> exact still _ rfl
  iterate 4 exact still _ rfl

theorem ownLoad_led (o : Order) (s : State) : Led s (ownLoad o s).1 := by
  have load : ∀ k i c, Led s (loadTable k i c s).1 := fun k i c => by
    unfold loadTable
    split
    · exact Led.refl s
    · split
      · exact Led.refl s
      · exact (placeLoad_led _ s).trans ⟨fun h => ⟨h, rfl⟩, id, id⟩
  unfold ownLoad
  split
  · exact Led.refl s
  · split
    · rename_i k _ _ t clamped he
      have := load k (byteAt o.payload 1) (o.payload.drop 2)
      rw [he] at this
      exact this
    · exact Led.refl s
    · exact Led.refl s

theorem ownGrant_led (o : Order) (s : State) : Led s (ownGrant o s).1 :=
  Led.of_only (ps := [.pics]) (ownGrant_only o (by decide) (Only.refl _ _)) (by decide)

theorem ownCancel_led (o : Order) (s : State) : Led s (ownCancel o s).1 := by
  unfold ownCancel
  split
  · exact Led.refl s
  · split
    · exact (attemptEnd_carried _ s).led
    · exact (finishRecord_carried _ _ _ s).led
    · exact (finishRecord_carried _ _ _ s).led
    iterate 3 exact Led.refl s

theorem ownReceipt_led (o : Order) (s : State) : Led s (ownReceipt o s).1 := by
  have merged : ∀ slot f, Led s (modRec slot f s) := fun slot f =>
    Led.of_only (ps := [.pics]) (modRec_only _ _ (by decide) (Only.refl _ _)) (by decide)
  have late : ∀ slot (u : State), Led u (requestSlip slot .late u).1 := fun slot u =>
    Led.of_only (ps := [.conv, .pics, .slips]) (requestSlip_only _ _ (by decide) (by decide) (by decide) (Only.refl _ _))
      (by decide)
  have resolved : ∀ slot (u : State), Led u (resolve slot u) := fun slot u => by
    unfold resolve
    dsimp only
    split
    · exact (grantAgain_carried _ u).led
    · split <;> exact (finishRecord_carried _ _ _ u).led
  unfold ownReceipt
  split
  · exact Led.refl s
  · dsimp only
    split
    · exact Led.refl s
    · exact merged _ _
    · dsimp only
      split
      · exact merged _ _
      · exact (merged _ _).trans (resolved _ _)
    · dsimp only
      split
      · exact (merged _ _).trans (late _ _)
      · exact merged _ _
    · exact Led.refl s
    · exact Led.refl s

theorem ownLineup_led (o : Order) (s : State) : Led s (ownLineup o s).1 :=
  Led.of_only (ps := [.sender]) (ownLineup_only o (by decide) (Only.refl _ _)) (by decide)

theorem ownLineClear_led (o : Order) (s : State) : Led s (ownLineClear o s).1 := by
  have clear : ∀ (named : Bool) (p : PortId) (u : State), Led u (clearPort named p u) := fun named p u => by
    unfold clearPort
    split
    exacts [setPort_led u p _, Led.refl u]
  unfold ownLineClear
  split
  · exact Led.refl s
  · exact (clear _ .a s).trans (clear _ .b _)

theorem ownMechClear_led (o : Order) (s : State) : Led s (ownMechClear o s).1 := by
  unfold ownMechClear
  split
  · rename_i h
    exact (mechClear_carried h).led
  · exact Led.refl s

theorem ownRestart_led (o : Order) (s : State) : Led s (ownRestart o s).1 := restartAll_led _ s

/-- The execution of the order at the head of the queue (R108, R109). -/
theorem executeHead_led {k : OrderKind} {owner : Order → State → State × Verdict}
    (ho : ∀ o u, Led u (owner o u).1) (s : State) : Led s (executeHead k owner s) := by
  have place : ∀ o r (u : State), Led u (placeAnswer o r u) := fun o r u =>
    Led.of_only (ps := [.portA, .portB]) (placeAnswer_only _ _ (by decide) (by decide) (Only.refl _ _)) (by decide)
  unfold executeHead executeOrder
  split
  · split
    · split
      · exact (setOrders_led s _).trans ((ho _ _).trans ((place _ _ _).trans (startReports_led _)))
      · exact (setOrders_led s _).trans ((place _ _ _).trans (startReports_led _))
    · exact Led.refl s
  · exact Led.refl s

theorem ReportsOut.executeHead {s : State} (h : ReportsOut s) (k : OrderKind) (owner : Order → State → State × Verdict) :
    ReportsOut (executeHead k owner s) := by
  unfold Machine.executeHead executeOrder
  split
  · split
    · split <;> exact startReports_out _
    · exact h
  · exact h

end Sys2Proof.Machine

/-! ## Nothing left due (O7): the commands that are no event, and the step -/

namespace Sys2Proof.Machine

/-! ### What the evaluations read of the picture table -/

/-- Of the on-drum record the evaluations read its state, its attempts and its grant. -/
def onDrumView (s : State) : Option (RecState × List Attempt × Option Grant) :=
  (onDrumRec s).map fun r => (r.state, r.attempts, r.grant)

theorem onDrumView_congr {s t : State} (h : t.pics = s.pics) : onDrumView t = onDrumView s := by
  rw [onDrumView, onDrumRec_congr h, onDrumView]

theorem onDrumState_view {s t : State} (h : onDrumView t = onDrumView s) : onDrumState t = onDrumState s := by
  have e : ∀ u : State, onDrumState u = ((onDrumView u).map (·.1)).getD .empty := fun u => by
    rw [onDrumState, onDrumView, Option.map_map]
    rfl
  rw [e, e, h]

theorem chosenPort_view {s t : State} (h : onDrumView t = onDrumView s) (hf : ∀ p, (t.port p).inFault = (s.port p).inFault) :
    chosenPort t = chosenPort s := by
  unfold onDrumView at h
  cases hs : onDrumRec s with
  | none =>
    rw [hs, Option.map_none, Option.map_eq_none_iff] at h
    simp only [chosenPort, hs, h]
  | some r =>
    rw [hs] at h
    obtain ⟨q, hq, he⟩ := Option.map_eq_some_iff.1 h
    obtain ⟨-, ha, hg⟩ : q.state = r.state ∧ q.attempts = r.attempts ∧ q.grant = r.grant := by simpa using he
    simp only [chosenPort, onDrumGrant, hs, hq, Option.bind_some, hg, hf]
    cases r.grant with
    | none => rfl
    | some g => simp only [ha]

/-- A change of a record in its print count or its slip status. -/
theorem onDrumView_modRec {i : Nat} {f : PicRecord → PicRecord} {s : State}
    (hf : ∀ r, (f r).state = r.state ∧ (f r).attempts = r.attempts ∧ (f r).grant = r.grant) :
    onDrumView (modRec i f s) = onDrumView s := by
  have hr : ∀ j, ((modRec i f s).rec? j).map (fun r => (r.state, r.attempts, r.grant)) =
      (s.rec? j).map fun r => (r.state, r.attempts, r.grant) := fun j => by
    show ((s.pics.records.modify i f)[j]?).map _ = (s.pics.records[j]?).map _
    rw [List.getElem?_modify]
    split
    · simp [Function.comp_def, hf]
    · simp
  show (s.pics.onDrum.bind (modRec i f s).rec?).map _ = (s.pics.onDrum.bind s.rec?).map _
  cases s.pics.onDrum with
  | none => rfl
  | some j => exact hr j

theorem updateSlipStatus_view (slot : Nat) (s : State) : onDrumView (updateSlipStatus slot s) = onDrumView s :=
  onDrumView_modRec fun _ => ⟨rfl, rfl, rfl⟩

theorem slipEval_view (s : State) : onDrumView (slipEval s) = onDrumView s := onDrumView_congr (slipEval_keeps s).2.2

theorem requestSlip_view (slot : Nat) (kind : SlipKind) (s : State) :
    onDrumView (requestSlip slot kind s).1 = onDrumView s := by
  unfold requestSlip
  split
  · exact updateSlipStatus_view slot s
  · split
    · exact (slipEval_view _).trans (updateSlipStatus_view slot _)
    · split
      · rfl
      · exact updateSlipStatus_view slot _

theorem fillOwed_view (n : Nat) (s : State) : onDrumView (fillOwed n s) = onDrumView s := by
  have one : ∀ u : State, onDrumView (fillOne u) = onDrumView u := fun u => by
    unfold fillOne
    split
    · rfl
    · split
      · rfl
      · exact updateSlipStatus_view _ _
  induction n generalizing s with
  | zero => rfl
  | succ n ih => exact (ih _).trans (one s)

theorem completeSlip_view (s : State) : onDrumView (completeSlip s) = onDrumView s := by
  unfold completeSlip
  split
  · rfl
  · refine (slipEval_view _).trans ((fillOwed_view 8 _).trans ((updateSlipStatus_view _ _).trans ?_))
    exact onDrumView_modRec fun _ => ⟨rfl, rfl, rfl⟩

theorem feedIntervalExpiry_view (s : State) : onDrumView (feedIntervalExpiry s) = onDrumView s := by
  have line : ∀ u : State, onDrumView (beginDotLine u) = onDrumView u := fun u =>
    onDrumView_congr ((beginDotLine_only (ps := [.conv, .slips]) (by decide) (by decide) (Only.refl _ u)).pics (by decide))
  unfold feedIntervalExpiry
  split
  · rfl
  · unfold nextDotLine
    split
    · exact line _
    · exact completeSlip_view s
  iterate 3 rfl

/-! ### Steps that show the evaluations nothing new -/

/-- `t` shows the evaluations what `s` does. -/
structure Steady (s t : State) : Prop where
  drum : t.drum.state = s.drum.state
  latch : t.drum.spinLatch = s.drum.spinLatch
  view : onDrumView t = onDrumView s
  cover : t.pins.coverClosed = s.pins.coverClosed
  profile : t.tables.drumPending = s.tables.drumPending
  scan : t.scan.state = .finished ↔ s.scan.state = .finished
  signal : t.scan.signalDue = s.scan.signalDue
  lamp : t.lamp.state = s.lamp.state
  head : t.head.state = s.head.state
  free : t.sender.state = .free ↔ s.sender.state = .free
  request : t.sender.lineupReq = s.sender.lineupReq
  cause : ∀ p, (t.port p).cause = (s.port p).cause
  idle : ∀ p, (t.port p).isIdle = (s.port p).isIdle

theorem Settled.steady {s t : State} (h : Settled s) (k : Steady s t) (hr : ReportsOut t) : Settled t := by
  have ho : onDrumState t = onDrumState s := onDrumState_view k.view
  have hc : chosenPort t = chosenPort s := chosenPort_view k.view fun p => by rw [Port.inFault, Port.inFault, k.cause]
  refine Settled.of (h.driven.of k.drum (demand_congr k.latch ho) k.cover k.profile) (h.lit.of ?_ k.lamp) ?_ ?_ ?_ hr
  · simp only [lampDemand, ho, ne_eq, k.scan, k.signal, k.drum, k.head]
  · rw [k.head, ho]
    exact h.head
  · rw [← h.attempt]
    simp only [attemptReady, ho, k.drum, k.head, k.lamp, k.free, hc, k.idle]
  · rw [← h.lineup]
    simp only [lineupReady, k.free, k.request, k.idle]

/-- The frame of an operation that reaches of what the evaluations read the ports at most, and those in nothing that is read. -/
theorem Steady.of_only {ps : List Part} {s t : State} (k : Only ps s t) (hv : onDrumView t = onDrumView s)
    (hp : ∀ q ∈ [Part.drum, .scan, .lamp, .head, .sender, .tables], q ∉ ps)
    (hc : t.pins.coverClosed = s.pins.coverClosed)
    (port : ∀ p, (t.port p).cause = (s.port p).cause ∧ (t.port p).isIdle = (s.port p).isIdle) : Steady s t where
  drum := by rw [k.drum (hp _ (by decide))]
  latch := by rw [k.drum (hp _ (by decide))]
  view := hv
  cover := hc
  profile := by rw [k.tables (hp _ (by decide))]
  scan := by rw [k.scan (hp _ (by decide))]
  signal := by rw [k.scan (hp _ (by decide))]
  lamp := by rw [k.lamp (hp _ (by decide))]
  head := by rw [k.head (hp _ (by decide))]
  free := by rw [k.sender (hp _ (by decide))]
  request := by rw [k.sender (hp _ (by decide))]
  cause p := (port p).1
  idle p := (port p).2

/-- The frame of an operation that reaches none of the parts the evaluations read but the picture table and the pins. -/
theorem Settled.of_view {ps : List Part} {s t : State} (h : Settled s) (k : Only ps s t) (hv : onDrumView t = onDrumView s)
    (hp : ∀ q ∈ [Part.drum, .scan, .lamp, .head, .portA, .portB, .sender, .orders, .tables], q ∉ ps)
    (hc : t.pins.coverClosed = s.pins.coverClosed) : Settled t := by
  have port : ∀ p, t.port p = s.port p := fun p =>
    k.port (p := p) (by cases p; exacts [hp _ (by decide), hp _ (by decide)])
  exact h.steady (Steady.of_only k hv (fun q hq => hp q (by simp only [List.mem_cons] at hq ⊢; tauto)) hc
      fun p => by rw [port]; exact ⟨rfl, rfl⟩)
    (ReportsOut.of_only h.reports k fun q hq => hp q (by simp only [List.mem_cons] at hq ⊢; tauto))

/-- An operation that reaches none of the parts the evaluations read. -/
theorem Settled.of_only {ps : List Part} {s t : State} (h : Settled s) (k : Only ps s t)
    (hp : ∀ q ∈ [Part.drum, .scan, .lamp, .head, .portA, .portB, .sender, .orders, .tables, .pins, .pics], q ∉ ps) :
    Settled t :=
  h.of_view k (onDrumView_congr (k.pics (hp _ (by decide))))
    (fun q hq => hp q (by simp only [List.mem_cons] at hq ⊢; tauto)) (by rw [k.pins (hp _ (by decide))])

/-- A shown command that shows the evaluations nothing new. -/
theorem shown_settled {f : State → State} {s : State} (h : Settled s) (hf : ∀ u, Settled u → Settled (f u)) :
    Settled (shown f s) := by
  obtain ⟨x, y, e⟩ := shown_eq f s
  exact e ▸ (hf _ (h.setPanel x)).setPanel y

/-- What reaches the ports alone, and those in nothing the evaluations read. -/
theorem Steady.of_ports {s t : State} (k : Only [.portA, .portB, .orders] s t)
    (port : ∀ p, (t.port p).cause = (s.port p).cause ∧ (t.port p).isIdle = (s.port p).isIdle) : Steady s t :=
  Steady.of_only k (onDrumView_congr (k.pics (by decide))) (by decide) (by rw [k.pins (by decide)]) port

theorem Steady.setPort {s : State} {p : PortId} {x : Port} (hc : x.cause = (s.port p).cause)
    (hi : x.isIdle = (s.port p).isIdle) : Steady s (s.setPort p x) := by
  refine Steady.of_ports (setPort_only p x (by cases p <;> decide) (Only.refl _ _)) fun q => ?_
  by_cases hq : p = q
  · subst hq
    rw [State.setPort_port_same]
    exact ⟨hc, hi⟩
  · rw [State.setPort_port_other _ _ _ _ hq]
    exact ⟨rfl, rfl⟩

theorem Steady.refl (s : State) : Steady s s :=
  ⟨rfl, rfl, rfl, rfl, rfl, Iff.rfl, rfl, rfl, rfl, Iff.rfl, rfl, fun _ => rfl, fun _ => rfl⟩

theorem Steady.trans {s t u : State} (h : Steady s t) (k : Steady t u) : Steady s u where
  drum := k.drum.trans h.drum
  latch := k.latch.trans h.latch
  view := k.view.trans h.view
  cover := k.cover.trans h.cover
  profile := k.profile.trans h.profile
  scan := k.scan.trans h.scan
  signal := k.signal.trans h.signal
  lamp := k.lamp.trans h.lamp
  head := k.head.trans h.head
  free := k.free.trans h.free
  request := k.request.trans h.request
  cause p := (k.cause p).trans (h.cause p)
  idle p := (k.idle p).trans (h.idle p)

/-! ### The line's commands (R79, R82, R83, R100) -/

/-- A change of a port that the evaluations and the report rules do not read. -/
theorem Settled.setPort {s : State} (h : Settled s) {p : PortId} {x : Port} (hx : SameLine (s.port p) x) :
    Settled (s.setPort p x) :=
  h.steady (Steady.setPort hx.cause (by rw [Port.isIdle, Port.isIdle, hx.cause, hx.activity]))
    (ReportsOut.setPort h.reports hx.eased)

theorem startReports_steady (s : State) : Steady s (startReports s) := by
  refine Steady.of_ports (startReports_only (by decide) (by decide) (Only.refl _ _)) fun p => ?_
  obtain ⟨h1, h2, -⟩ := startReports_port p s
  exact ⟨h1, h2⟩

theorem startReports_settled {s t : State} (h : Settled s) (k : Steady s t) : Settled (startReports t) :=
  h.steady (k.trans (startReports_steady t)) (startReports_out t)

theorem placeAnswer_steady (o : Order) (r : Report) (s : State) : Steady s (placeAnswer o r s) := by
  refine Steady.of_ports (placeAnswer_only o r (by decide) (by decide) (Only.refl _ _)) fun p => ?_
  obtain ⟨h1, h2, -⟩ := placeAnswer_port o r s p
  exact ⟨h1, h2⟩

theorem loopCurrentLost_settled (p : PortId) {s : State} (h : Settled s) : Settled (loopCurrentLost p s) := by
  unfold loopCurrentLost
  dsimp only
  split
  · exact h.setPort ⟨rfl, rfl, rfl, rfl, rfl⟩
  · exact h

theorem breakTonePresent_settled (p : PortId) {s : State} (h : Settled s) : Settled (breakTonePresent p s) := by
  unfold breakTonePresent
  split
  · exact h.setPort ⟨rfl, rfl, rfl, rfl, rfl⟩
  · exact h

theorem turnaroundExpiry_settled (p : PortId) {s : State} (h : Settled s) : Settled (turnaroundExpiry p s) := by
  unfold turnaroundExpiry
  split
  · exact startReports_settled h (Steady.setPort rfl rfl)
  · exact h
  · exact h

/-- No report is due while a port is in a reception, nor at its end (R79, R100). -/
theorem receptionEnd_settled {p : PortId} {s : State} {x : Port} (h : Settled s) (hr : (s.port p).rx.state ≠ .hunting)
    (hc : x.cause = (s.port p).cause) (hi : x.isIdle = (s.port p).isIdle) (ht : x.turn ≠ .stopped) :
    Settled (s.setPort p x) := by
  have hn : NoneReportDue s := ReportsOut.none h.reports (p := p) (by simp [Port.holds, Port.inReception, hr])
  exact h.steady (Steady.setPort hc hi) (hn.setPort (Port.reportDue_turn ht)).out

theorem receptionStart_settled (p : PortId) (marks : Nat) {s : State} (h : Settled s) :
    Settled (receptionStart p marks s) := by
  unfold receptionStart
  dsimp only
  split
  · split
    · refine h.steady (Steady.setPort rfl rfl) (ReportsOut.setPort h.reports ⟨id, id⟩)
    · exact startReports_settled h (Steady.setPort rfl rfl)
  · exact h

theorem syncFailed_settled (p : PortId) {s : State} (h : Settled s) : Settled (syncFailed p s) := by
  unfold syncFailed
  split
  · rename_i hr
    exact receptionEnd_settled h (by rw [hr]; decide) rfl rfl fun hf => nomatch hf
  · exact h

theorem blockError_settled (p : PortId) {s : State} (h : Settled s) : Settled (blockError p s) := by
  unfold blockError
  split
  · exact h
  · rename_i hr
    exact receptionEnd_settled h (by rw [hr]; decide) rfl rfl fun hf => nomatch hf
  · rename_i hr
    exact receptionEnd_settled h (by rw [hr]; decide) rfl rfl fun hf => nomatch hf

/-! ### The sender's stages (R87, R97, R98) -/

theorem Steady.setSender {s : State} {x : Sender} (hf : x.state = .free ↔ s.sender.state = .free)
    (hr : x.lineupReq = s.sender.lineupReq) : Steady s (s.setSender x) :=
  { Steady.refl s with
    free := hf
    request := hr
    cause := fun p => by rw [State.setSender_port]
    idle := fun p => by rw [State.setSender_port] }

theorem startToneExpiry_settled {s : State} (h : Settled s) : Settled (startToneExpiry s) := by
  unfold startToneExpiry
  split
  · rename_i hs
    have k : Steady s (s.setSender { s.sender with state := .prefill, stageTimer := none }) :=
      Steady.setSender ⟨fun hf => (nomatch hf), fun hf => by rw [hs.1] at hf; exact nomatch hf⟩ rfl
    have ho : ReportsOut (s.setSender { s.sender with state := .prefill, stageTimer := none }) :=
      ReportsOut.setSender h.reports _
    dsimp only
    split
    · rename_i hi
      have ka : Steady (s.setSender { s.sender with state := .prefill, stageTimer := none })
          ((s.setSender { s.sender with state := .prefill, stageTimer := none }).setScan { s.scan with state := .armed }) :=
        { Steady.refl _ with
          scan := ⟨fun hf => (nomatch hf), fun hf => by rw [hi] at hf; exact nomatch hf⟩
          signal := rfl
          cause := fun p => by rw [State.setScan_port]
          idle := fun p => by rw [State.setScan_port] }
      exact h.steady (k.trans ka) (ho.of_only (ps := [.scan]) (setScan_only _ (by decide) (Only.refl _ _)) (by decide))
    · exact h.steady k ho
  · exact h

theorem lineupWhiteExpiry_settled {s : State} (h : Settled s) : Settled (lineupWhiteExpiry s) := by
  unfold lineupWhiteExpiry
  split
  · rename_i hs
    refine h.steady (Steady.setSender ⟨fun hf => (nomatch hf), fun hf => ?_⟩ rfl) (ReportsOut.setSender h.reports _)
    rw [hs.1] at hf
    exact nomatch hf
  · exact h

/-- A line-up that could start has started, and an attempt likewise. -/
theorem lineupStart_settled {s : State} (h : Settled s) : Settled (lineupStart s) := by
  rw [lineupStart, if_neg (by rw [h.lineup]; decide)]
  exact h

theorem attemptStart_none {s : State} (h : Settled s) : attemptStart s = s := if_neg (by rw [h.attempt]; decide)

/-! ### Orders that are no event (R110, R117, R158) -/

/-- The execution of an order whose owner shows the evaluations nothing new. -/
theorem executeHead_settled {k : OrderKind} {owner : Order → State → State × Verdict} {s : State} (h : Settled s)
    (ho : ∀ o u, Steady u (owner o u).1) : Settled (executeHead k owner s) := by
  refine h.steady ?_ (ReportsOut.executeHead h.reports k owner)
  have queue : ∀ l, Steady s (s.setOrders l) := fun l =>
    Steady.of_ports (setOrders_only _ (by decide) (Only.refl _ _)) fun p => by rw [State.setOrders_port]; exact ⟨rfl, rfl⟩
  unfold executeHead executeOrder
  split
  · split
    · split
      · exact (queue _).trans ((ho _ _).trans ((placeAnswer_steady _ _ _).trans (startReports_steady _)))
      · exact (queue _).trans ((placeAnswer_steady _ _ _).trans (startReports_steady _))
    · exact Steady.refl s
  · exact Steady.refl s

theorem ownSlip_steady (o : Order) (s : State) : Steady s (ownSlip o s).1 := by
  have request : ∀ slot, Steady s (requestSlip slot .reprint s).1 := fun slot => by
    have k : Only [.conv, .pics, .slips] s (requestSlip slot .reprint s).1 :=
      requestSlip_only _ _ (by decide) (by decide) (by decide) (Only.refl _ _)
    exact Steady.of_only k (requestSlip_view _ _ _) (by decide) (by rw [k.pins (by decide)]) fun p => by
      rw [k.port (p := p) (by cases p <;> decide)]
      exact ⟨rfl, rfl⟩
  unfold ownSlip
  split
  · exact Steady.refl s
  · rename_i slot _
    split
    · split
      · exact Steady.refl s
      all_goals
        rename_i he
        have := request slot
        rw [he] at this
        exact this
    · exact Steady.refl s

theorem ownClock_steady (o : Order) (s : State) : Steady s (ownClock o s).1 := by
  have k : Only [.clock] s (ownClock o s).1 := ownClock_only o (by decide) (Only.refl _ _)
  exact Steady.of_only k (onDrumView_congr (k.pics (by decide))) (by decide) (by rw [k.pins (by decide)]) fun p => by
    rw [k.port (p := p) (by cases p <;> decide)]
    exact ⟨rfl, rfl⟩

/-! ### The drive's own timers, the slip unit, the panel and the clock -/

/-- A change of the drive in what the evaluations do not read. -/
theorem Settled.setDrum {s : State} (h : Settled s) {x : Drum} (hs : x.state = s.drum.state)
    (hl : x.spinLatch = s.drum.spinLatch) : Settled (s.setDrum x) :=
  h.steady
    { Steady.refl s with
      drum := hs
      latch := hl
      cause := fun p => by rw [State.setDrum_port]
      idle := fun p => by rw [State.setDrum_port] }
    (ReportsOut.of_only (ps := [.drum]) h.reports (setDrum_only _ (by decide) (Only.refl _ _)) (by decide))

theorem rampTick_settled {s : State} (h : Settled s) : Settled (rampTick s) := by
  unfold rampTick
  split
  · exact h
  · split
    · exact h.setDrum rfl rfl
    · exact h.setDrum rfl rfl

theorem feedIntervalExpiry_settled {s : State} (h : Settled s) : Settled (feedIntervalExpiry s) := by
  have k : Only [.conv, .pics, .slips] s (feedIntervalExpiry s) :=
    feedIntervalExpiry_only (by decide) (by decide) (by decide) (Only.refl _ _)
  exact h.of_view k (feedIntervalExpiry_view s) (by decide) (by rw [k.pins (by decide)])

theorem paperSensorChange_settled (present : Bool) {s : State} (h : Settled s) : Settled (paperSensorChange present s) := by
  have k : Only [.slips, .pins] s (paperSensorChange present s) :=
    paperSensorChange_only present (by decide) (by decide) (Only.refl _ _)
  have hc : (paperSensorChange present s).pins.coverClosed = s.pins.coverClosed := by
    unfold paperSensorChange
    dsimp only
    split
    · split <;> rfl
    · split <;> rfl
  exact h.of_view k (onDrumView_congr (k.pics (by decide))) (by decide) hc

theorem panelTransmit_settled {s : State} (h : Settled s) : Settled (panelTransmit s) := by
  obtain ⟨x, e⟩ := panelTransmit_eq s
  exact e ▸ h.setPanel x

/-- The state after power-on is that of O8 but for the cover, the paper, the home sensor, the straps and the loop currents. -/
theorem powerOn_settled (cover paper : Bool) (straps : BitVec 7) (s : State) : Settled (powerOn cover paper straps s) := by
  unfold powerOn
  refine panelTransmit_settled ?_
  exact {
    spins := fun h => by rcases h with h | h | h <;> exact nomatch h
    brakes := fun h => nomatch h
    stopped := fun _ _ _ => rfl
    lampOn := fun h => nomatch h
    lampOff := fun _ => Or.inl rfl
    head := fun h => nomatch h
    attempt := rfl
    lineup := rfl
    reports := fun _ p => by cases p <;> rfl }

/-- A tick's count ends no timer of itself (R79). -/
theorem Port.tick_eased (x : Port) : Eased x x.tick := by
  have ht : x.turn.down = .stopped ↔ x.turn = .stopped := by cases x.turn <;> simp [Turnaround.down]
  have hd : x.tick.reportDue = x.reportDue := by
    rw [Port.reportDue, Port.reportDue, ← decide_eq_decide.2 ht]
    rfl
  exact ⟨fun h => hd ▸ h, id⟩

theorem countTick_settled {s : State} (h : Settled s) : Settled (countTick s) := by
  refine h.steady ⟨rfl, rfl, rfl, rfl, rfl, Iff.rfl, rfl, rfl, rfl, Iff.rfl, rfl, fun p => ?_, fun p => ?_⟩
    (ReportsOut.eased h.reports rfl fun p => ?_)
  · cases p <;> rfl
  · cases p <;> rfl
  · cases p
    · exact Port.tick_eased s.portA
    · exact Port.tick_eased s.portB

theorem pending_settled {s : State} (q : List Instr) (h : Settled s) : Settled { s with pending := q } :=
  h.steady ⟨rfl, rfl, rfl, rfl, rfl, Iff.rfl, rfl, rfl, rfl, Iff.rfl, rfl, fun p => by cases p <;> rfl,
    fun p => by cases p <;> rfl⟩ (ReportsOut.ports h.reports rfl fun p => by cases p <;> rfl)

/-! ### Every command, and the step -/

theorem keyPressed_settled {key : State → State} (hk : ∀ u, Carried u (key u)) {s : State} (h : Settled s) :
    Settled (event (fun s => key (panelHunting s)) s) :=
  event_settled_carried h fun u _ => (panelHunting_carried u).trans (hk _)

theorem orderEvent_settled {k : OrderKind} {owner : Order → State → State × Verdict} (ho : ∀ o u, Led u (owner o u).1)
    {s : State} (h : Settled s) : Settled (event (executeHead k owner) s) :=
  event_settled h fun u hu => ⟨executeHead_led ho u, ReportsOut.executeHead hu.reports k owner⟩

/-- Every command leaves nothing due. -/
theorem effect_settled (c : Instr) (s : State) (h : Settled s) : Settled (effect c s) := by
  cases c with
  | powerOn cover paper straps => exact powerOn_settled cover paper straps s
  | encoderCount dir => exact event_settled_carried h fun u _ => encoderCount_carried dir u
  | indexPulse => exact event_settled_carried h fun u _ => indexPulse_carried u
  | rampTick => exact rampTick_settled h
  | spinupTimerExpiry => exact event_settled_carried h fun u _ => spinupTimerExpiry_carried u
  | stallDeadline => exact event_settled_carried h fun u _ => stallDeadline_carried u
  | brakingTimerExpiry => exact event_settled_carried h fun u _ => brakingTimerExpiry_carried u
  | windowSilenceTimerExpiry => exact event_settled_carried h fun u _ => silenceTimerExpiry_carried u
  | cycleEnd => exact h.setDrum rfl rfl
  | coverChange closed => exact event_settled_carried h fun u _ => coverChange_carried closed u
  | conversionComplete reading => exact event_settled_carried h fun u _ => conversionComplete_carried _ u
  | lampWarmTimerExpiry => exact event_settled_carried h fun u _ => lampWarm_carried u
  | stepTimerExpiry => exact event_settled_carried h fun u _ => stepTimerExpiry_carried u
  | homeSensorAssert level => exact event_settled_carried h fun u _ => homeSensor_carried level u
  | cadenceEvent => exact event_settled_carried h fun u _ => cadenceEvent_carried u
  | attemptStart => exact event_settled_carried h fun u hu => (attemptStart_none hu).symm ▸ Carried.refl u
  | startToneTimerExpiry => exact startToneExpiry_settled h
  | stopToneTimerExpiry => exact event_settled h fun u hu => ⟨stopToneExpiry_led u, ReportsOut.stopToneExpiry hu.reports⟩
  | lineupStart => exact lineupStart_settled h
  | lineupWhiteTimerExpiry => exact lineupWhiteExpiry_settled h
  | lineupBlackTimerExpiry =>
    exact event_settled h fun u hu => ⟨lineupBlackExpiry_led u, ReportsOut.lineupBlackExpiry hu.reports⟩
  | loopCurrentLost p => exact loopCurrentLost_settled p h
  | loopCurrentReturn p => exact h.setPort ⟨rfl, rfl, rfl, rfl, rfl⟩
  | loopLossTimerExpiry p =>
    exact event_settled h fun u hu => ⟨loopLossExpiry_led p u, ReportsOut.loopLossExpiry hu.reports p⟩
  | breakTonePresent p => exact breakTonePresent_settled p h
  | breakToneAbsent p => exact h.setPort ⟨rfl, rfl, rfl, rfl, rfl⟩
  | breakTimerExpiry p => exact event_settled_carried h fun u _ => breakExpiry_carried p u
  | receptionStart p marks => exact receptionStart_settled p marks h
  | syncFailed p => exact syncFailed_settled p h
  | blockError p err => exact blockError_settled p h
  | gapTimerExpiry p => exact blockError_settled p h
  | blockTake p bytes => exact event_settled h fun u hu => ⟨blockTake_led p bytes u, ReportsOut.blockTake hu.reports p bytes⟩
  | turnaroundTimerExpiry p => exact turnaroundExpiry_settled p h
  | echoFailure heard => exact event_settled h fun u hu => ⟨echoFailure_led _ _ u, ReportsOut.echoFailure hu.reports _ _⟩
  | reportEnd heard => exact event_settled h fun u hu => ⟨endReport_led _ _ u, ReportsOut.endReport hu.reports _ _⟩
  | poll => exact executeHead_settled h fun _ u => Steady.refl u
  | grant => exact orderEvent_settled ownGrant_led h
  | cancel => exact orderEvent_settled ownCancel_led h
  | receipt => exact orderEvent_settled ownReceipt_led h
  | load => exact orderEvent_settled ownLoad_led h
  | clock => exact shown_settled h fun _ hu => executeHead_settled hu ownClock_steady
  | lineup => exact orderEvent_settled ownLineup_led h
  | lineClear => exact orderEvent_settled ownLineClear_led h
  | mechClear => exact orderEvent_settled ownMechClear_led h
  | restart => exact orderEvent_settled ownRestart_led h
  | slip => exact executeHead_settled h ownSlip_steady
  | receiptTimerExpiry => exact event_settled_carried h fun u _ => receiptExpiry_carried u
  | strobeEnd => exact h.of_only (ps := [.slips]) (strobeEnd_only (by decide) (Only.refl _ _)) (by decide)
  | feedIntervalExpiry => exact shown_settled h fun _ => feedIntervalExpiry_settled
  | coolTimerExpiry =>
    exact h.of_only (ps := [.conv, .slips]) (coolTimerExpiry_only (by decide) (by decide) (Only.refl _ _)) (by decide)
  | paperSensorChange present => exact shown_settled h fun _ => paperSensorChange_settled present
  | paperTimerExpiry =>
    exact shown_settled h fun _ hu =>
      hu.of_only (ps := [.conv, .slips]) (paperTimerExpiry_only (by decide) (by decide) (Only.refl _ _)) (by decide)
  | panelLoad lines slug => exact event_settled_carried h fun u _ => panelLoad_carried _ _ u
  | spin => exact keyPressed_settled spinKey_carried h
  | stop => exact keyPressed_settled stopKey_carried h
  | abort => exact keyPressed_settled abortKey_carried h
  | reprint => exact keyPressed_settled reprintKey_carried h
  | resetMech => exact keyPressed_settled resetMechKey_carried h
  | panelRecordMalformed bytes => exact panelFeed_settled bytes h
  | panelGapTimerExpiry =>
    refine Settled.of_only (ps := [.panel]) h ?_ (by decide)
    show Only _ s (panelGap s)
    unfold panelGap
    split
    · exact panelHunting_only (by decide) (Only.refl _ _)
    · exact Only.refl _ _
  | panelRecordSent =>
    show Settled (panelRecordSent s)
    exact panelTransmit_settled (h.setPanel _)
  | clockSecond => exact h.of_only (ps := [.clock]) (setClock_only _ (by decide) (Only.refl _ _)) (by decide)

/-- Settles O7: each command and the counting of a tick leave nothing due. -/
theorem nothingLeftDue : Obligations.NothingLeftDue := fun _ _ h hs =>
  step_keeps (fun _ q => pending_settled q) effect_settled (fun _ => panelTransmit_settled) (fun _ => countTick_settled) h hs

end Sys2Proof.Machine

/-! ## The stages of the speed regulator (O15) -/

namespace Sys2Proof.Machine

/-! ### The clamp -/

theorem clampInt_eq_max_min {lo hi : Int} (h : lo ≤ hi) (x : Int) : clampInt x lo hi = max lo (min hi x) := by
  unfold clampInt
  omega

theorem clampInt_of_mem {x lo hi : Int} (hl : lo ≤ x) (hh : x ≤ hi) : clampInt x lo hi = x := by
  rw [clampInt_eq_max_min (hl.trans hh), min_eq_right hh, max_eq_right hl]

theorem natAbs_clampInt_symm (x : Int) (n : Nat) : (clampInt x (-n) n).natAbs = min n x.natAbs := by
  rw [clampInt_eq_max_min (by omega)]
  omega

theorem clampInt_symm_nonneg {x : Int} (n : Nat) (h : 0 ≤ x) : 0 ≤ clampInt x (-n) n := by
  rw [clampInt_eq_max_min (by omega)]
  omega

theorem clampInt_symm_nonpos {x : Int} (n : Nat) (h : x ≤ 0) : clampInt x (-n) n ≤ 0 := by
  rw [clampInt_eq_max_min (by omega)]
  omega

/-! ### The trim and the error (R25, R26) -/

theorem cadenceRunning_iff (s : State) : cadenceRunning s = true ↔
    s.sender.state = .phasing ∨ s.sender.state = .picture ∨ s.sender.state = .drain :=
  decide_eq_true_iff

theorem trim_stopped (fill : Nat) (p : DrumProfile) : trim false fill p = 0 := rfl

theorem trim_running (fill : Nat) (p : DrumProfile) :
    trim true fill p = clampInt ((((fill : Int) - 128) * p.g).tdiv 16) (-p.tl) p.tl := rfl

/-- Rounding toward zero makes the trim's size the quotient of the sizes (R25). -/
theorem natAbs_trim_running (fill : Nat) (p : DrumProfile) :
    (trim true fill p).natAbs = min p.tl ((((fill : Int) - 128) * p.g).natAbs / 16) := by
  rw [trim_running, natAbs_clampInt_symm, Int.natAbs_tdiv]
  rfl

/-- A full store lengthens the target (R25). -/
theorem trim_running_nonneg {fill : Nat} (p : DrumProfile) (h : 128 ≤ fill) : 0 ≤ trim true fill p := by
  have hprod : 0 ≤ ((fill : Int) - 128) * p.g := mul_nonneg (by omega) (by omega)
  exact clampInt_symm_nonneg _ (Int.tdiv_nonneg hprod (by decide))

/-- An empty store shortens the target (R25). -/
theorem trim_running_nonpos {fill : Nat} (p : DrumProfile) (h : fill ≤ 128) : trim true fill p ≤ 0 := by
  have hprod : ((fill : Int) - 128) * p.g ≤ 0 := mul_nonpos_of_nonpos_of_nonneg (by omega) (by omega)
  have hneg : 0 ≤ -(((fill : Int) - 128) * p.g).tdiv 16 :=
    Int.neg_tdiv .. ▸ Int.tdiv_nonneg (neg_nonneg.2 hprod) (by decide)
  exact clampInt_symm_nonpos _ (neg_nonneg.1 hneg)

/-- The period is the target W + T and the raw error (R26). -/
theorem eRawOf_add_target (s : State) (period : Nat) : eRawOf period s + ((standardInForce s).w : Int) +
    trim (cadenceRunning s) s.store.entries.length s.tables.drum = period := by
  unfold eRawOf rawError
  omega

theorem clampedError_eq (eRaw : Int) : clampedError eRaw = max (-8191) (min 8191 eRaw) :=
  clampInt_eq_max_min (by decide) eRaw

/-! ### The integrator and the correction (R27, R28) -/

/-- A duty held at duty_max holds the integrator against a slow drum (R27). -/
theorem integrate_high (i e : Int) :
    integrate .high i e = if 0 ≤ e then i else max (-524287) (min 524287 (i + e)) := by
  show (if e < 0 then clampInt (i + e) (-524287) 524287 else i) = _
  rw [clampInt_eq_max_min (by decide), ← ite_not]
  simp only [not_lt]

/-- A duty held at duty_min holds the integrator against a fast drum (R27). -/
theorem integrate_low (i e : Int) :
    integrate .low i e = if e ≤ 0 then i else max (-524287) (min 524287 (i + e)) := by
  show (if 0 < e then clampInt (i + e) (-524287) 524287 else i) = _
  rw [clampInt_eq_max_min (by decide), ← ite_not]
  simp only [not_lt]

theorem integrate_neither (i e : Int) :
    integrate .neither i e = if e = 0 then i else max (-524287) (min 524287 (i + e)) := by
  rw [← clampInt_eq_max_min (by decide)]
  rfl

/-- The correction is the quotient rounded toward negative infinity (R28). -/
theorem correction_floor (p : DrumProfile) (e i : Int) :
    4096 * correction p e i ≤ 64 * p.kp * e + p.ki * i ∧ 64 * p.kp * e + p.ki * i < 4096 * correction p e i + 4096 := by
  rw [correction, Int.fdiv_eq_ediv_of_nonneg _ (by decide)]
  omega

/-! ### The duty written and the saturation memory (R29, R30) -/

theorem dutyWritten_mem {p : DrumProfile} (h : p.dutyMin ≤ p.dutyMax) (raw : Int) :
    p.dutyMin ≤ dutyWritten p raw ∧ dutyWritten p raw ≤ p.dutyMax := by
  have := clampInt_range raw p.dutyMin p.dutyMax (by exact_mod_cast h)
  unfold dutyWritten
  omega

theorem dutyWritten_of_mem {p : DrumProfile} {raw : Int} (hl : (p.dutyMin : Int) ≤ raw) (hh : raw ≤ p.dutyMax) :
    (dutyWritten p raw : Int) = raw := by
  rw [dutyWritten, clampInt_of_mem hl hh, Int.toNat_of_nonneg (by omega)]

theorem memoryAfter_high {p : DrumProfile} {raw : Int} (h : (p.dutyMax : Int) ≤ raw) : memoryAfter p raw = .high :=
  if_pos h

theorem memoryAfter_low {p : DrumProfile} {raw : Int} (hmax : raw < p.dutyMax) (hmin : raw ≤ p.dutyMin) :
    memoryAfter p raw = .low := by
  rw [memoryAfter, if_neg (not_le.2 hmax), if_pos hmin]

theorem memoryAfter_neither {p : DrumProfile} {raw : Int} (hmax : raw < p.dutyMax) (hmin : (p.dutyMin : Int) < raw) :
    memoryAfter p raw = .neither := by
  rw [memoryAfter, if_neg (not_le.2 hmax), if_neg (not_le.2 hmin)]

/-- Settles O15: stages 1 to 4, the duty written, the saturation memory. -/
theorem regulatorStages : Obligations.RegulatorStages :=
  ⟨⟨cadenceRunning_iff,
      fun fill p => ⟨trim_stopped fill p, natAbs_trim_running fill p, trim_running_nonneg p, trim_running_nonpos p⟩,
      eRawOf_add_target, clampedError_eq,
      fun i e => ⟨integrate_high i e, integrate_low i e, integrate_neither i e⟩, correction_floor⟩,
    fun _ raw h => ⟨(dutyWritten_mem h raw).1, (dutyWritten_mem h raw).2, dutyWritten_of_mem⟩,
    fun _ _ => ⟨memoryAfter_high, memoryAfter_low, memoryAfter_neither⟩⟩

end Sys2Proof.Machine

/-! ## The head and the lamp on their own -/

namespace Sys2Proof.Machine

/-! ### The evaluations after an event of the head or the lamp -/

/-- An event of the head, the lamp or the sensors that moves no cover, brings no head home to a GRANTED record and no attempt
to its start leaves the evaluations the lamp alone. -/
theorem settle_mechanism {s0 v : State} (k : Only [.head, .lamp, .pins] s0 v)
    (hc : v.pins.coverClosed = s0.pins.coverClosed)
    (hh : v.head.state = .parked → onDrumState s0 = .granted → s0.head.state = .parked)
    (ha : attemptReady (lampEval s0 v) = true → attemptReady s0 = true) : settle s0 v = lampEval s0 v := by
  have hp := k.pics (by decide)
  have ho := onDrumState_congr hp
  have hd := k.drum (by decide)
  have hport : ∀ p, v.port p = s0.port p := fun p => k.port p (by cases p <;> decide)
  refine settle_drive (fun p => by rw [hport]) (fun h => ?_) ?_ (fun h hg => ?_) ha (fun h => ?_)
  · unfold noPortLeft bothFault at h ⊢
    rwa [k.portA (by decide), k.portB (by decide), ho] at h
  · rw [standardEval_eq (Or.inl (standardKey_congr hp (by rw [k.tables (by decide)])).symm)]
    exact drumEval_same (demand_congr (by rw [hd]) ho).symm (by rw [hd]) hc.symm
  · exact ⟨hh h (ho ▸ hg), ho ▸ hg⟩
  · rwa [lineupReady_congr (k.sender (by decide)) fun p => by rw [hport]] at h

/-- The same where the lamp's demand stays as it was. -/
theorem settle_mechanism_lit {s0 v : State} (k : Only [.head, .lamp, .pins] s0 v)
    (hc : v.pins.coverClosed = s0.pins.coverClosed)
    (hh : v.head.state = .parked → onDrumState s0 = .granted → s0.head.state = .parked)
    (hf : v.head.state = .fault ↔ s0.head.state = .fault)
    (ha : attemptReady v = true → attemptReady s0 = true) : settle s0 v = v := by
  have hl : lampEval s0 v = v := lampEval_eq (lampDemand_congr (onDrumState_congr (k.pics (by decide)))
    (k.scan (by decide)) (by rw [k.drum (by decide)]) hf)
  rw [settle_mechanism k hc hh (by rwa [hl]), hl]

/-! ### The steps of the head (R51, R52, R56) -/

theorem stepOut_within {s : State} (h : s.head.pos + 1 ≤ s.tables.scan.travelLimit) :
    stepOut s = s.setHead { s.head with pos := s.head.pos + 1 } := if_neg (by omega)

/-- The head after a positioning step within its travel (R51). -/
def positionedHead (sc : ScanProfile) (x : Head) : Head :=
  if x.pos + 1 = sc.startOffset then { x with state := .ready, pos := x.pos + 1, stepTimer := none }
  else { x with pos := x.pos + 1, stepTimer := some sc.fastStepInterval }

theorem positionStep_within {s : State} (hs : s.head.state = .positioning)
    (hp : s.head.pos + 1 ≤ s.tables.scan.travelLimit) :
    positionStep s = s.setHead (positionedHead s.tables.scan s.head) := by
  unfold positionStep positionedHead
  rw [stepOut_within hp]
  dsimp only
  rw [if_pos (by exact hs)]
  by_cases h : s.head.pos + 1 = s.tables.scan.startOffset
  · rw [if_pos (by exact h), if_pos h]; rfl
  · rw [if_neg (by exact h), if_neg h]; rfl

theorem stepTimerExpiry_positioning {s : State} (ht : s.head.stepTimer.isSome = true)
    (hs : s.head.state = .positioning) (hp : s.head.pos + 1 ≤ s.tables.scan.travelLimit) :
    stepTimerExpiry s = s.setHead (positionedHead s.tables.scan s.head) := by
  have hn : ¬ s.head.stepTimer.isNone = true := by rw [Option.isNone_eq_false_iff.2 ht]; decide
  have hu : (s.setHead { s.head with stepTimer := none }).head.state = .positioning := hs
  unfold stepTimerExpiry
  rw [if_neg hn]
  dsimp only
  rw [hu]
  dsimp only
  rw [positionStep_within hu (by exact hp)]
  rfl

/-- The head after a step owed to a line (R52). -/
def steppedHead (sc : ScanProfile) (x : Head) : Head :=
  { x with
    pos := x.pos + 1, owed := x.owed - 1
    stepTimer := if x.owed = 1 then none else some sc.stepInterval }

theorem stepTimerExpiry_scanning {s : State} (ht : s.head.stepTimer.isSome = true) (hs : s.head.state = .scanning)
    (ho : 1 ≤ s.head.owed) (hp : s.head.pos + 1 ≤ s.tables.scan.travelLimit) :
    stepTimerExpiry s = s.setHead (steppedHead s.tables.scan s.head) := by
  have hno : s.head.owed ≠ 0 := by omega
  have h1 : (s.head.owed - 1 = 0) = (s.head.owed = 1) := propext (by omega)
  have hn : ¬ s.head.stepTimer.isNone = true := by rw [Option.isNone_eq_false_iff.2 ht]; decide
  have hu : (s.setHead { s.head with stepTimer := none }).head.state = .scanning := hs
  unfold stepTimerExpiry
  rw [if_neg hn]
  dsimp only
  rw [hu]
  dsimp only
  rw [if_neg (by exact hno), stepOut_within (by exact hp), if_pos (by exact hs)]
  show s.setHead _ = _
  simp only [State.setHead_head, h1, steppedHead]
  rfl

/-- The head after a rewind step (R56): the step that reaches the limit faults it. -/
def rewindingHead (sc : ScanProfile) (x : Head) : Head :=
  if x.rewindLimit ≤ x.rewindCount + 1 then
    { x with state := .fault, pos := x.pos - 1, owed := 0, stepTimer := none, rewindCount := x.rewindCount + 1 }
  else { x with pos := x.pos - 1, rewindCount := x.rewindCount + 1, stepTimer := some sc.fastStepInterval }

theorem rewindStep_eq (s : State) : rewindStep s = s.setHead (rewindingHead s.tables.scan s.head) := by
  unfold rewindStep rewindingHead
  split
  · next h => rw [if_pos (by exact h)]; rfl
  · next h => rw [if_neg (by exact h)]; rfl

theorem stepTimerExpiry_rewinding {s : State} (ht : s.head.stepTimer.isSome = true) (hs : s.head.state = .rewinding)
    (ha : attemptInProgress s = false) :
    stepTimerExpiry s = s.setHead (rewindingHead s.tables.scan s.head) := by
  have hr : rewindingHead s.tables.scan { s.head with stepTimer := none } = rewindingHead s.tables.scan s.head := rfl
  have hn : ¬ s.head.stepTimer.isNone = true := by rw [Option.isNone_eq_false_iff.2 ht]; decide
  have hu : (s.setHead { s.head with stepTimer := none }).head.state = .rewinding := hs
  unfold stepTimerExpiry
  rw [if_neg hn]
  dsimp only
  rw [hu]
  dsimp only
  rw [rewindStep_eq]
  show (if (rewindingHead s.tables.scan { s.head with stepTimer := none }).state = .fault then _ else _) = _
  rw [hr]
  split
  · next h =>
    have hx : stopHead (s.setHead (rewindingHead s.tables.scan s.head)) = s.setHead (rewindingHead s.tables.scan s.head) := by
      unfold rewindingHead at h ⊢
      split at h
      · next hl => rw [if_pos hl]; rfl
      · rw [hs] at h; exact nomatch h
    show attemptEnd .head (stopHead (s.setHead (rewindingHead s.tables.scan s.head))) = _
    rw [hx]
    exact attemptEnd_of_none (t := s.setHead (rewindingHead s.tables.scan s.head)) ha
  · rfl

/-! ### O28 -/

/-- An event of the head alone that leaves the evaluations nothing. -/
theorem head_event {c : Instr} {f : State → State} {s : State} {h : Head} (hc : exec c s = .next (event f s))
    (hf : ∀ x, f (s.setPanel x) = (s.setPanel x).setHead h) (hp : h.state = .parked → s.head.state = .parked)
    (hfault : h.state = .fault ↔ s.head.state = .fault)
    (ha : attemptReady (s.setHead h) = true → attemptReady s = true) :
    ∃ t, exec c s = .next t ∧ Only [.head, .panel] s t ∧ t.head = h := by
  refine event_to (u := fun x => (s.setPanel x).setHead h) hc (fun x => ?_) fun x y =>
    ⟨setPanel_only _ (by decide) (setHead_only _ (by decide) (setPanel_only _ (by decide) (Only.refl _ _))), rfl⟩
  rw [hf]
  exact settle_mechanism_lit (setHead_only _ (by decide) (Only.refl _ _)) rfl (fun h _ => hp h) hfault ha

/-- The home sensor acts on a rewinding head alone (R56). -/
theorem homeSensor_off {level : Bool} {s : State} (h : level = false ∨ s.head.state ≠ .rewinding) :
    homeSensor level s = s.setPins { s.pins with homeAsserted := level } := by
  refine if_neg fun ⟨hl, hr⟩ => ?_
  rcases h with h | h
  · exact absurd (h.symm.trans hl) (by decide)
  · exact h hr

theorem applyScan_none {s : State} (h : s.tables.scanPending = none) : applyScan s = s := by rw [applyScan, h]

/-- The head come home (R56). -/
def parkedHead (x : Head) : Head := { x with state := .parked, pos := 0, stepTimer := none }

theorem parkHead_eq {s : State} (h : attemptInProgress s = true ∨ s.tables.scanPending = none) :
    parkHead s = s.setHead (parkedHead s.head) := by
  rcases h with h | h
  · exact if_pos h
  · refine (ite_eq_left_iff (p := attemptInProgress (s.setHead (parkedHead s.head)) = true)).2 fun _ => ?_
    exact applyScan_none (s := s.setHead (parkedHead s.head)) h

/-- A lamp that has warmed and starts no attempt (R46). -/
theorem lamp_warms {s : State} (hw : s.lamp.state = .warming) (ht : s.lamp.warmTimer.isSome = true)
    (ha : attemptReady (s.setLamp { state := .warm, warmTimer := none }) = false) :
    ∃ t, exec .lampWarmTimerExpiry s = .next t ∧ Only [.lamp, .panel] s t ∧ t.lamp = { state := .warm, warmTimer := none } := by
  refine event_to (u := fun x => (s.setPanel x).setLamp { state := .warm, warmTimer := none }) (f := lampWarm) rfl
    (fun x => ?_) fun x y =>
      ⟨setPanel_only _ (by decide) (setLamp_only _ (by decide) (setPanel_only _ (by decide) (Only.refl _ _))), rfl⟩
  rw [show lampWarm (s.setPanel x) = (s.setPanel x).setLamp { state := .warm, warmTimer := none } from if_pos ⟨hw, ht⟩]
  exact settle_mechanism_lit (setLamp_only _ (by decide) (Only.refl _ _)) rfl (fun h _ => h) Iff.rfl
    fun h => absurd (h.symm.trans ha) (by decide)

/-- The home sensor under a rewinding head (R56). -/
theorem sensor_parks {s : State} (hh : s.head.state = .rewinding) (ho : onDrumState s ≠ .granted)
    (hs : attemptInProgress s = true ∨ s.tables.scanPending = none) :
    ∃ t, exec (.homeSensorAssert true) s = .next t ∧ Only [.head, .pins, .panel] s t ∧
      t.head = { s.head with state := .parked, pos := 0, stepTimer := none } := by
  refine event_to (u := fun x => ((s.setPanel x).setPins { s.pins with homeAsserted := true }).setHead
    (parkedHead s.head)) (f := homeSensor true) rfl (fun x => ?_) fun x y =>
      ⟨setPanel_only _ (by decide) (setHead_only _ (by decide) (setPins_only _ (by decide)
        (setPanel_only _ (by decide) (Only.refl _ _)))), rfl⟩
  have e : homeSensor true (s.setPanel x) = ((s.setPanel x).setPins { s.pins with homeAsserted := true }).setHead
      (parkedHead s.head) :=
    (if_pos ⟨rfl, hh⟩).trans (parkHead_eq (s := (s.setPanel x).setPins { s.pins with homeAsserted := true }) hs)
  rw [e]
  exact settle_mechanism_lit (setHead_only _ (by decide) (setPins_only _ (by decide) (Only.refl _ _))) rfl
    (fun _ h => absurd h ho) (iff_of_false (by simp [parkedHead]) (by simp [hh]))
    fun h => absurd (attemptReady_granted' h).1 ho

/-- The home sensor with no rewinding head under it (R56). -/
theorem sensor_alone {s : State} {level : Bool} (h : level = false ∨ s.head.state ≠ .rewinding) :
    ∃ t, exec (.homeSensorAssert level) s = .next t ∧ Only [.pins, .panel] s t ∧
      t.pins = { s.pins with homeAsserted := level } := by
  refine event_to (u := fun x => (s.setPanel x).setPins { s.pins with homeAsserted := level }) (f := homeSensor level) rfl
    (fun x => ?_) fun x y =>
      ⟨setPanel_only _ (by decide) (setPins_only _ (by decide) (setPanel_only _ (by decide) (Only.refl _ _))), rfl⟩
  rw [homeSensor_off (s := s.setPanel x) h]
  exact settle_mechanism_lit (setPins_only _ (by decide) (Only.refl _ _)) rfl (fun h _ => h) Iff.rfl fun h => h

/-- A positioning step within the travel (R51); at start_offset it may start an attempt in the same event (R142). -/
theorem positioning_step {s : State} (ht : s.head.stepTimer.isSome = true) (hh : s.head.state = .positioning)
    (hp : s.head.pos + 1 ≤ s.tables.scan.travelLimit) :
    ∃ t, exec .stepTimerExpiry s = .next t ∧
      (s.head.pos + 1 ≠ s.tables.scan.startOffset ∨
        attemptReady (s.setHead { s.head with state := .ready, pos := s.head.pos + 1 }) = false →
        Only [.head, .panel] s t) ∧
      (s.head.pos + 1 = s.tables.scan.startOffset →
        attemptReady (s.setHead { s.head with state := .ready, pos := s.head.pos + 1 }) = false →
        t.head = { s.head with state := .ready, pos := s.head.pos + 1, stepTimer := none }) ∧
      (s.head.pos + 1 ≠ s.tables.scan.startOffset →
        t.head = { s.head with pos := s.head.pos + 1, stepTimer := some s.tables.scan.fastStepInterval }) := by
  by_cases hr : s.head.pos + 1 = s.tables.scan.startOffset ∧
      attemptReady (s.setHead { s.head with state := .ready, pos := s.head.pos + 1 }) = true
  · obtain ⟨ho, hr⟩ := hr
    exact ⟨_, exec_effect _ _, fun h => absurd hr (by rcases h with h | h; exact absurd ho h; simp [h]),
      fun _ h => absurd hr (by simp [h]), fun h => absurd ho h⟩
  · have hstate : (positionedHead s.tables.scan s.head).state = .ready ∨
        (positionedHead s.tables.scan s.head).state = .positioning := by
      unfold positionedHead
      split
      · exact Or.inl rfl
      · exact Or.inr hh
    have hready : attemptReady (s.setHead (positionedHead s.tables.scan s.head)) = true → attemptReady s = true := by
      intro h
      by_cases ho : s.head.pos + 1 = s.tables.scan.startOffset
      · rw [positionedHead, if_pos ho] at h
        exact absurd ⟨ho, h⟩ hr
      · rw [positionedHead, if_neg ho] at h
        exact nomatch hh.symm.trans (attemptReady_granted' h).2.2.1
    obtain ⟨t, e, k, hx⟩ := head_event (c := .stepTimerExpiry) (f := stepTimerExpiry)
      (h := positionedHead s.tables.scan s.head) rfl
      (fun x => stepTimerExpiry_positioning (s := s.setPanel x) ht hh hp)
      (fun h => by rcases hstate with hs | hs <;> exact nomatch hs.symm.trans h)
      (iff_of_false (by rcases hstate with hs | hs <;> simp [hs]) (by simp [hh])) hready
    exact ⟨t, e, fun _ => k, fun ho _ => by rw [hx, positionedHead, if_pos ho],
      fun ho => by rw [hx, positionedHead, if_neg ho]⟩

/-- The rewind step that reaches the limit (R56, R57): the head faults, and the lamp's demand may end with it. -/
theorem rewind_faults {s : State} (ht : s.head.stepTimer.isSome = true) (hh : s.head.state = .rewinding)
    (ha : attemptInProgress s = false) (hl : s.head.rewindLimit ≤ s.head.rewindCount + 1) :
    ∃ t, exec .stepTimerExpiry s = .next t ∧ Only [.head, .lamp, .panel] s t ∧ t.head.state = .fault ∧
      t.head.owed = 0 ∧ t.head.stepTimer = none ∧ t.head.pos = s.head.pos - 1 := by
  refine event_next (f := stepTimerExpiry) rfl fun x y => ?_
  have hf : (rewindingHead s.tables.scan s.head).state = .fault := by rw [rewindingHead, if_pos hl]
  have hready : ∀ l, attemptReady (((s.setPanel x).setHead (rewindingHead s.tables.scan s.head)).setLamp l) ≠ true :=
    fun l h => nomatch hf.symm.trans (attemptReady_granted' h).2.2.1
  obtain ⟨l, e⟩ := lampEval_lamp (s.setPanel x) ((s.setPanel x).setHead (rewindingHead s.tables.scan s.head))
  have hq := settle_mechanism (s0 := s.setPanel x) (v := (s.setPanel x).setHead (rewindingHead s.tables.scan s.head))
    (setHead_only _ (by decide) (Only.refl _ _)) rfl (fun h _ => nomatch hf.symm.trans h)
    fun h => absurd h (e ▸ hready l)
  rw [stepTimerExpiry_rewinding (s := s.setPanel x) ht hh ha, State.setPanel_tables, State.setPanel_head, hq, e]
  refine ⟨setPanel_only _ (by decide) (setLamp_only _ (by decide) (setHead_only _ (by decide)
    (setPanel_only _ (by decide) (Only.refl _ _)))), hf, ?_⟩
  show (rewindingHead s.tables.scan s.head).owed = 0 ∧ _
  rw [rewindingHead, if_pos hl]
  exact ⟨rfl, rfl, rfl⟩

/-- Settles O28: the lamp's warm-up, the home sensor, and the four steps of the head within its travel. -/
theorem headAndLamp : Obligations.HeadAndLamp := by
  refine ⟨fun s hw ht ha => lamp_warms hw ht ha, ⟨fun s hh ho hs => sensor_parks hh ho hs, fun s level h => sensor_alone h⟩,
    fun s ht => ⟨fun hh hp => ?_, fun hh ho hp => ?_, fun hh ha hl => ?_, fun hh ha hl => rewind_faults ht hh ha hl⟩⟩
  · exact positioning_step ht hh hp
  · exact head_event (f := stepTimerExpiry) rfl (fun x => stepTimerExpiry_scanning (s := s.setPanel x) ht hh ho hp)
      (fun h => nomatch hh.symm.trans h) Iff.rfl
      fun h => nomatch hh.symm.trans (attemptReady_granted' h).2.2.1
  · have e : rewindingHead s.tables.scan s.head = { s.head with
        pos := s.head.pos - 1, rewindCount := s.head.rewindCount + 1
        stepTimer := some s.tables.scan.fastStepInterval } := if_neg (by omega)
    exact head_event (f := stepTimerExpiry) rfl
      (fun x => (stepTimerExpiry_rewinding (s := s.setPanel x) ht hh ha).trans (congrArg (s.setPanel x).setHead e))
      (fun h => h) Iff.rfl fun h => nomatch hh.symm.trans (attemptReady_granted' h).2.2.1

end Sys2Proof.Machine

/-! ## The head's way home -/

namespace Sys2Proof.Machine

/-! ### The evaluations of an event that leaves no record GRANTED -/

/-- With no record GRANTED no record fails for want of a port, no head positions and no attempt starts. -/
theorem settle_ungranted_eq {s0 v : State} (h : onDrumState v ≠ .granted) :
    settle s0 v = lineupEval s0 (lampEval s0 (drumEval s0 (standardEval s0 (lapseEval s0 v)))) := by
  have k1 : Only [.sender] v (lapseEval s0 v) := lapseEval_only _ (by decide) (Only.refl _ _)
  have h1 : onDrumState (lapseEval s0 v) ≠ .granted := by
    rw [onDrumState_congr (k1.pics (by decide))]
    exact h
  have hp : portFailEval s0 (lapseEval s0 v) = lapseEval s0 v :=
    portFailEval_eq fun hn => by rw [noPortLeft_of_not_granted h1] at hn; exact nomatch hn
  unfold settle
  dsimp only
  rw [hp]
  have k2 : Only [.enc, .drum, .reg] (lapseEval s0 v) (drumEval s0 (standardEval s0 (lapseEval s0 v))) :=
    drumEval_only _ (by decide) (by decide) (standardEval_only _ (by decide) (by decide) (Only.refl _ _))
  generalize drumEval s0 (standardEval s0 (lapseEval s0 v)) = u at *
  have h2 : onDrumState u ≠ .granted := by
    rw [onDrumState_congr (k2.pics (by decide))]
    exact h1
  obtain ⟨l, hl⟩ := lampEval_lamp s0 u
  rw [headEval_eq fun _ hg => absurd hg h2, hl,
    attemptEval_eq fun hr => absurd (attemptReady_granted' hr).1 (by exact h2)]

/-- With no record GRANTED the evaluations reach the drive, the lamp and a line-up's start alone. -/
theorem settle_ungranted {s0 v : State} (h : onDrumState v ≠ .granted) :
    Only [.enc, .drum, .reg, .lamp, .sender, .portA, .portB] v (settle s0 v) := by
  rw [settle_ungranted_eq h]
  exact lineupEval_only _ (by decide) (by decide) (by decide) (lampEval_only _ (by decide) (drumEval_only _ (by decide)
    (by decide) (standardEval_only _ (by decide) (by decide) (lapseEval_only _ (by decide) (Only.refl _ _)))))

theorem lapseEval_unrequested {s0 v : State} (h : v.sender.lineupReq = none) : lapseEval s0 v = v := by
  rw [lapseEval, h]

theorem lineupReady_unrequested {s : State} (h : s.sender.lineupReq = none) : lineupReady s = false := by
  simp [lineupReady, h]

/-- With no line-up requested either they reach the drive and the lamp alone. -/
theorem settle_unrequested {s0 v : State} (h : onDrumState v ≠ .granted) (hq : v.sender.lineupReq = none) :
    Only [.enc, .drum, .reg, .lamp] v (settle s0 v) := by
  have k : Only [.enc, .drum, .reg, .lamp] v (lampEval s0 (drumEval s0 (standardEval s0 v))) :=
    lampEval_only _ (by decide) (drumEval_only _ (by decide) (by decide)
      (standardEval_only _ (by decide) (by decide) (Only.refl _ _)))
  rw [settle_ungranted_eq h, lapseEval_unrequested hq, lineupEval_eq fun hl => ?_]
  · exact k
  · rw [lineupReady_unrequested (by rw [k.sender (by decide)]; exact hq)] at hl
    exact nomatch hl

/-! ### The entry to REWINDING (R55, R56) -/

/-- The head sent home under a limit: parked under an asserted sensor, else at its first step in, which may fault it. -/
def rewoundHead (home : Bool) (sc : ScanProfile) (limit : Nat) (x : Head) : Head :=
  let r : Head := { x with state := .rewinding, owed := 0, stepTimer := none, rewindCount := 0, rewindLimit := limit }
  if home then parkedHead r
  else if limit = 0 then faultedHead r
  else rewindingHead sc r

theorem enterRewind_away {limit : Nat} {s : State} (h : s.pins.homeAsserted = false) :
    enterRewind limit s = s.setHead (rewoundHead s.pins.homeAsserted s.tables.scan limit s.head) := by
  unfold enterRewind rewoundHead
  dsimp only
  have hn : ¬ s.pins.homeAsserted = true := by rw [h]; decide
  rw [if_neg (by exact hn), if_neg hn]
  by_cases hl : limit = 0
  · rw [if_pos hl, if_pos hl]; rfl
  · rw [if_neg hl, if_neg hl, rewindStep_eq]; rfl

theorem enterRewind_home {limit : Nat} {s : State} (h : s.pins.homeAsserted = true) :
    enterRewind limit s =
      if attemptInProgress s = true then s.setHead (rewoundHead s.pins.homeAsserted s.tables.scan limit s.head)
      else applyScan (s.setHead (rewoundHead s.pins.homeAsserted s.tables.scan limit s.head)) := by
  unfold enterRewind rewoundHead
  dsimp only
  rw [if_pos (by exact h), if_pos h]
  rfl

theorem enterRewind_head (limit : Nat) (s : State) :
    (enterRewind limit s).head = rewoundHead s.pins.homeAsserted s.tables.scan limit s.head := by
  cases h : s.pins.homeAsserted with
  | false => rw [enterRewind_away h, h]; rfl
  | true =>
    rw [enterRewind_home h, h]
    split
    · rfl
    · rw [applyScan_head]; rfl

/-- During an attempt the entry to REWINDING moves the head alone: the scan profile is in use (R124). -/
theorem enterRewind_in_attempt {limit : Nat} {s : State} (ha : attemptInProgress s = true) :
    enterRewind limit s = s.setHead (rewoundHead s.pins.homeAsserted s.tables.scan limit s.head) := by
  cases h : s.pins.homeAsserted with
  | false => rw [enterRewind_away h, h]
  | true => rw [enterRewind_home h, if_pos ha, h]

theorem rewindHead_out {s : State}
    (h : s.head.state = .positioning ∨ s.head.state = .ready ∨ s.head.state = .scanning) :
    rewindHead s = enterRewind (s.head.pos + s.tables.scan.rewindMargin) s := by
  unfold rewindHead
  rcases h with h | h | h <;> rw [h]

theorem rewindHead_in {s : State}
    (h : ¬ (s.head.state = .positioning ∨ s.head.state = .ready ∨ s.head.state = .scanning)) : rewindHead s = s := by
  unfold rewindHead
  split
  · next hs => exact absurd (Or.inl hs) h
  · next hs => exact absurd (Or.inr (Or.inl hs)) h
  · next hs => exact absurd (Or.inr (Or.inr hs)) h
  · rfl
  · rfl
  · rfl

/-! ### A rewind with no attempt in progress -/

/-- The head of `t` and its scan profile are what a rewind event makes of those of `s` with no attempt in progress. -/
structure SentHome (s t : State) : Prop where
  head : t.head =
    if s.head.state = .positioning ∨ s.head.state = .ready ∨ s.head.state = .scanning then
      rewoundHead s.pins.homeAsserted s.tables.scan (s.head.pos + s.tables.scan.rewindMargin) s.head
    else s.head
  scan : s.head.state = .positioning ∨ s.head.state = .ready ∨ s.head.state = .scanning →
    s.pins.homeAsserted = true → ∀ p, s.tables.scanPending = some p → t.tables.scan = p ∧ t.tables.scanPending = none
  kept : s.tables.scanPending = none → t.tables.scan = s.tables.scan ∧ t.tables.scanPending = none

theorem applyScan_some {s : State} {p : ScanProfile} (h : s.tables.scanPending = some p) :
    applyScan s = s.setTables { s.tables with scan := p, scanPending := none } := by rw [applyScan, h]

theorem rewindHead_sentHome {s : State} (ha : attemptInProgress s = false) : SentHome s (rewindHead s) := by
  by_cases ho : s.head.state = .positioning ∨ s.head.state = .ready ∨ s.head.state = .scanning
  · refine ⟨by rw [if_pos ho, rewindHead_out ho, enterRewind_head], fun _ hh p hp => ?_, fun hn => ?_⟩
    · rw [rewindHead_out ho, enterRewind_home hh, if_neg (by rw [ha]; decide),
        applyScan_some (s := s.setHead (rewoundHead s.pins.homeAsserted s.tables.scan _ s.head)) hp]
      exact ⟨rfl, rfl⟩
    · rw [rewindHead_out ho]
      cases hh : s.pins.homeAsserted with
      | false => rw [enterRewind_away hh]; exact ⟨rfl, hn⟩
      | true =>
        rw [enterRewind_home hh, if_neg (by rw [ha]; decide),
          applyScan_none (s := s.setHead (rewoundHead s.pins.homeAsserted s.tables.scan _ s.head)) hn]
        exact ⟨rfl, hn⟩
  · rw [rewindHead_in ho]
    exact ⟨by rw [if_neg ho], fun h => absurd h ho, fun hn => ⟨rfl, hn⟩⟩

/-- What `SentHome` reads of its states. -/
theorem SentHome.congr {s s' t t' : State} (h : SentHome s t) (hh : s'.head = s.head) (hp : s'.pins = s.pins)
    (ht : s'.tables = s.tables) (hh' : t'.head = t.head) (hs : t'.tables.scan = t.tables.scan)
    (hn : t'.tables.scanPending = t.tables.scanPending) : SentHome s' t' :=
  ⟨by rw [hh', hh, hp, ht]; exact h.head, by rw [hs, hn, hh, hp, ht]; exact h.scan,
    by rw [hs, hn, ht]; exact h.kept⟩

theorem rewoundHead_state (home : Bool) (sc : ScanProfile) (limit : Nat) (x : Head) :
    ((rewoundHead home sc limit x).state = .parked ∧ (rewoundHead home sc limit x).pos = 0) ∨
      (rewoundHead home sc limit x).state = .rewinding ∨ (rewoundHead home sc limit x).state = .fault := by
  unfold rewoundHead rewindingHead
  dsimp only
  split
  · exact Or.inl ⟨rfl, rfl⟩
  · split
    · exact Or.inr (Or.inr rfl)
    · split
      · exact Or.inr (Or.inr rfl)
      · exact Or.inr (Or.inl rfl)

/-- A head sent home is out no more; at home its position is 0. -/
theorem SentHome.home {s t : State} (h : SentHome s t) (hp : s.head.state = .parked → s.head.pos = 0) :
    t.head.state ≠ .ready ∧ (t.head.state = .parked → t.head.pos = 0) := by
  rw [h.head]
  split
  · rcases rewoundHead_state s.pins.homeAsserted s.tables.scan (s.head.pos + s.tables.scan.rewindMargin) s.head with
      ⟨h1, h2⟩ | h1 | h1
    · exact ⟨by rw [h1]; decide, fun _ => h2⟩
    · exact ⟨by rw [h1]; decide, fun hc => nomatch h1.symm.trans hc⟩
    · exact ⟨by rw [h1]; decide, fun hc => nomatch h1.symm.trans hc⟩
  · next ho => exact ⟨fun hr => ho (Or.inr (Or.inl hr)), hp⟩

/-- The copies that an attempt's end applies leave an applied scan profile. -/
theorem SentHome.endAttemptUse {s t : State} (h : SentHome s t) : SentHome s (endAttemptUse t) := by
  have hu : (applyStandard (applyTone t)).head = t.head ∧ (applyStandard (applyTone t)).tables.scan = t.tables.scan ∧
      (applyStandard (applyTone t)).tables.scanPending = t.tables.scanPending := by
    unfold applyStandard applyTone
    repeat' split
    all_goals exact ⟨rfl, rfl, rfl⟩
  obtain ⟨h1, h2, h3⟩ := hu
  unfold Machine.endAttemptUse
  dsimp only
  refine ⟨?_, fun ho hh p hp => ?_, fun hn => ?_⟩
  · rw [← h.head, ← h1]
    split
    · exact applyScan_head _
    · rfl
  · obtain ⟨hs, hn⟩ := h.scan ho hh p hp
    rw [applyScan_none (h3.trans hn), ite_self, h2, h3]
    exact ⟨hs, hn⟩
  · obtain ⟨hs, hn⟩ := h.kept hn
    rw [applyScan_none (h3.trans hn), ite_self, h2, h3]
    exact ⟨hs, hn⟩

/-- The four ways home of a head that is out. -/
theorem rewoundHead_home (sc : ScanProfile) (limit : Nat) (x : Head) : rewoundHead true sc limit x =
    { state := .parked, pos := 0, owed := 0, stepTimer := none, rewindCount := 0, rewindLimit := limit } := rfl

theorem rewoundHead_zero (sc : ScanProfile) (x : Head) : rewoundHead false sc 0 x =
    { state := .fault, pos := x.pos, owed := 0, stepTimer := none, rewindCount := 0, rewindLimit := 0 } := rfl

theorem rewoundHead_one (sc : ScanProfile) (x : Head) : rewoundHead false sc 1 x =
    { state := .fault, pos := x.pos - 1, owed := 0, stepTimer := none, rewindCount := 1, rewindLimit := 1 } := rfl

theorem rewoundHead_steps {sc : ScanProfile} {limit : Nat} {x : Head} (h : 2 ≤ limit) : rewoundHead false sc limit x =
    { state := .rewinding, pos := x.pos - 1, owed := 0, rewindCount := 1, rewindLimit := limit
      stepTimer := some sc.fastStepInterval } := by
  unfold rewoundHead rewindingHead
  dsimp only
  rw [if_neg (by decide), if_neg (by omega), if_neg (by omega)]

/-! ### A record that finishes with the head out (R55) -/

/-- A record that leaves GRANTED for FINISHED sends the head home. -/
theorem finishRecord_sentHome {slot : Nat} {o : FinalOutcome} {c : FailCause} {s : State} (ho : s.pics.onDrum = some slot)
    (hs : onDrumState s = .granted) : SentHome s (finishRecord slot o c s) := by
  have hg : decide (((s.rec? slot).map (·.state)).getD .empty = .granted) = true := by
    rw [← onDrumState_of ho, hs]; decide
  obtain ⟨r, hr, -⟩ := rec?_of_onDrumState ho (by rw [hs]; decide)
  unfold finishRecord
  dsimp only
  rw [if_pos hg]
  generalize hm : (modRec slot (fun r => { r with state := .finished, final := some ⟨o, c, clockReading s⟩ }) s).setPics
    { (modRec slot (fun r => { r with state := .finished, final := some ⟨o, c, clockReading s⟩ }) s).pics with
      finishOrder := (modRec slot (fun r =>
        { r with state := .finished, final := some ⟨o, c, clockReading s⟩ }) s).pics.finishOrder ++ [slot]
      receiptTimer := none } = m
  have hmd : onDrumState m = .finished := by
    have hmo : m.pics.onDrum = some slot := by rw [← hm]; exact ho
    have hmr : m.rec? slot = (modRec slot (fun r =>
      { r with state := .finished, final := some ⟨o, c, clockReading s⟩ }) s).rec? slot := by rw [← hm]; rfl
    rw [onDrumState_of hmo, hmr, rec?_modRec, hr]
    rfl
  have km : Only [.pics] s m := by
    rw [← hm]
    exact setPics_only _ (by decide) (modRec_only _ _ (by decide) (Only.refl _ _))
  have kq : Only [.conv, .pics, .slips] (rewindHead m) (requestSlip slot .final (rewindHead m)).1 :=
    requestSlip_only _ _ (by decide) (by decide) (by decide) (Only.refl _ _)
  exact (rewindHead_sentHome (s := m) (by simp [attemptInProgress, hmd])).congr (km.head (by decide)).symm
    (km.pins (by decide)).symm (km.tables (by decide)).symm (kq.head (by decide)) (by rw [kq.tables (by decide)])
    (by rw [kq.tables (by decide)])

/-- A record that is not GRANTED finishes without a move of the head. -/
theorem finishRecord_still {slot : Nat} {o : FinalOutcome} {c : FailCause} {s : State} (ho : s.pics.onDrum = some slot)
    (hs : onDrumState s ≠ .granted) : Only [.conv, .pics, .slips] s (finishRecord slot o c s) := by
  have hg : decide (((s.rec? slot).map (·.state)).getD .empty = .granted) ≠ true := by
    rw [← onDrumState_of ho]; simpa using hs
  unfold finishRecord
  dsimp only
  rw [if_neg hg]
  exact requestSlip_only _ _ (by decide) (by decide) (by decide)
    (setPics_only _ (by decide) (modRec_only _ _ (by decide) (Only.refl _ _)))

/-- The record of an ended attempt moves on without a move of the head. -/
theorem moveRecord_still {slot : Nat} {o : AttemptOutcome} {s : State} (ho : s.pics.onDrum = some slot)
    (hs : onDrumState s ≠ .granted) : Only [.conv, .pics, .slips] s (moveRecord slot o s) := by
  have hfin : ∀ (f : FinalOutcome) (c : FailCause), Only [.conv, .pics, .slips] s (finishRecord slot f c s) :=
    fun f c => finishRecord_still ho hs
  have hwait : Only [.conv, .pics, .slips] s (awaitReceipts slot s) := awaitReceipts_only _ (by decide) (Only.refl _ _)
  cases o with
  | complete => exact hwait
  | broken => exact hwait
  | line =>
    unfold moveRecord grantAgain
    dsimp only
    split
    · split
      · exact hfin _ _
      · exact modRec_only _ _ (by decide) (setPics_only _ (by decide) (Only.refl _ _))
    · exact hfin _ _
  | drum => exact hfin _ _
  | head => exact hfin _ _
  | lamp => exact hfin _ _
  | cancelled => exact hfin _ _
  | aborted => exact hfin _ _
  | restarted => exact hfin _ _

/-- Closing the attempt leaves its record SENDING. -/
theorem closed_record {outcome : AttemptOutcome} {s : State} {slot : Nat} {r : PicRecord} (ho : s.pics.onDrum = some slot)
    (hr : s.rec? slot = some r) : (closed outcome s).pics.onDrum = some slot ∧
      (closed outcome s).pics.finishOrder = s.pics.finishOrder ∧
      ∃ l, l.length = r.attempts.length ∧ (closed outcome s).rec? slot = some { r with attempts := l } := by
  obtain ⟨f, hp⟩ := closed_pics (outcome := outcome) ho
  obtain ⟨k1, k2, k3⟩ := modAttempt_keeps (f := f) ho hr
  exact ⟨by rw [hp]; exact k1, by rw [hp]; exact k2, _, List.length_modify .., by rw [State.rec?, hp]; exact k3⟩

/-- The end of an attempt sends the head home (R55). -/
theorem attemptEnd_sentHome {outcome : AttemptOutcome} {s : State} (hs : onDrumState s = .sending) :
    SentHome s (attemptEnd outcome s) := by
  cases ho : s.pics.onDrum with
  | none => simp [onDrumState, onDrumRec, ho] at hs
  | some slot =>
    obtain ⟨r, hr, hrs⟩ := rec?_of_onDrumState ho (by rw [hs]; decide)
    obtain ⟨hco, -, l, -, hcr⟩ := closed_record (outcome := outcome) ho hr
    have hcs : onDrumState (closed outcome s) ≠ .granted := by
      rw [onDrumState_rec hco hcr]
      show r.state ≠ .granted
      rw [hrs, hs]
      decide
    have kf := ((closed_only outcome s).mono (qs := [.scan, .conv, .store, .pics, .sender, .portA, .portB, .slips])
      (by decide)).trans ((moveRecord_still (o := outcome) hco hcs).mono (by decide))
    have hw : attemptInProgress (moveRecord slot outcome (closed outcome s)) = false :=
      decide_eq_false (moveRecord_onDrumState slot outcome hco)
    rw [attemptEnd_eq ho (by simp [attemptInProgress, hs])]
    exact ((rewindHead_sentHome hw).congr (kf.head (by decide)).symm (kf.pins (by decide)).symm
      (kf.tables (by decide)).symm rfl rfl rfl).endAttemptUse

/-! ### O29 -/

/-- ABORT of a GRANTED record or of an attempt sends the head home, and leaves no record GRANTED. -/
theorem abortKey_sentHome {s : State} (h : onDrumState s = .granted ∨ onDrumState s = .sending) :
    SentHome s (abortKey s) ∧ onDrumState (abortKey s) = .finished := by
  cases ho : s.pics.onDrum with
  | none => rcases h with h | h <;> simp [onDrumState, onDrumRec, ho] at h
  | some slot =>
    unfold abortKey
    rw [ho]
    dsimp only
    rcases h with h | h <;> rw [h] <;> dsimp only
    · refine ⟨finishRecord_sentHome ho h, ?_⟩
      obtain ⟨r, hr, -⟩ := rec?_of_onDrumState ho (by rw [h]; decide)
      rw [finishRecord_onDrumState, if_pos ho, hr]
      rfl
    · exact ⟨attemptEnd_sentHome h,
        attemptEnd_onDrumState (o := .aborted) (c := .none) (fun _ _ => rfl) ho h⟩

/-- Settles O29: an ABORT sends the head home, and the evaluations leave it there. -/
theorem headRewinds : Obligations.HeadRewinds := by
  intro s h
  refine event_next (f := fun s => abortKey (panelHunting s)) rfl fun x y => ?_
  obtain ⟨hsent, hfin⟩ := abortKey_sentHome (s := panelHunting (s.setPanel x))
    (h.elim Or.inl fun h => Or.inr h.1)
  have k := settle_ungranted (s0 := s.setPanel x) (v := abortKey (panelHunting (s.setPanel x))) (by rw [hfin]; decide)
  generalize settle (s.setPanel x) (abortKey (panelHunting (s.setPanel x))) = w at k ⊢
  have hs : SentHome s (w.setPanel y) :=
    hsent.congr rfl rfl rfl (k.head (by decide)) (congrArg Tables.scan (k.tables (by decide)))
      (congrArg Tables.scanPending (k.tables (by decide)))
  refine ⟨fun ho hh => ⟨?_, hs.scan ho hh⟩, fun ho hh hl => ?_, fun ho hh hl => ?_, fun ho hh hl => ?_, fun ho => ?_⟩
  · rw [hs.head, if_pos ho, hh, rewoundHead_home]
  · rw [hs.head, if_pos ho, hh, hl, rewoundHead_zero]
  · rw [hs.head, if_pos ho, hh, hl, rewoundHead_one]
  · rw [hs.head, if_pos ho, hh, rewoundHead_steps hl]
  · rw [hs.head, if_neg ho]

end Sys2Proof.Machine

/-! ## The tones, the line-ups and the loop sense of a port -/

namespace Sys2Proof.Machine

/-! ### The evaluations after an event on the lines -/

/-- An event of the sender, the ports and their line profiles that brings no record, no attempt and no line-up to its start and
lets no request lapse leaves the evaluations nothing. -/
theorem settle_lines {s0 v : State} (k : Only [.sender, .portA, .portB, .tables] s0 v)
    (ht : v.tables.standards = s0.tables.standards) (hl : lapseEval s0 v = v)
    (hn : noPortLeft v = true → noPortLeft s0 = true) (ha : attemptReady v = true → attemptReady s0 = true)
    (hq : lineupReady v = true → lineupReady s0 = true) : settle s0 v = v := by
  have hp := k.pics (by decide)
  have ho := onDrumState_congr hp
  have hd := k.drum (by decide)
  have hh := k.head (by decide)
  have h1 : standardEval s0 v = v := standardEval_eq (Or.inl (standardKey_congr hp ht).symm)
  have h2 : drumEval s0 v = v :=
    drumEval_same (demand_congr (by rw [hd]) ho).symm (by rw [hd]) (by rw [k.pins (by decide)])
  have h3 : headEval s0 v = v := headEval_eq fun h hg => ⟨hh ▸ h, ho ▸ hg⟩
  have h4 : lampEval s0 v = v := lampEval_eq (lampDemand_congr ho (k.scan (by decide)) (by rw [hd]) (by rw [hh]))
  unfold settle
  dsimp only
  rw [hl, portFailEval_eq hn, h1, h2, h3, h4, attemptEval_eq ha, lineupEval_eq hq]

theorem noPortLeft_congr {s t : State} (ho : onDrumState t = onDrumState s)
    (hf : ∀ p, (t.port p).inFault = (s.port p).inFault) : noPortLeft t = noPortLeft s := by
  have ha : t.portA.inFault = s.portA.inFault := hf .a
  have hb : t.portB.inFault = s.portB.inFault := hf .b
  rw [noPortLeft, noPortLeft, bothFault, bothFault, ho, ha, hb]

/-- The same with no record GRANTED and no line-up requested. -/
theorem settle_lines_alone {s0 v : State} (k : Only [.sender, .portA, .portB, .tables] s0 v)
    (ht : v.tables.standards = s0.tables.standards) (ho : onDrumState s0 ≠ .granted) (hq : v.sender.lineupReq = none) :
    settle s0 v = v := by
  have hv : onDrumState v ≠ .granted := by rwa [onDrumState_congr (k.pics (by decide))]
  refine settle_lines k ht (lapseEval_unrequested hq) (fun h => ?_) (fun h => absurd (attemptReady_granted' h).1 hv)
    (fun h => ?_)
  · rw [noPortLeft_of_not_granted hv] at h
    exact nomatch h
  · rw [lineupReady_unrequested hq] at h
    exact nomatch h

/-! ### A port that leaves CARRYING (R82, R83, R125) -/

/-- A port that has left CARRYING. -/
def leftPort (a : Activity) (x : Port) : Port :=
  { x with activity := a, loopTimer := none, breakTimer := none, rx := rxIdle }

theorem leaveCarrying_eq (p : PortId) (a : Activity) (s : State) :
    leaveCarrying p a s = applyLine p (s.setPort p (leftPort a (s.port p))) := rfl

theorem applyLine_none {p : PortId} {s : State} (h : s.tables.linePending = none) : applyLine p s = s := by
  rw [applyLine, h]

theorem applyLine_other {p q : PortId} {lp : LineProfile} {s : State} (h : s.tables.linePending = some (q, lp))
    (hq : q ≠ p) : applyLine p s = s := by
  rw [applyLine, h]
  exact if_neg hq

theorem applyLine_own {p : PortId} {lp : LineProfile} {s : State} (h : s.tables.linePending = some (p, lp)) :
    lineOf (applyLine p s) p = lp ∧ (applyLine p s).tables.linePending = none ∧
      (applyLine p s).tables.standards = s.tables.standards := by
  rw [applyLine, h]
  dsimp only
  rw [if_pos rfl]
  cases p <;> exact ⟨rfl, rfl, rfl⟩

/-- A port that leaves CARRYING brings its own pending LINE copy into force, and leaves the other tables. -/
theorem applyLine_tables (p : PortId) (s : State) : (applyLine p s).tables.standards = s.tables.standards ∧
    (s.tables.linePending = none → (applyLine p s).tables = s.tables) ∧
    (∀ lp, s.tables.linePending = some (p, lp) →
      lineOf (applyLine p s) p = lp ∧ (applyLine p s).tables.linePending = none) := by
  cases h : s.tables.linePending with
  | none => rw [applyLine_none h]; exact ⟨rfl, fun _ => rfl, fun _ h => nomatch h⟩
  | some e =>
    obtain ⟨q, lp⟩ := e
    refine ⟨?_, fun hn => ?_, fun lp' he => ?_⟩
    · by_cases hq : q = p
      · subst hq
        exact (applyLine_own h).2.2
      · rw [applyLine_other h hq]
    · exact nomatch hn
    · obtain ⟨rfl, rfl⟩ : q = p ∧ lp = lp' := by simpa using he
      exact ⟨(applyLine_own h).1, (applyLine_own h).2.1⟩

theorem applyLine_scan (p : PortId) (s : State) : (applyLine p s).tables.scan = s.tables.scan ∧
    (applyLine p s).tables.scanPending = s.tables.scanPending := by
  unfold applyLine takeLineProfile
  repeat' split
  all_goals exact ⟨rfl, rfl⟩

/-- A port's new values and the sender's, with the port's pending LINE copy applied. -/
def released (p : PortId) (x : Port) (z : Sender) (s : State) : State := (applyLine p (s.setPort p x)).setSender z

theorem released_only {ps : List Part} {s t : State} (p : PortId) (x : Port) (z : Sender) (hp : portPart p ∈ ps)
    (ht : Part.tables ∈ ps) (hs : Part.sender ∈ ps) (h : Only ps s t) : Only ps s (released p x z t) :=
  setSender_only _ hs (applyLine_only _ ht (setPort_only _ _ hp h))

theorem released_port (p : PortId) (x : Port) (z : Sender) (s : State) : (released p x z s).port p = x := by
  have k : Only [.sender, .tables] (s.setPort p x) (released p x z s) :=
    setSender_only _ (by decide) (applyLine_only _ (by decide) (Only.refl _ _))
  rw [k.port p (by cases p <;> decide), State.setPort_port_same]

theorem released_tables (p : PortId) (x : Port) (z : Sender) (s : State) :
    (released p x z s).tables.standards = s.tables.standards ∧
    (s.tables.linePending = none → (released p x z s).tables = s.tables) ∧
    (∀ lp, s.tables.linePending = some (p, lp) →
      lineOf (released p x z s) p = lp ∧ (released p x z s).tables.linePending = none) := by
  have h := applyLine_tables p (s.setPort p x)
  simp only [State.setPort_tables] at h
  refine ⟨h.1, h.2.1, fun lp e => ?_⟩
  obtain ⟨h1, h2⟩ := h.2.2 lp e
  exact ⟨by rw [← h1]; cases p <;> rfl, h2⟩

/-- A part that stays as it was drops out of a frame. -/
theorem Only.drop {p : Part} {ps : List Part} {s t : State} (k : Only (p :: ps) s t) (h : p.same s t) : Only ps s t :=
  fun q hq => by
    by_cases hqp : q = p
    · subst hqp
      exact h
    · exact k q (by simp [hqp, hq])

/-- An event that releases a port with no record GRANTED and no line-up requested ends there. -/
theorem released_event {c : Instr} {f : State → State} {s : State} {p : PortId} {x : Port} {z : Sender}
    (hc : exec c s = .next (event f s)) (hf : ∀ u, f (s.setPanel u) = released p x z (s.setPanel u))
    (ho : onDrumState s ≠ .granted) (hq : z.lineupReq = none) :
    ∃ t, exec c s = .next t ∧ Only [.tables, .sender, portPart p, .panel] s t ∧
      (s.tables.linePending = none → t.tables = s.tables) ∧
      (∀ lp, s.tables.linePending = some (p, lp) → lineOf t p = lp ∧ t.tables.linePending = none) ∧
      t.port p = x ∧ t.sender = z := by
  refine event_to (u := fun u => released p x z (s.setPanel u)) hc (fun u => ?_) fun u y => ?_
  · rw [hf]
    exact settle_lines_alone (released_only p x z (portPart_mem p (by decide) (by decide)) (by decide) (by decide)
      (Only.refl _ _)) (released_tables p x z _).1 ho hq
  · obtain ⟨-, h1, h2⟩ := released_tables p x z (s.setPanel u)
    refine ⟨setPanel_only _ (by simp) (released_only p x z (by simp) (by simp) (by simp) (setPanel_only _ (by simp)
      (Only.refl _ _))), h1, fun lp e => ?_, (State.setPanel_port _ _ _).trans (released_port p x z _), rfl⟩
    obtain ⟨h3, h4⟩ := h2 lp e
    exact ⟨by rw [← h3]; cases p <;> rfl, h4⟩

/-! ### The start tone and the stop tone (R87, R95, R96) -/

theorem startTone_ends {s : State} (hs : s.sender.state = .startTone) (ht : s.sender.stageTimer.isSome = true)
    (hk : s.scan.state = .idle) :
    startToneExpiry s = (s.setSender { s.sender with state := .prefill, stageTimer := none }).setScan
      { s.scan with state := .armed } :=
  (if_pos ⟨hs, ht⟩).trans (if_pos hk)

theorem stopTone_muted {s : State} {p : PortId} (hs : s.sender.state = .stopTone)
    (ht : s.sender.stageTimer.isSome = true) (hp : s.sender.port = some p) (hm : s.station.mute = true) :
    stopToneExpiry s = released p (leftPort .idle (s.port p)) (senderFree s.sender) s := by
  have hz : (leaveCarrying p .idle s).sender = s.sender :=
    (leaveCarrying_rest p .idle s).sender (by cases p <;> decide)
  unfold stopToneExpiry
  rw [if_pos ⟨hs, ht⟩, hp]
  dsimp only
  rw [if_pos hm, hz]
  rfl

/-- The port with the DONE of its attempt alone on its list, REPORTING (R96). -/
def donePort (r : Report) (x : Port) : Port :=
  { x with activity := .reporting, loopTimer := none, breakTimer := none, rx := rxIdle, list := x.list ++ [.report r] }

theorem reportStart_off {p : PortId} {s : State} (h : (s.port p).reportDue = false) : reportStart p s = s := by
  refine if_neg fun ⟨ha, hh, ht⟩ => ?_
  simp [Port.reportDue, ha, hh, ht] at h

/-- No report starts while none is due. -/
theorem startReports_off {s : State} (h : ∀ p, (s.port p).reportDue = false) : startReports s = s := by
  unfold startReports
  rw [reportStart_off (h .a), reportStart_off (h .b), ite_self]

theorem stopTone_done {s : State} {p : PortId} (hs : s.sender.state = .stopTone)
    (ht : s.sender.stageTimer.isSome = true) (hp : s.sender.port = some p) (hm : s.station.mute = false)
    (hn : s.tables.linePending = none) (hd : (s.port p.other).reportDue = false) :
    stopToneExpiry s = (s.setPort p (donePort (doneReport s) (s.port p))).setSender
      { s.sender with state := .doneOut, stageTimer := none } := by
  have hl : leaveCarrying p .reporting s = s.setPort p (leftPort .reporting (s.port p)) :=
    (leaveCarrying_eq p .reporting s).trans (applyLine_none (by rw [State.setPort_tables]; exact hn))
  unfold stopToneExpiry
  rw [if_pos ⟨hs, ht⟩, hp]
  dsimp only
  rw [if_neg (by rw [hm]; decide), hl, State.setPort_port_same]
  have e : ((s.setPort p (leftPort .reporting (s.port p))).setPort p
      { leftPort .reporting (s.port p) with
        list := (leftPort .reporting (s.port p)).list ++ [.report (doneReport s)] }) =
      s.setPort p (donePort (doneReport s) (s.port p)) := by cases p <;> rfl
  rw [e, State.setPort_sender]
  refine startReports_off fun q => ?_
  rw [State.setSender_port]
  by_cases hq : q = p
  · subst hq
    rw [State.setPort_port_same]
    rfl
  · rw [State.setPort_port_other _ _ _ _ (Ne.symm hq), show q = p.other by cases p <;> cases q <;> first | rfl | exact absurd rfl hq]
    exact hd

/-- The DONE that a port sends: the attempt's numbers in the order of R118. -/
theorem doneReport_eq {s : State} {p : PortId} {n : Nat} {a : Attempt} {o : AttemptOutcome}
    (hp : s.sender.port = some p) (hc : s.sender.closing = some (n, a)) (ho : s.sender.held = some o) :
    doneReport s = ⟨.done, 0,
      [BitVec.ofNat 8 n, BitVec.ofNat 8 (n / 256), BitVec.ofNat 8 a.number, BitVec.ofNat 8 o.code,
        if p = .a then 0 else 1] ++ le2 s.sender.linesSent ++ le2 s.store.underruns ++ le2 s.store.overruns ++
        le2 a.indexSlips ++ le2 a.headLate ++ le2 a.duration ++ le2 a.lockLost ++ le2 s.store.flushed ++
        [if a.substituted = true then 1 else 0]⟩ := by
  have hport : le1 (portCode (some p)) = [if p = .a then 0 else 1] := by cases p <;> rfl
  have hsub : le1 (flag a.substituted) = [if a.substituted = true then 1 else 0] := by cases a.substituted <;> rfl
  unfold doneReport
  rw [hc]
  dsimp only
  unfold donePayload
  rw [hp, ho, hport, hsub]
  rfl

/-- The DONE goes out with the stop tone's end (R96). -/
theorem done_event {s : State} {p : PortId} (hs : s.sender.state = .stopTone)
    (ht : s.sender.stageTimer.isSome = true) (hp : s.sender.port = some p) (hm : s.station.mute = false)
    (hn : s.tables.linePending = none) (hd : (s.port p.other).reportDue = false) :
    ∃ t, exec .stopToneTimerExpiry s = .next t ∧ Only [.sender, portPart p, .panel] s t ∧
      t.sender = { s.sender with state := .doneOut, stageTimer := none } ∧
      t.port p = donePort (doneReport s) (s.port p) := by
  refine event_to (u := fun x => ((s.setPanel x).setPort p (donePort (doneReport s) (s.port p))).setSender
    { s.sender with state := .doneOut, stageTimer := none }) (f := stopToneExpiry) rfl (fun x => ?_) fun x y => ?_
  · have e := stopTone_done (s := s.setPanel x) hs ht hp hm hn (by rw [State.setPanel_port]; exact hd)
    rw [State.setPanel_port] at e
    rw [e]
    have hf : ∀ q, (((s.setPanel x).setPort p (donePort (doneReport (s.setPanel x)) (s.port p))).port q).inFault =
        ((s.setPanel x).port q).inFault := fun q => by
      by_cases hq : q = p
      · subst hq
        rw [State.setPort_port_same, State.setPanel_port]
        rfl
      · rw [State.setPort_port_other _ _ _ _ (Ne.symm hq)]
    refine settle_lines (setSender_only _ (by decide) (setPort_only _ _ (portPart_mem p (by decide) (by decide))
      (Only.refl _ _))) ?_ (lapseEval_eq hf) (fun h => ?_)
      (fun h => nomatch (attemptReady_granted' h).2.2.2.2) (fun h => ?_)
    · cases p <;> rfl
    · rwa [noPortLeft_congr (s := s.setPanel x) (by cases p <;> rfl) fun q => (congrArg _ (State.setSender_port _ _ q)).trans
        (hf q)] at h
    · rw [lineupReady_of_busy (show SenderState.doneOut ≠ .free by decide)] at h
      exact nomatch h
  · exact ⟨setPanel_only _ (by simp) (setSender_only _ (by simp) (setPort_only _ _ (by simp) (setPanel_only _ (by simp)
      (Only.refl _ _)))), rfl, (State.setPanel_port _ _ _).trans ((State.setSender_port _ _ _).trans
        (State.setPort_port_same _ _ _))⟩

/-! ### Line-ups (R97, R98) -/

theorem lineup_starts {s : State} {p : PortId} (hs : s.sender.state = .free) (hq : s.sender.lineupReq = some p)
    (hc : (s.port p).cause = .none) (hi : (s.port p).activity = .idle) :
    lineupStart s = enterCarrying p (s.setSender { s.sender with
      state := .lineupWhite, port := some p, lineupReq := none
      stageTimer := some ((lineOf s p).lineupTime * 100000) }) := by
  have hr : lineupReady s = true := by simp [lineupReady, hs, hq, Port.isIdle, hc, hi]
  rw [lineupStart, if_pos hr, hq]

theorem lineupWhite_ends {s : State} {p : PortId} (hs : s.sender.state = .lineupWhite)
    (ht : s.sender.stageTimer.isSome = true) (hp : s.sender.port = some p) :
    lineupWhiteExpiry s = s.setSender { s.sender with
      state := .lineupBlack, stageTimer := some ((lineOf s p).lineupTime * 100000) } := by
  rw [lineupWhiteExpiry, if_pos ⟨hs, ht⟩, carryingLine, hp]
  rfl

theorem endLineup_releases {s : State} {p : PortId} (hp : s.sender.port = some p) (ha : (s.port p).activity = .carrying) :
    endLineup s = released p (leftPort .idle (s.port p)) { s.sender with state := .free, port := none, stageTimer := none }
      s := by
  have hz : (leaveCarrying p .idle s).sender = s.sender :=
    (leaveCarrying_rest p .idle s).sender (by cases p <;> decide)
  unfold endLineup
  rw [hp]
  dsimp only
  rw [if_pos ha, hz]
  rfl

/-- The second stage of a line-up ends it with its port IDLE. -/
theorem lineup_ends {s : State} {p : PortId} (hs : s.sender.state = .lineupBlack)
    (ht : s.sender.stageTimer.isSome = true) (hp : s.sender.port = some p) (ha : (s.port p).activity = .carrying)
    (hn : s.tables.linePending = none) (ho : onDrumState s ≠ .granted) (hq : s.sender.lineupReq = none) :
    ∃ t, exec .lineupBlackTimerExpiry s = .next t ∧ Only [.sender, portPart p, .panel] s t ∧
      (t.port p).activity = .idle ∧ t.sender = { s.sender with state := .free, port := none, stageTimer := none } := by
  obtain ⟨t, e, k, htab, -, hport, hsend⟩ := released_event (c := .lineupBlackTimerExpiry) (f := lineupBlackExpiry)
    (x := leftPort .idle (s.port p)) (z := { s.sender with state := .free, port := none, stageTimer := none }) rfl
    (fun u => (if_pos ⟨hs, ht⟩).trans ((endLineup_releases (s := s.setPanel u) hp (by rw [State.setPanel_port]; exact ha)).trans
      (by rw [State.setPanel_port]; rfl))) ho hq
  exact ⟨t, e, k.drop (htab hn), by rw [hport]; rfl, hsend⟩

/-- The stop tone's end in MUTE: no DONE, the port IDLE (R95). -/
theorem muted_event {s : State} {p : PortId} (hs : s.sender.state = .stopTone)
    (ht : s.sender.stageTimer.isSome = true) (hp : s.sender.port = some p) (hl : (s.port p).list = [])
    (hn : s.tables.linePending = none) (hm : s.station.mute = true) (ho : onDrumState s ≠ .granted)
    (hq : s.sender.lineupReq = none) :
    ∃ t, exec .stopToneTimerExpiry s = .next t ∧ Only [.sender, portPart p, .panel] s t ∧ t.sender =
      { s.sender with state := .free, port := none, stageTimer := none, held := none, closing := none } ∧
      (t.port p).activity = .idle ∧ (t.port p).list = [] := by
  obtain ⟨t, e, k, htab, -, hport, hsend⟩ := released_event (c := .stopToneTimerExpiry) (f := stopToneExpiry)
    (x := leftPort .idle (s.port p)) (z := senderFree s.sender) rfl
    (fun u => (stopTone_muted (s := s.setPanel u) hs ht hp hm).trans (by rw [State.setPanel_port]; rfl)) ho hq
  exact ⟨t, e, k.drop (htab hn), hsend, by rw [hport]; exact ⟨rfl, hl⟩⟩

/-- Settles O33: the start tone, the stop tone in MUTE and with its DONE, the stages of a line-up. -/
theorem tonesAndLineups : Obligations.TonesAndLineups := by
  refine ⟨⟨fun s hs ht hk => ?_, fun s p hs ht hp hl hn => ⟨fun hm ho hq => ?_, fun n a o hm hd hc hh => ?_⟩⟩,
    fun s p => ⟨fun hs hq hc hi => ?_, fun hs ht hp => ?_, lineup_ends⟩⟩
  · refine ⟨_, congrArg Host.Outcome.next (startTone_ends hs ht hk), setScan_only _ (by decide) (setSender_only _ (by decide)
      (Only.refl _ _)), rfl, rfl⟩
  · exact muted_event hs ht hp hl hn hm ho hq
  · obtain ⟨t, e, k, hz, hx⟩ := done_event hs ht hp hm hn hd
    refine ⟨t, e, k, hz, by rw [hx]; rfl, ?_⟩
    rw [hx, doneReport_eq hp hc hh]
    simp only [donePort, hl, List.nil_append]
  · refine ⟨_, congrArg Host.Outcome.next (lineup_starts hs hq hc hi), setPort_only _ _ (by simp) (setSender_only _ (by simp)
      (Only.refl _ _)), ?_, ?_⟩
    · rw [enterCarrying, State.setPort_port_same]
    · rw [enterCarrying, State.setPort_sender]; rfl
  · exact ⟨_, congrArg Host.Outcome.next (lineupWhite_ends hs ht hp), setSender_only _ (by decide) (Only.refl _ _), rfl⟩

end Sys2Proof.Machine

/-! ## The LOOP fault and the break of an attempt on its line -/

namespace Sys2Proof.Machine

/-! ### The loop sense (R82) -/

theorem loopCurrentLost_event {s : State} {p : PortId} (h : (s.port p).loopCurrent = true) :
    ∃ t, exec (.loopCurrentLost p) s = .next t ∧ Only [portPart p] s t ∧ t.port p = { s.port p with
      loopCurrent := false
      loopTimer := if (s.port p).activity = .carrying then some ((lineOf s p).lossTime * 1000)
        else (s.port p).loopTimer } :=
  ⟨_, congrArg Host.Outcome.next (if_pos h), setPort_only _ _ (by simp) (Only.refl _ _), State.setPort_port_same _ _ _⟩

/-! ### An attempt that ends with LINE (R94, R147) -/

/-- The record of an attempt that ends is FINISHED, where its outcome leaves it so. -/
theorem attemptEnd_finishes_of {outcome : AttemptOutcome} {o : FinalOutcome} {c : FailCause} {s : State} {slot : Nat}
    (hf : moveRecord slot outcome (closed outcome s) = finishRecord slot o c (closed outcome s))
    (ho : s.pics.onDrum = some slot) (hs : onDrumState s = .sending) :
    FinishedAs slot o c s (attemptEnd outcome s) ∧ onDrumState (attemptEnd outcome s) = .finished := by
  obtain ⟨r, hr, -⟩ := rec?_of_onDrumState ho (by rw [hs]; decide)
  obtain ⟨k1, k2, l, -, hcr⟩ := closed_record (outcome := outcome) ho hr
  have kc := closed_only outcome s
  have k : Only [.head, .tables] (finishRecord slot o c (closed outcome s)) (attemptEnd outcome s) := by
    rw [attemptEnd_eq ho (by simp [attemptInProgress, hs]), ← closed, hf]
    exact endAttemptUse_only (by decide) (rewindHead_only (by decide) (by decide) (Only.refl _ _))
  refine ⟨(finishRecord_finishes hcr).congr (kc.clock (by decide)).symm k2.symm (kc.slips (by decide)).symm
    (k.pics (by decide)) (k.slips (by decide)), ?_⟩
  rw [onDrumState_congr (k.pics (by decide)), finishRecord_onDrumState, if_pos k1, hcr]
  rfl

theorem closed_bothFault (o : AttemptOutcome) (s : State) : bothFault (closed o s) = bothFault s := by
  have ha : (closed o s).portA.inFault = s.portA.inFault := (closed_carried o s).inFault .a
  have hb : (closed o s).portB.inFault = s.portB.inFault := (closed_carried o s).inFault .b
  rw [bothFault, bothFault, ha, hb]

section
variable {s : State} {slot : Nat} {r : PicRecord} {g : Grant} (ho : s.pics.onDrum = some slot)
  (hr : s.rec? slot = some r) (hg : r.grant = some g)
include ho hr

/-- The record as the LINE end finds it. -/
theorem sending_record (hs : r.state = .sending) : onDrumState s = .sending ∧ attemptInProgress s = true := by
  have h : onDrumState s = .sending := (onDrumState_rec ho hr).trans hs
  exact ⟨h, decide_eq_true h⟩

include hg

/-- What becomes of the record at a LINE end (R147). -/
theorem moveRecord_line : moveRecord slot .line (closed .line s) =
    if r.attempts.length < g.allowed then grantAgain slot (closed .line s)
    else finishRecord slot .failed .line (closed .line s) := by
  obtain ⟨-, -, l, hlen, hcr⟩ := closed_record (outcome := .line) ho hr
  unfold moveRecord
  dsimp only
  rw [hcr]
  show (if l.length < (r.grant.map (·.allowed)).getD 0 then _ else _) = _
  rw [hlen, hg]
  rfl

/-- The record goes back to GRANTED while attempts remain and a port is fit. -/
theorem attemptEnd_line_grants (hs : r.state = .sending) (hn : r.attempts.length < g.allowed) (hb : bothFault s = false) :
    onDrumState (attemptEnd .line s) = .granted := by
  obtain ⟨hsend, hp⟩ := sending_record ho hr hs
  obtain ⟨k1, -, l, -, hcr⟩ := closed_record (outcome := .line) ho hr
  have hcb : bothFault (closed .line s) = false := (closed_bothFault .line s).trans hb
  have k : Only [.head, .tables] (grantAgain slot (closed .line s)) (attemptEnd .line s) := by
    rw [attemptEnd_eq ho hp, ← closed, moveRecord_line ho hr hg, if_pos hn]
    exact endAttemptUse_only (by decide) (rewindHead_only (by decide) (by decide) (Only.refl _ _))
  rw [onDrumState_congr (k.pics (by decide)), grantAgain, if_neg (by rw [hcb]; decide), onDrumState_modRec,
    if_pos (by exact k1)]
  show (((closed .line s).rec? slot).map _).getD _ = _
  rw [hcr]
  rfl

end

/-- What a LINE end leaves of the sender (R94). -/
theorem attemptEnd_line_sender {s : State} (hp : attemptInProgress s = true) : (attemptEnd .line s).sender =
    { s.sender with state := .free, port := none, cadenceOn := false, stageTimer := none } := by
  obtain ⟨-, -, -, hz, -⟩ := attemptEnd_ends (outcome := .line) hp
  rw [hz]
  show ({ (closeAttempt .line (flushStore (stopScanner s))).sender with
    state := .free, port := none, cadenceOn := false, stageTimer := none } : Sender) = _
  rw [closing_sender]

/-! ### The evaluations after a record is GRANTED again -/

/-- A head at home does not reach READY with its first step while start_offset is 2 or more (R51). -/
theorem enterPositioning_not_ready {s : State} (ha : attemptInProgress s = false) (hp : s.head.pos = 0)
    (ho : 2 ≤ s.tables.scan.startOffset) : (enterPositioning s).head.state ≠ .ready := by
  by_cases hl : s.tables.scan.travelLimit < s.head.pos + 1
  · have hout : stepOut (s.setHead { s.head with state := .positioning }) =
        (s.setHead { s.head with state := .positioning }).setHead (faultedHead { s.head with state := .positioning }) :=
      (stepOut_past (s := s.setHead { s.head with state := .positioning }) hl).trans (attemptEnd_of_none (t := stopHead
        (s.setHead { s.head with state := .positioning })) ha)
    unfold enterPositioning positionStep
    rw [if_neg (by omega), hout]
    dsimp only
    rw [if_neg (fun h => nomatch h)]
    exact fun h => nomatch h
  · have hm : s.head.pos + 1 ≠ s.tables.scan.startOffset := by omega
    rw [enterPositioning, if_neg (by omega), positionStep_within rfl (by exact Nat.le_of_not_lt hl)]
    show (positionedHead s.tables.scan { s.head with state := .positioning }).state ≠ .ready
    rw [positionedHead, if_neg (by exact hm)]
    exact fun h => nomatch h

/-- After an event that grants the on-drum record again with a port fit, its head at home or on its way there, the evaluations
reach the drive, the head and the lamp: no attempt starts. -/
theorem settle_granted_again {s0 v : State} (hq : v.sender.lineupReq = none) (hn : noPortLeft v = false)
    (ha : attemptInProgress v = false) (hh : v.head.state ≠ .ready) (hp : v.head.state = .parked → v.head.pos = 0)
    (ho : 2 ≤ v.tables.scan.startOffset) : Only [.enc, .drum, .reg, .head, .lamp] v (settle s0 v) := by
  have k2 : Only [.enc, .drum, .reg] v (drumEval s0 (standardEval s0 v)) :=
    drumEval_only _ (by decide) (by decide) (standardEval_only _ (by decide) (by decide) (Only.refl _ _))
  have hpf : portFailEval s0 v = v := portFailEval_eq fun h => by rw [hn] at h; exact nomatch h
  unfold settle
  dsimp only
  rw [lapseEval_unrequested hq, hpf]
  generalize drumEval s0 (standardEval s0 v) = u at *
  have hua : attemptInProgress u = false := by rwa [attemptInProgress_congr (k2.pics (by decide))]
  have hhead := k2.head (by decide)
  have hne : (headEval s0 u).head.state ≠ .ready := by
    unfold headEval
    dsimp only
    split
    · next h =>
      simp only [Bool.and_eq_true, decide_eq_true_eq] at h
      exact enterPositioning_not_ready hua (by rw [hhead]; exact hp (hhead ▸ h.1.1))
        (by rw [k2.tables (by decide)]; exact ho)
    · rwa [hhead]
  obtain ⟨x, ex⟩ := headEval_idle (s0 := s0) hua
  obtain ⟨l, el⟩ := lampEval_lamp s0 (headEval s0 u)
  have hr : attemptReady (lampEval s0 (headEval s0 u)) = false := by
    rw [el]
    exact not_attemptReady (Or.inr (Or.inr (Or.inl hne)))
  have hlr : lineupReady (lampEval s0 (headEval s0 u)) = false := by
    rw [el, ex]
    exact lineupReady_unrequested (by
      show u.sender.lineupReq = none
      rw [k2.sender (by decide)]
      exact hq)
  rw [attemptEval_eq (by rw [hr]; exact fun h => nomatch h), lineupEval_eq (by rw [hlr]; exact fun h => nomatch h), el, ex]
  exact setLamp_only _ (by decide) (setHead_only _ (by decide) (k2.mono (by decide)))

/-! ### The LOOP fault (R82) -/

/-- A port in LOOP fault. -/
def droppedPort (x : Port) : Port := leftPort .idle { x with cause := .loop }

/-- The LOOP fault at the port. -/
def looped (p : PortId) (s : State) : State := applyLine p (s.setPort p (droppedPort (s.port p)))

theorem State.setPort_setPort (s : State) (p : PortId) (x y : Port) : (s.setPort p x).setPort p y = s.setPort p y := by
  cases p <;> rfl

theorem loopLossExpiry_eq {p : PortId} {s : State} (hc : (s.port p).activity = .carrying)
    (ht : (s.port p).loopTimer.isSome = true) : loopLossExpiry p s = senderLoopFault (looped p s) := by
  rw [loopLossExpiry, if_pos ⟨hc, ht⟩, leaveCarrying_eq, State.setPort_setPort, State.setPort_port_same]
  rfl

theorem looped_only {ps : List Part} {s t : State} (p : PortId) (h1 : portPart p ∈ ps) (h2 : Part.tables ∈ ps)
    (h : Only ps s t) : Only ps s (looped p t) := applyLine_only _ h2 (setPort_only _ _ h1 h)

theorem looped_port (p : PortId) (s : State) : (looped p s).port p = droppedPort (s.port p) := by
  rw [looped, (applyLine_frame p _).port p (by cases p <;> decide), State.setPort_port_same]

/-- A port dropped by its LOOP fault, and what the LINE end leaves of sender, scanner and store. -/
structure LineDropped (p : PortId) (t : State) : Prop where
  cause : (t.port p).cause = .loop
  activity : (t.port p).activity = .idle
  free : t.sender.state = .free
  detached : t.sender.port = none
  cadence : t.sender.cadenceOn = false
  scanner : t.scan.state = .idle
  store : t.store.entries = []

theorem LineDropped.of_only {p : PortId} {v t : State} (h : LineDropped p v)
    (k : Only [.enc, .drum, .reg, .head, .lamp, .panel] v t) : LineDropped p t := by
  have hp := k.port p (by cases p <;> decide)
  have hz := k.sender (by decide)
  exact ⟨by rw [hp]; exact h.cause, by rw [hp]; exact h.activity, by rw [hz]; exact h.free, by rw [hz]; exact h.detached,
    by rw [hz]; exact h.cadence, by rw [k.scan (by decide)]; exact h.scanner, by rw [k.store (by decide)]; exact h.store⟩

theorem LineDropped.all {p : PortId} {t : State} (h : LineDropped p t) : (t.port p).cause = .loop ∧
    (t.port p).activity = .idle ∧ t.sender.state = .free ∧ t.sender.port = none ∧ t.sender.cadenceOn = false ∧
    t.scan.state = .idle ∧ t.store.entries = [] :=
  ⟨h.cause, h.activity, h.free, h.detached, h.cadence, h.scanner, h.store⟩

section
variable {s : State} {p : PortId} (hl : Links s) (ha : attemptInProgress s = true)
  (hc : (s.port p).activity = .carrying) (ht : (s.port p).loopTimer.isSome = true)

theorem looped_pics (p : PortId) (s : State) : (looped p s).pics = s.pics :=
  (looped_only (ps := [portPart p, .tables]) p (by simp) (by simp) (Only.refl _ _)).pics (by cases p <;> decide)

theorem looped_sender (p : PortId) (s : State) : (looped p s).sender = s.sender :=
  (looped_only (ps := [portPart p, .tables]) p (by simp) (by simp) (Only.refl _ _)).sender (by cases p <;> decide)

include hl ha hc ht in
/-- The LOOP fault of the port that carries the attempt ends it with LINE (R94). -/
theorem loopLossExpiry_attempt : loopLossExpiry p s = attemptEnd .line (looped p s) := by
  rw [loopLossExpiry_eq hc ht, senderLoopFault, looped_sender, if_pos (hl.attempt ▸ ha)]

include ha in
theorem looped_dropped : LineDropped p (attemptEnd .line (looped p s)) ∧
    (attemptEnd .line (looped p s)).sender.lineupReq = s.sender.lineupReq := by
  have hp : attemptInProgress (looped p s) = true := by rwa [attemptInProgress_congr (looped_pics p s)]
  obtain ⟨h1, -, -, -, h5, h6⟩ := attemptEnd_ends (outcome := .line) hp
  obtain ⟨p1, -, p3⟩ := h6 p
  have hz := attemptEnd_line_sender hp
  rw [looped_port] at p1 p3
  exact ⟨⟨p3, p1, by rw [hz], by rw [hz], by rw [hz], h1, by rw [h5]⟩, by rw [hz, looped_sender]⟩

end

/-- What the LOOP fault leaves of a record that finishes with it. -/
theorem looped_finishes {s : State} {p : PortId} {slot : Nat} {c : FailCause} (hl : Links s)
    (ho : s.pics.onDrum = some slot) (hs : onDrumState s = .sending) (hc : (s.port p).activity = .carrying)
    (ht : (s.port p).loopTimer.isSome = true) (hq : s.sender.lineupReq = none)
    (hf : ∀ x, moveRecord slot .line (closed .line (looped p (s.setPanel x))) =
      finishRecord slot .failed c (closed .line (looped p (s.setPanel x)))) :
    ∃ t, exec (.loopLossTimerExpiry p) s = .next t ∧ LineDropped p t ∧ FinishedAs slot .failed c s t := by
  refine event_next (f := loopLossExpiry p) rfl fun x y => ?_
  have ha : attemptInProgress s = true := decide_eq_true hs
  have k := looped_only (ps := [portPart p, .tables, .panel]) p (by simp) (by simp)
    (setPanel_only x (by simp) (Only.refl _ s))
  rw [loopLossExpiry_attempt (s := s.setPanel x) (setPanel_links x hl) ha (by rw [State.setPanel_port]; exact hc)
    (by rw [State.setPanel_port]; exact ht)]
  have hp := looped_pics p (s.setPanel x)
  obtain ⟨hfin, hst⟩ := attemptEnd_finishes_of (hf x) (by rw [hp]; exact ho) (by rw [onDrumState_congr hp]; exact hs)
  obtain ⟨hd, hr⟩ := looped_dropped (s := s.setPanel x) (p := p) ha
  have kw := settle_unrequested (s0 := s.setPanel x) (v := attemptEnd .line (looped p (s.setPanel x)))
    (by rw [hst]; decide) (hr.trans hq)
  generalize settle (s.setPanel x) (attemptEnd .line (looped p (s.setPanel x))) = w at kw ⊢
  exact ⟨hd.of_only (setPanel_only _ (by decide) (kw.mono (by decide))), hfin.congr
    (k.clock (by cases p <;> decide)).symm (congrArg PicTable.finishOrder hp).symm (k.slips (by cases p <;> decide)).symm
    (kw.pics (by decide)) (kw.slips (by decide))⟩

/-- Both ports are in FAULT after the LOOP fault of one where the other already was. -/
theorem looped_bothFault (p : PortId) (s : State) : bothFault (looped p s) = decide ((s.port p.other).cause ≠ .none) := by
  have h1 : ((looped p s).port p).inFault = true := by rw [looped_port]; rfl
  have h2 : ((looped p s).port p.other).inFault = decide ((s.port p.other).cause ≠ .none) := by
    have k : Only [portPart p, .tables] s (looped p s) := looped_only p (by simp) (by simp) (Only.refl _ _)
    rw [k.port p.other (by cases p <;> decide), Port.inFault]
  cases p with
  | a => exact (congrArg₂ _ h1 h2).trans (Bool.true_and _)
  | b => exact (congrArg₂ _ h2 h1).trans (Bool.and_true _)

/-- The LOOP fault with attempts left and the other port fit: the record is GRANTED again (R147), and no attempt starts. -/
theorem looped_grants {s : State} {p : PortId} {slot : Nat} {r : PicRecord} {g : Grant} (hl : Links s) (hfoot : Footing s)
    (ho : s.pics.onDrum = some slot) (hr : s.rec? slot = some r) (hg : r.grant = some g) (hs : r.state = .sending)
    (hc : (s.port p).activity = .carrying) (ht : (s.port p).loopTimer.isSome = true) (hq : s.sender.lineupReq = none)
    (hn : r.attempts.length < g.allowed) (hp : (s.port p.other).cause = .none) (hsp : s.tables.scanPending = none)
    (hoff : 2 ≤ s.tables.scan.startOffset) :
    ∃ t, exec (.loopLossTimerExpiry p) s = .next t ∧ LineDropped p t ∧ onDrumState t = .granted := by
  refine event_next (f := loopLossExpiry p) rfl fun x y => ?_
  obtain ⟨hsend, ha⟩ := sending_record ho hr hs
  have hpics := looped_pics p (s.setPanel x)
  have k : Only [portPart p, .tables] (s.setPanel x) (looped p (s.setPanel x)) :=
    looped_only p (by simp) (by simp) (Only.refl _ _)
  rw [loopLossExpiry_attempt (s := s.setPanel x) (setPanel_links x hl) ha (by rw [State.setPanel_port]; exact hc)
    (by rw [State.setPanel_port]; exact ht)]
  have hb : bothFault (looped p (s.setPanel x)) = false := by
    rw [looped_bothFault, State.setPanel_port]
    simp [hp]
  have hgr : onDrumState (attemptEnd .line (looped p (s.setPanel x))) = .granted :=
    attemptEnd_line_grants (r := r) (by rw [hpics]; exact ho) (by rw [State.rec?, hpics]; exact hr) hg hs hn hb
  have hsent : SentHome (looped p (s.setPanel x)) (attemptEnd .line (looped p (s.setPanel x))) :=
    attemptEnd_sentHome (by rw [onDrumState_congr hpics]; exact hsend)
  obtain ⟨hd, hreq⟩ := looped_dropped (s := s.setPanel x) (p := p) ha
  have hfit : ((attemptEnd .line (looped p (s.setPanel x))).port p.other).cause = .none := by
    obtain ⟨-, -, -, -, -, h6⟩ := attemptEnd_ends (outcome := .line)
      (t := looped p (s.setPanel x)) (by rw [attemptInProgress_congr hpics]; exact ha)
    rw [(h6 p.other).2.2, k.port p.other (by cases p <;> decide), State.setPanel_port]
    exact hp
  have hscan : (looped p (s.setPanel x)).tables.scan = s.tables.scan ∧
      (looped p (s.setPanel x)).tables.scanPending = none := by
    obtain ⟨h1, h2⟩ := applyLine_scan p ((s.setPanel x).setPort p (droppedPort ((s.setPanel x).port p)))
    simp only [State.setPort_tables, State.setPanel_tables] at h1 h2
    exact ⟨h1, h2.trans hsp⟩
  have hhead := hsent.home (by
    rw [k.head (by cases p <;> decide)]
    exact hfoot.travel.2)
  have kw := settle_granted_again (s0 := s.setPanel x) (hreq.trans hq) (noPortLeft_of_port hfit)
    (by rw [attemptInProgress, hgr]; rfl) hhead.1 hhead.2 (by rw [(hsent.kept hscan.2).1, hscan.1]; exact hoff)
  generalize settle (s.setPanel x) (attemptEnd .line (looped p (s.setPanel x))) = w at kw ⊢
  exact ⟨hd.of_only (setPanel_only _ (by decide) (kw.mono (by decide))),
    (onDrumState_congr (kw.pics (by decide))).trans hgr⟩

/-- The LOOP fault in the stop tone and in a line-up (R95, R98): the sender is FREE, the port's pending LINE copy in force. -/
theorem looped_releases {s : State} {p : PortId} {z : Sender} (hc : (s.port p).activity = .carrying)
    (ht : (s.port p).loopTimer.isSome = true) (ho : onDrumState s ≠ .granted) (hq : z.lineupReq = none)
    (hz : ∀ x, senderLoopFault (looped p (s.setPanel x)) = (looped p (s.setPanel x)).setSender z) :
    ∃ t, exec (.loopLossTimerExpiry p) s = .next t ∧ (Only [.sender, .tables, portPart p, .panel] s t ∧
      (s.tables.linePending = none → t.tables = s.tables) ∧
      (∀ lp, s.tables.linePending = some (p, lp) → lineOf t p = lp ∧ t.tables.linePending = none) ∧
      t.port p = { s.port p with
        cause := .loop, activity := .idle, loopTimer := none, breakTimer := none, rx := rxIdle }) ∧ t.sender = z := by
  obtain ⟨t, e, k, h1, h2, h3, h4⟩ := released_event (c := .loopLossTimerExpiry p) (f := loopLossExpiry p)
    (x := droppedPort (s.port p)) (z := z) rfl (fun u => (loopLossExpiry_eq (by rw [State.setPanel_port]; exact hc)
      (by rw [State.setPanel_port]; exact ht)).trans ((hz u).trans (by rw [looped, State.setPanel_port]; rfl))) ho hq
  exact ⟨t, e, ⟨k.mono (by simp), h1, h2, h3⟩, h4⟩

theorem senderLoopFault_stopTone {s : State} (hs : s.sender.state = .stopTone) :
    senderLoopFault s = s.setSender (senderFree s.sender) := by
  rw [senderLoopFault, hs]
  rfl

/-- A line-up whose port is CARRYING no more ends at the sender alone. -/
theorem senderLoopFault_lineup {s : State} {p : PortId} (hs : s.sender.state = .lineupWhite ∨ s.sender.state = .lineupBlack)
    (hp : s.sender.port = some p) (ha : (s.port p).activity = .idle) :
    senderLoopFault s = s.setSender { s.sender with state := .free, port := none, stageTimer := none } := by
  have e : senderLoopFault s = endLineup s := by
    unfold senderLoopFault
    rcases hs with hs | hs <;> rw [hs] <;> rfl
  rw [e, endLineup, hp]
  dsimp only
  rw [if_neg (by rw [ha]; decide)]

/-! ### The break tone (R83, R93) -/

theorem breakWatched_iff {p : PortId} {s : State} : breakWatched p s = true ↔
    (s.port p).activity = .carrying ∧ s.sender.state.sendingAttempt = true := by
  rw [breakWatched, Bool.and_eq_true, decide_eq_true_eq]

theorem breakTonePresent_watched {p : PortId} {s : State} (hc : (s.port p).activity = .carrying)
    (hs : s.sender.state.sendingAttempt = true) (hb : (s.port p).breakTimer = none) :
    breakTonePresent p s = s.setPort p { s.port p with breakTimer := some 200000 } :=
  if_pos ⟨breakWatched_iff.2 ⟨hc, hs⟩, hb⟩

theorem breakTonePresent_off {p : PortId} {s : State}
    (h : (s.port p).activity ≠ .carrying ∨ s.sender.state.sendingAttempt = false) : breakTonePresent p s = s := by
  refine if_neg fun ⟨hw, _⟩ => ?_
  obtain ⟨h1, h2⟩ := breakWatched_iff.1 hw
  rcases h with h | h
  · exact h h1
  · exact nomatch h.symm.trans h2

/-- The end of an attempt stops the break timer of its port, and leaves the record AWAITING when the break ended it. -/
theorem attemptEnd_broken {s : State} {p : PortId} (ha : attemptInProgress s = true)
    (hs : s.sender.state.sendingAttempt = true) (hp : s.sender.port = some p) :
    ((attemptEnd .broken s).port p).breakTimer = none ∧ onDrumState (attemptEnd .broken s) = .awaiting := by
  cases ho : s.pics.onDrum with
  | none => simp [attemptInProgress, onDrumState, onDrumRec, ho] at ha
  | some slot =>
    obtain ⟨r, hr, hrs⟩ := rec?_of_onDrumState ho (by rw [(attemptInProgress_iff s).1 ha]; decide)
    obtain ⟨hco, -, l, -, hcr⟩ := closed_record (outcome := .broken) ho hr
    have k : Only [.head, .tables, .pics] (closed .broken s) (attemptEnd .broken s) := by
      rw [attemptEnd_eq ho ha]
      exact endAttemptUse_only (by decide) (rewindHead_only (by decide) (by decide)
        (awaitReceipts_only _ (by decide) (Only.refl _ _)))
    have kp : Only [.head, .tables] (awaitReceipts slot (closed .broken s)) (attemptEnd .broken s) := by
      rw [attemptEnd_eq ho ha]
      exact endAttemptUse_only (by decide) (rewindHead_only (by decide) (by decide) (Only.refl _ _))
    refine ⟨?_, ?_⟩
    · rw [k.port p (by cases p <;> decide), closed, closeSender, if_neg (by decide), closing_sender, if_pos hs, hp]
      dsimp only
      rw [State.setSender_port, State.setPort_port_same]
    · rw [onDrumState_congr (kp.pics (by decide))]
      show onDrumState (modRec slot _ (closed .broken s)) = _
      rw [onDrumState_modRec, if_pos hco, hcr]
      rfl

/-- The break timer's expiry ends the attempt with BROKEN (R83, R93). -/
theorem break_ends {s : State} {p : PortId} (hl : Links s) (ha : attemptInProgress s = true)
    (hc : (s.port p).activity = .carrying) (hb : (s.port p).breakTimer.isSome = true) :
    ∃ t, exec (.breakTimerExpiry p) s = .next t ∧ t.sender.state = .stopTone ∧ t.sender.held = some .broken ∧
      t.sender.port = some p ∧ (t.port p).breakTimer = none ∧ onDrumState t = .awaiting := by
  refine event_next (f := breakExpiry p) rfl fun x y => ?_
  have hs : s.sender.state.sendingAttempt = true := hl.attempt ▸ ha
  have hp : s.sender.port = some p := ((hl.carries p).1 hc).1
  have e : breakExpiry p (s.setPanel x) =
      attemptEnd .broken ((s.setPanel x).setPort p { s.port p with breakTimer := none }) := by
    have hw : breakWatched p (s.setPanel x) = true := breakWatched_iff.2 ⟨by rw [State.setPanel_port]; exact hc, hs⟩
    rw [breakExpiry, if_pos ⟨hw, by rw [State.setPanel_port]; exact hb⟩, State.setPanel_port]
  rw [e]
  generalize hu : (s.setPanel x).setPort p { s.port p with breakTimer := none } = u
  have k : Only [portPart p, .panel] s u := hu ▸ setPort_only _ _ (by simp) (setPanel_only _ (by simp) (Only.refl _ _))
  have hua : attemptInProgress u = true := by
    rwa [attemptInProgress_congr (k.pics (by cases p <;> decide))]
  have hus : u.sender = s.sender := k.sender (by cases p <;> decide)
  obtain ⟨h1, h2⟩ := attemptEnd_broken hua (by rw [hus]; exact hs) (by rw [hus]; exact hp)
  have hend := attemptEnd_ended (outcome := .broken) (by decide) hua (by rw [hus]; exact hs)
  have hf : ∀ q, ((attemptEnd .broken u).port q).inFault = ((s.setPanel x).port q).inFault := fun q => by
    obtain ⟨-, -, -, -, -, h6⟩ := attemptEnd_ends (outcome := .broken) hua
    rw [Port.inFault, (h6 q).2.2, ← hu]
    by_cases hq : q = p
    · subst hq
      rw [State.setPort_port_same, State.setPanel_port]
      rfl
    · rw [State.setPort_port_other _ _ _ _ (Ne.symm hq)]
      rfl
  have kw := settle_ended_only (s0 := s.setPanel x) hf (by rw [h2]; decide) (by rw [hend.tone]; decide)
  generalize settle (s.setPanel x) (attemptEnd .broken u) = w at kw ⊢
  have hz := kw.sender (by decide)
  exact ⟨(congrArg _ hz).trans hend.tone, (congrArg _ hz).trans hend.held,
    (congrArg _ hz).trans (hend.port.trans (by rw [hus]; exact hp)),
    (congrArg Port.breakTimer ((State.setPanel_port _ _ _).trans (kw.port p (by cases p <;> decide)))).trans h1,
    (onDrumState_congr (kw.pics (by decide))).trans h2⟩

/-! ### O34 -/

/-- Settles O34: the loop sense, the LOOP fault of an attempt, of a stop tone and of a line-up, the break tone. -/
theorem loopAndBreak : Obligations.LoopAndBreak := by
  refine ⟨fun s p => ⟨loopCurrentLost_event, ?_⟩, fun s p slot r g hl ho hr hg hs hc ht hq => ?_,
    fun s p hc ht hp ho hq => ⟨fun hs => ?_, fun hs => ?_⟩,
    fun s p => ⟨fun hc hs hb => ?_, fun h => ?_, ?_, break_ends⟩⟩
  · exact ⟨_, rfl, setPort_only _ _ (by simp) (Only.refl _ _), State.setPort_port_same _ _ _⟩
  · obtain ⟨hsend, -⟩ := sending_record ho hr hs
    have hrec : ∀ x, moveRecord slot .line (closed .line (looped p (s.setPanel x))) =
        if r.attempts.length < g.allowed then grantAgain slot (closed .line (looped p (s.setPanel x)))
        else finishRecord slot .failed .line (closed .line (looped p (s.setPanel x))) := fun x => by
      have hpics := looped_pics p (s.setPanel x)
      exact moveRecord_line (by rw [hpics]; exact ho) (by rw [State.rec?, hpics]; exact hr) hg
    refine ⟨fun hfoot hn hp hsp hoff => ?_, fun hn hp => ?_, fun hn => ?_⟩
    · obtain ⟨t, e, hd, hgr⟩ := looped_grants hl hfoot ho hr hg hs hc ht hq hn hp hsp hoff
      exact ⟨t, e, hd.all, hgr⟩
    · obtain ⟨t, e, hd, hf⟩ := looped_finishes (c := .lines) hl ho hsend hc ht hq fun x => by
        rw [hrec, if_pos hn, grantAgain, closed_bothFault, looped_bothFault, State.setPanel_port]
        exact if_pos (decide_eq_true hp)
      exact ⟨t, e, hd.all, hf⟩
    · obtain ⟨t, e, hd, hf⟩ := looped_finishes (c := .line) hl ho hsend hc ht hq fun x => by
        rw [hrec, if_neg (by omega)]
      exact ⟨t, e, hd.all, hf⟩
  · refine looped_releases hc ht ho hq fun x => ?_
    have hz := looped_sender p (s.setPanel x)
    rw [senderLoopFault_stopTone (by rw [hz]; exact hs), hz]
    rfl
  · refine looped_releases hc ht ho hq fun x => ?_
    have hz := looped_sender p (s.setPanel x)
    rw [senderLoopFault_lineup (p := p) (by rw [hz]; exact hs) (by rw [hz]; exact hp) (by rw [looped_port]; rfl), hz]
    rfl
  · exact ⟨_, congrArg Host.Outcome.next (breakTonePresent_watched hc hs hb), setPort_only _ _ (by simp) (Only.refl _ _),
      State.setPort_port_same _ _ _⟩
  · exact congrArg Host.Outcome.next (breakTonePresent_off h)
  · exact ⟨_, rfl, setPort_only _ _ (by simp) (Only.refl _ _), State.setPort_port_same _ _ _⟩

end Sys2Proof.Machine

/-! ## Offers to the line store -/

namespace Sys2Proof.Machine

/-! ### One offer (R65 to R67, R88) -/

theorem offerEntry_full {e : Entry} {x : LineStore} (h : 256 ≤ x.entries.length) :
    offerEntry e x = { x with overruns := satInc 65535 x.overruns, carry := x.carry || e.first } := if_neg (by omega)

theorem offerEntry_room {e : Entry} {x : LineStore} (h : x.entries.length < 256) : offerEntry e x =
    { x with
      entries := x.entries ++ [if x.carry then placeMark e else e], carry := false
      accepted := satInc 4294967295 x.accepted } := if_pos h

theorem offerEntry_uncarried {e : Entry} {x : LineStore} (h : x.entries.length < 256) (hc : x.carry = false) :
    offerEntry e x = { x with entries := x.entries ++ [e], accepted := satInc 4294967295 x.accepted } := by
  rw [offerEntry_room h, hc]
  rfl

/-- The carried mark goes to the entry, a GAP entry without one becoming a PICTURE entry (R67). -/
theorem placeMark_eq (e : Entry) :
    placeMark e = { e with first := true, kind := if e.kind = .gap ∧ e.first = false then .picture else e.kind } := by
  obtain ⟨kind, level, first⟩ := e
  cases first <;> cases kind <;> rfl

theorem offerEntry_grows (e : Entry) (x : LineStore) : x.entries.length ≤ (offerEntry e x).entries.length := by
  by_cases h : x.entries.length < 256
  · rw [offerEntry_room h, List.length_append]
    omega
  · rw [offerEntry_full (by omega)]

/-- The sender with a fill of the store: the cadence starts at 128 in PREFILL (R88). -/
def pacedSender (fill : Nat) (z : Sender) : Sender :=
  if z.state = .prefill ∧ z.cadenceOn = false ∧ 128 ≤ fill then { z with cadenceOn := true, acc := 0 } else z

theorem pacedSender_keeps (fill : Nat) (z : Sender) : (pacedSender fill z).state = z.state ∧
    (pacedSender fill z).port = z.port ∧ (pacedSender fill z).lineupReq = z.lineupReq := by
  unfold pacedSender
  split <;> exact ⟨rfl, rfl, rfl⟩

/-- The cadence starts once: a fill passed on the way to a larger one makes no difference. -/
theorem pacedSender_paced {n m : Nat} (h : n ≤ m) (z : Sender) : pacedSender m (pacedSender n z) = pacedSender m z := by
  by_cases hn : z.state = .prefill ∧ z.cadenceOn = false ∧ 128 ≤ n
  · have e1 : pacedSender n z = { z with cadenceOn := true, acc := 0 } := if_pos hn
    have e2 : pacedSender m z = { z with cadenceOn := true, acc := 0 } := if_pos ⟨hn.1, hn.2.1, hn.2.2.trans h⟩
    rw [e1, e2]
    exact if_neg fun hc => nomatch hc.2.1
  · have e : pacedSender n z = z := if_neg hn
    rw [e]

theorem storeOffer_eq (e : Entry) (s : State) : storeOffer e s =
    (s.setStore (offerEntry e s.store)).setSender (pacedSender (offerEntry e s.store).entries.length s.sender) := by
  unfold storeOffer cadenceStart pacedSender
  by_cases h : s.sender.state = .prefill ∧ s.sender.cadenceOn = false ∧ 128 ≤ (offerEntry e s.store).entries.length
  · rw [if_pos (by exact h), if_pos h]
    rfl
  · rw [if_neg (by exact h), if_neg h]
    rfl

/-! ### The offers of a list (R42) -/

/-- The entry that a waiting one becomes. -/
def WaitEntry.entry (w : WaitEntry) : Entry := ⟨w.kind, w.level.getD 0, w.first⟩

theorem WaitEntry.ready_of {w : WaitEntry} (hw : w.white = false) (hl : w.level ≠ none) : w.ready = some w.entry := by
  obtain ⟨l, hl⟩ := Option.ne_none_iff_exists'.mp hl
  simp [WaitEntry.ready, WaitEntry.entry, hw, hl]

theorem WaitEntry.not_ready_of {w : WaitEntry} (h : w.white = true ∨ w.level = none) : w.ready = none := by
  rcases h with h | h
  · simp [WaitEntry.ready, h]
  · cases hw : w.white <;> simp [WaitEntry.ready, h, hw]

/-- The store after the offers of a list. -/
def offeredStore (ws : List WaitEntry) (x : LineStore) : LineStore := ws.foldl (fun x w => offerEntry w.entry x) x

theorem offeredStore_grows (ws : List WaitEntry) (x : LineStore) :
    x.entries.length ≤ (offeredStore ws x).entries.length := by
  induction ws generalizing x with
  | nil => exact Nat.le_refl _
  | cons w ws ih => exact (offerEntry_grows w.entry x).trans (ih _)

/-- A list none of whose front is ready keeps waiting. -/
theorem offerList_stuck {ws : List WaitEntry} (s : State) (h : ∀ w ∈ ws.take 1, w.white = true ∨ w.level = none) :
    offerList ws s = s.setScan { s.scan with waiting := ws } := by
  cases ws with
  | nil => rfl
  | cons w rest =>
    have hw : w.ready = none := WaitEntry.not_ready_of (h w (by simp))
    rw [offerList, hw]

/-- What the offers of a list leave: the ready entries in the store, the sender with its fill, the others waiting. -/
theorem offerList_eq {w : WaitEntry} {ready stuck : List WaitEntry} (s : State)
    (hr : ∀ x ∈ w :: ready, x.white = false ∧ x.level ≠ none)
    (hs : ∀ x ∈ stuck.take 1, x.white = true ∨ x.level = none) :
    offerList (w :: ready ++ stuck) s = ((s.setStore (offeredStore (w :: ready) s.store)).setSender
      (pacedSender (offeredStore (w :: ready) s.store).entries.length s.sender)).setScan
        { s.scan with waiting := stuck } := by
  induction ready generalizing w s with
  | nil =>
    have hw := WaitEntry.ready_of (hr w (by simp)).1 (hr w (by simp)).2
    show offerList (w :: stuck) s = _
    rw [offerList, hw]
    dsimp only
    rw [offerList_stuck _ hs, storeOffer_eq]
    rfl
  | cons v ready ih =>
    have hw := WaitEntry.ready_of (hr w (by simp)).1 (hr w (by simp)).2
    show offerList (w :: (v :: ready ++ stuck)) s = _
    rw [offerList, hw]
    dsimp only
    rw [ih _ fun x hx => hr x (List.mem_cons_of_mem _ hx), storeOffer_eq]
    simp only [State.setSender_store, State.setStore_store, State.setSender_sender]
    rw [pacedSender_paced (offeredStore_grows (v :: ready) _)]
    rfl

/-! ### What the rules of the scanner and the head read of the tables and the record -/

/-- The tables, the standard in force, the line count and the port that carries the attempt are those of `s`. -/
structure SamePlan (s t : State) : Prop where
  tables : t.tables = s.tables
  standard : standardNumber t = standardNumber s
  lines : onDrumLines t = onDrumLines s
  port : t.sender.port = s.sender.port

namespace SamePlan
variable {s t u : State}

theorem refl (s : State) : SamePlan s s := ⟨rfl, rfl, rfl, rfl⟩

theorem trans (h : SamePlan s t) (k : SamePlan t u) : SamePlan s u :=
  ⟨k.tables.trans h.tables, k.standard.trans h.standard, k.lines.trans h.lines, k.port.trans h.port⟩

theorem of_pics (hp : t.pics = s.pics) (ht : t.tables = s.tables) (hz : t.sender.port = s.sender.port) : SamePlan s t :=
  ⟨ht, standardNumber_congr hp, by rw [onDrumLines, onDrumRec_congr hp, onDrumLines], hz⟩

theorem line (h : SamePlan s t) : carryingLine t = carryingLine s := by
  rw [carryingLine, carryingLine, h.port]
  cases s.sender.port.getD .a with
  | a => exact congrArg Tables.lineA h.tables
  | b => exact congrArg Tables.lineB h.tables

theorem inForce (h : SamePlan s t) : standardInForce t = standardInForce s := by
  rw [standardInForce, standardInForce, standardAt, standardAt, h.standard, h.tables]

theorem key (h : SamePlan s t) : standardKey t = standardKey s := by
  rw [standardKey, standardKey, h.standard, h.inForce]

theorem samples (h : SamePlan s t) : samplesPerRev t = samplesPerRev s := by
  rw [samplesPerRev, samplesPerRev, h.inForce]

theorem samplePos (h : SamePlan s t) (k : Nat) : Machine.samplePos t k = Machine.samplePos s k := by
  rw [Machine.samplePos, Machine.samplePos, h.inForce]

theorem lastRevolution (h : SamePlan s t) (hr : t.scan.rev = s.scan.rev) :
    Machine.lastRevolution t = Machine.lastRevolution s := by
  rw [Machine.lastRevolution, Machine.lastRevolution, h.line, h.lines, hr]

theorem lastSampleTaken (h : SamePlan s t) (hr : t.scan.rev = s.scan.rev) (hk : t.scan.k = s.scan.k) :
    Machine.lastSampleTaken t = Machine.lastSampleTaken s := by
  rw [Machine.lastSampleTaken, Machine.lastSampleTaken, h.lastRevolution hr, h.samples, hk]

end SamePlan

/-! ### The evaluations after an event of the scanner -/

/-- The scanner's part in the lamp's demand: it has not finished, or has its signal still to give (R46). -/
def Scanner.lit (x : Scanner) : Bool := decide (x.state ≠ .finished) || x.signalDue

theorem lampDemand_lit (s : State) : lampDemand s =
    (decide (onDrumState s = .granted ∨ onDrumState s = .sending) && s.scan.lit && decide (s.drum.state ≠ .cutoff) &&
      decide (s.head.state ≠ .fault)) := rfl

/-- An event of the counter, the scanner, the store, the converter and the sender that ends no lamp demand, frees no sender and
leaves the requested line-up leaves the evaluations nothing. -/
theorem settle_scanning {s0 v : State} (k : Only [.enc, .scan, .store, .conv, .sender] s0 v)
    (hl : v.scan.lit = s0.scan.lit)
    (hz : v.sender.state = s0.sender.state) (hq : v.sender.lineupReq = s0.sender.lineupReq) : settle s0 v = v := by
  have hp := k.pics (by decide)
  have ho := (onDrumState_congr hp).symm
  have hd := k.drum (by decide)
  have hh := k.head (by decide)
  have hport : v.port = s0.port := by funext p; exact k.port p (by cases p <;> decide)
  refine settle_unchanged (demand_congr (by rw [hd]) ho.symm).symm (by rw [hd]) (by rw [k.pins (by decide)])
    (standardKey_congr hp (by rw [k.tables (by decide)])).symm (by rw [hh]) ho ?_ (by rw [k.portA (by decide)])
    (by rw [k.portB (by decide)]) ?_ ?_
  · rw [lampDemand_lit, lampDemand_lit, hl, ho, hd, hh]
  · simp only [attemptReady, chosenPort, onDrumGrant, onDrumRec_congr hp, onDrumState_congr hp, hd, hh,
      k.lamp (by decide), hz, hport]
  · simp only [lineupReady, hz, hq, hport]

/-! ### O21 -/

theorem startNextConversion_passed {s u : State} (h : u.conv = s.conv) : Passed s (startNextConversion u) := by
  unfold startNextConversion
  rw [h]
  refine ⟨fun v rest e => ?_, fun e et => ?_, fun e et => ?_⟩
  · rw [e]; rfl
  · rw [e]
    dsimp only
    rw [if_pos et]
    rw [State.setConv_conv, e]
  · rw [e]
    dsimp only
    rw [if_neg (by rw [et]; decide), State.setConv_conv, e, et]

/-- Passing the result on and starting the next conversion changes the converter alone beside what the result does. -/
theorem conversionComplete_eq {reading : Nat} {s : State} {c : ConvSource} (h : s.conv.current = some c) :
    conversionComplete reading s = startNextConversion (handResult reading s) := by
  rw [conversionComplete, if_neg (by rw [h]; exact Bool.false_ne_true)]

theorem handResult_discarded {reading : Nat} {s : State} {use : PhotoUse}
    (h : s.conv.current = some (.photocell use true)) : handResult reading s = s := by
  rw [handResult, h]

theorem handResult_white {reading : Nat} {s : State} (h : s.conv.current = some (.photocell .white false)) :
    handResult reading s = takeWhite reading s := by
  rw [handResult, h]

theorem handResult_picture {reading : Nat} {s : State} (h : s.conv.current = some (.photocell .picture false)) :
    handResult reading s = takePicture reading s := by
  rw [handResult, h]

/-- The state with entries offered, the others waiting. -/
def offering (ws stuck : List WaitEntry) (x : Scanner) (s : State) : State :=
  ((s.setStore (offeredStore ws s.store)).setSender
    (pacedSender (offeredStore ws s.store).entries.length s.sender)).setScan { x with waiting := stuck }

theorem offering_only {ps : List Part} {s t : State} (ws stuck : List WaitEntry) (x : Scanner) (h1 : Part.store ∈ ps)
    (h2 : Part.sender ∈ ps) (h3 : Part.scan ∈ ps) (h : Only ps s t) : Only ps s (offering ws stuck x t) :=
  setScan_only _ h3 (setSender_only _ h2 (setStore_only _ h1 h))

/-- A scanner whose front entry has become ready offers it and the ready ones behind it (R42). -/
theorem offerReady_offering {w : WaitEntry} {ready stuck : List WaitEntry} {s : State} (x : Scanner)
    (hr : ∀ v ∈ w :: ready, v.white = false ∧ v.level ≠ none)
    (hs : ∀ v ∈ stuck.take 1, v.white = true ∨ v.level = none) :
    offerReady (s.setScan { x with waiting := w :: ready ++ stuck }) = offering (w :: ready) stuck x s :=
  offerList_eq (s.setScan { x with waiting := w :: ready ++ stuck }) hr hs

/-- The front entry with its white-patch reading. -/
theorem fillWhite_front {e : WaitEntry} (rest : List WaitEntry) (h : e.white = true) :
    fillWhite (e :: rest) = { e with white := false } :: rest := by rw [fillWhite, if_pos h]

/-- The front entry with the level of its reading. -/
theorem fillLevel_front {e : WaitEntry} {l : Nat} (rest : List WaitEntry) (h : e.level = none) :
    fillLevel l (e :: rest) = { e with level := some l } :: rest := by rw [fillLevel, h]

section
variable {s : State} {reading : Nat} {e : WaitEntry} {ready stuck : List WaitEntry}
  (hw : s.scan.waiting = e :: ready ++ stuck) (hr : ∀ x ∈ ready, x.white = false ∧ x.level ≠ none)
  (hs : ∀ x ∈ stuck.take 1, x.white = true ∨ x.level = none)
include hw hr hs

/-- A white-patch reading that does not finish the run (R42, R47). -/
theorem takeWhite_offers {l : Nat} (hl : e.level = some l) (he : e.white = true) (hrun : s.scan.state = .running)
    (hlast : lastSampleTaken s = false) : takeWhite reading s = offering ({ e with white := false } :: ready) stuck
      { s.scan with whiteSum := s.scan.whiteSum + reading, whiteCount := s.scan.whiteCount + 1 } s := by
  have hlist : fillWhite s.scan.waiting = { e with white := false } :: ready ++ stuck := by
    rw [hw]
    exact fillWhite_front _ he
  have hoff := offerReady_offering (s := s) (w := { e with white := false }) (ready := ready) (stuck := stuck)
    { s.scan with whiteSum := s.scan.whiteSum + reading, whiteCount := s.scan.whiteCount + 1 }
    (fun v hv => (List.mem_cons.1 hv).elim (fun h => h ▸ ⟨rfl, by rw [hl]; exact fun h => nomatch h⟩) (hr v)) hs
  rw [takeWhite, if_pos hrun, hlist]
  dsimp only at hoff ⊢
  rw [hoff]
  refine if_neg fun hc => ?_
  have hplan : SamePlan s (offering ({ e with white := false } :: ready) stuck
      { s.scan with whiteSum := s.scan.whiteSum + reading, whiteCount := s.scan.whiteCount + 1 } s) :=
    SamePlan.of_pics rfl rfl (pacedSender_keeps _ _).2.1
  rw [hplan.lastSampleTaken rfl rfl] at hc
  exact nomatch hlast.symm.trans hc.1

/-- A PICTURE reading while nothing is left to be signalled (R42, R60). -/
theorem takePicture_offers (hl : e.level = none) (he : e.white = false) (hsig : s.scan.signalDue = false) :
    takePicture reading s =
      offering ({ e with level := some (tonePath s reading) } :: ready) stuck s.scan s := by
  have hlist : fillLevel (tonePath s reading) s.scan.waiting =
      { e with level := some (tonePath s reading) } :: ready ++ stuck := by
    rw [hw]
    exact fillLevel_front _ hl
  have hoff := offerReady_offering (s := s) (w := { e with level := some (tonePath s reading) }) (ready := ready)
    (stuck := stuck) s.scan
    (fun v hv => (List.mem_cons.1 hv).elim (fun h => h ▸ ⟨he, fun h => nomatch h⟩) (hr v)) hs
  rw [takePicture, hlist, hoff]
  exact if_neg fun hc => Bool.false_ne_true (hsig.symm.trans (show s.scan.signalDue = true from hc.1))

end

/-- A result that changes scanner, store and sender alone, with the lamp's demand and the sender's state as they were, as an
event: the next conversion starts. -/
theorem conversion_event {s : State} {r : BitVec 12} {c : ConvSource} {v : State → State}
    (hc : s.conv.current = some c) (hv : ∀ x, handResult r.toNat (s.setPanel x) = v (s.setPanel x))
    (k : ∀ x, Only [.scan, .store, .sender] (s.setPanel x) (v (s.setPanel x)))
    (hl : ∀ x, (v (s.setPanel x)).scan.lit =
      s.scan.lit)
    (hz : ∀ x, (v (s.setPanel x)).sender.state = s.sender.state ∧
      (v (s.setPanel x)).sender.lineupReq = s.sender.lineupReq) :
    ∃ t x y, exec (.conversionComplete r) s = .next t ∧ Passed s t ∧
      t = (startNextConversion (v (s.setPanel x))).setPanel y := by
  obtain ⟨x, y, e⟩ := event_eq (conversionComplete r.toNat) s
  have hp : Passed (s.setPanel x) (startNextConversion (v (s.setPanel x))) :=
    startNextConversion_passed ((k x).conv (by decide))
  have kn : Only [.conv] (v (s.setPanel x)) (startNextConversion (v (s.setPanel x))) :=
    startNextConversion_only (by decide) (Only.refl _ _)
  have hscan := kn.scan (by decide)
  have hsend := kn.sender (by decide)
  rw [conversionComplete_eq (s := s.setPanel x) hc, hv, settle_scanning
    (((k x).mono (by decide)).trans (kn.mono (by decide))) (by rw [hscan]; exact hl x) (by rw [hsend]; exact (hz x).1)
    (by rw [hsend]; exact (hz x).2)] at e
  exact ⟨_, x, y, congrArg Host.Outcome.next e, ⟨hp.photo, hp.therm, hp.free⟩, rfl⟩

/-- A front entry that becomes ready, as an event (R42, R49, R88). -/
theorem offering_event {s : State} {r : BitVec 12} {c : ConvSource} {w : WaitEntry} {ready stuck : List WaitEntry}
    {k : Scanner} (hc : s.conv.current = some c)
    (hv : ∀ x, handResult r.toNat (s.setPanel x) = offering (w :: ready) stuck k (s.setPanel x))
    (hk : k.state = s.scan.state) (hd : k.signalDue = s.scan.signalDue) :
    ∃ t, exec (.conversionComplete r) s = .next t ∧ (Only [.scan, .store, .conv, .sender, .panel] s t ∧ Passed s t ∧
      t.store = offeredStore (w :: ready) s.store ∧
      t.sender = pacedSender (offeredStore (w :: ready) s.store).entries.length s.sender) ∧
      t.scan = { k with waiting := stuck } := by
  obtain ⟨h1, -, h3⟩ := pacedSender_keeps (offeredStore (w :: ready) s.store).entries.length s.sender
  obtain ⟨t, x, y, e, hp, rfl⟩ := conversion_event (v := offering (w :: ready) stuck k) hc hv
    (fun x => offering_only _ _ _ (by decide) (by decide) (by decide) (Only.refl _ _))
    (fun x => by
      show k.lit = _
      rw [Scanner.lit, Scanner.lit, hk, hd]) (fun x => ⟨h1, h3⟩)
  have kn : Only [.conv] (offering (w :: ready) stuck k (s.setPanel x))
      (startNextConversion (offering (w :: ready) stuck k (s.setPanel x))) :=
    startNextConversion_only (by decide) (Only.refl _ _)
  exact ⟨_, e, ⟨Only.panels x y (by decide) ((offering_only (ps := [.scan, .store, .conv, .sender, .panel]) _ _ _
    (by decide) (by decide) (by decide) (Only.refl _ _)).trans (kn.mono (by decide))), hp, kn.store (by decide),
    kn.sender (by decide)⟩, kn.scan (by decide)⟩

/-- A discarded result as an event (R50). -/
theorem discarded_event {s : State} {r : BitVec 12} {use : PhotoUse} (hc : s.conv.current = some (.photocell use true)) :
    ∃ t, exec (.conversionComplete r) s = .next t ∧ Only [.conv, .panel] s t ∧ Passed s t := by
  obtain ⟨t, x, y, e, hp, rfl⟩ := conversion_event (v := id) (r := r) hc (fun x => handResult_discarded hc)
    (fun x => Only.refl _ _) (fun x => rfl) (fun x => ⟨rfl, rfl⟩)
  exact ⟨_, e, Only.panels x y (by decide) (startNextConversion_only (by decide) (Only.refl _ _)), hp⟩

/-- Settles O21: the three results of a photocell conversion, and an offer to a store with and without a place. -/
theorem conversionGoesOut : Obligations.ConversionGoesOut := by
  refine ⟨fun s r => ⟨fun use hc => discarded_event hc, fun e ready stuck hw hr hs hsig =>
    ⟨fun l hc hl he hrun hlast => ?_, fun hc hl he => ?_⟩⟩, fun e x => ⟨offerEntry_full, offerEntry_uncarried, fun hx hcr => ?_⟩⟩
  · have hfront : (({ e with white := false } : WaitEntry).entry) = ⟨e.kind, l, e.first⟩ := by
      rw [WaitEntry.entry, hl]; rfl
    obtain ⟨t, ex, ⟨k, hp, hst, hz⟩, hsc⟩ := offering_event (r := r) (w := { e with white := false }) (ready := ready)
      (stuck := stuck) (k := { s.scan with whiteSum := s.scan.whiteSum + r.toNat, whiteCount := s.scan.whiteCount + 1 }) hc
      (fun x => (handResult_white (s := s.setPanel x) hc).trans
        (takeWhite_offers (s := s.setPanel x) hw hr hs hl he hrun hlast)) rfl rfl
    rw [offeredStore, List.foldl_cons, hfront] at hst hz
    exact ⟨t, ex, ⟨k, hp, hst, hz⟩, hsc⟩
  · obtain ⟨t, ex, ⟨k, hp, hst, hz⟩, hsc⟩ := offering_event (r := r)
      (w := { e with level := some (tonePath s r.toNat) }) (ready := ready) (stuck := stuck) (k := s.scan) hc
      (fun x => (handResult_picture (s := s.setPanel x) hc).trans
        (takePicture_offers (s := s.setPanel x) hw hr hs hl he hsig)) rfl rfl
    exact ⟨t, ex, ⟨k, hp, hst, hz⟩, hsc⟩
  · rw [offerEntry_room hx, hcr, if_pos rfl, placeMark_eq]

end Sys2Proof.Machine

/-! ## The attempt under a turning drum -/

namespace Sys2Proof.Machine

/-! ### An attempt that goes on -/

/-- The attempt of `s` goes on in `t`: of the picture table its attempt record alone may differ. -/
structure GoesOn (s t : State) : Prop extends SamePlan s t where
  state : onDrumState t = onDrumState s
  slot : t.pics.onDrum = s.pics.onDrum
  order : t.pics.finishOrder = s.pics.finishOrder

namespace GoesOn
variable {s t u : State}

theorem of_pics (hp : t.pics = s.pics) (ht : t.tables = s.tables) (hz : t.sender.port = s.sender.port) : GoesOn s t where
  toSamePlan := SamePlan.of_pics hp ht hz
  state := onDrumState_congr hp
  slot := by rw [hp]
  order := by rw [hp]

theorem of_only {ps : List Part} (k : Only ps s t) (h : ∀ p ∈ [Part.pics, .tables, .sender], p ∉ ps) : GoesOn s t :=
  of_pics (k.pics (h _ (by decide))) (k.tables (h _ (by decide))) (by rw [k.sender (h _ (by decide))])

theorem refl (s : State) : GoesOn s s := of_pics rfl rfl rfl

theorem trans (h : GoesOn s t) (k : GoesOn t u) : GoesOn s u where
  toSamePlan := h.toSamePlan.trans k.toSamePlan
  state := k.state.trans h.state
  slot := k.slot.trans h.slot
  order := k.order.trans h.order

theorem inProgress (h : GoesOn s t) : attemptInProgress t = attemptInProgress s := by
  rw [attemptInProgress, attemptInProgress, h.state]

end GoesOn

/-- A change of the attempt record leaves the attempt going on. -/
theorem modAttempt_goesOn (f : Attempt → Attempt) (s : State) : GoesOn s (modAttempt f s) := by
  have k : Only [.pics] s (modAttempt f s) := modAttempt_only _ (by decide) (Only.refl _ _)
  cases ho : s.pics.onDrum with
  | none =>
    rw [modAttempt, modOnDrum, ho]
    exact GoesOn.refl s
  | some slot =>
    cases hr : s.rec? slot with
    | none =>
      have e : onDrumRec s = none := by rw [onDrumRec, ho]; exact hr
      have e' : onDrumRec (modAttempt f s) = none := by
        have hm := rec?_modRec slot (fun r => { r with attempts := r.attempts.modify (r.attempts.length - 1) f }) s
        rw [hr] at hm
        rw [modAttempt_eq ho]
        exact (congrArg (Option.bind · _) (show (modRec slot _ s).pics.onDrum = some slot from ho)).trans hm
      refine ⟨⟨k.tables (by decide), ?_, ?_, by rw [k.sender (by decide)]⟩, ?_, ?_, ?_⟩
      · rw [standardNumber, standardNumber, onDrumGrant, onDrumGrant, e, e']
      · rw [onDrumLines, onDrumLines, e, e']
      · rw [onDrumState, onDrumState, e, e']
      · rw [modAttempt_eq ho]; rfl
      · rw [modAttempt_eq ho]; rfl
    | some r =>
      obtain ⟨h1, h2⟩ := modAttempt_standard (f := f) ho hr
      obtain ⟨k1, k2, -⟩ := modAttempt_keeps (f := f) ho hr
      refine ⟨⟨k.tables (by decide), h1, ?_, by rw [k.sender (by decide)]⟩, h2, k1.trans ho.symm, k2⟩
      rw [onDrumLines, onDrumLines, modAttempt_eq ho, onDrumRec_modRec ho hr, onDrumRec_of ho hr]
      rfl

theorem countLockLost_goesOn (s : State) : GoesOn s (countLockLost s) := by
  unfold countLockLost
  split
  · exact modAttempt_goesOn _ _
  · exact GoesOn.refl s

theorem countHeadLate_goesOn (s : State) : GoesOn s (countHeadLate s) := by
  unfold countHeadLate
  split
  · exact modAttempt_goesOn _ _
  · exact GoesOn.refl s

/-! ### The evaluations while the attempt goes on -/

/-- While the attempt goes on, with the drum where it was or turning, the evaluations reach the lamp alone. -/
theorem settle_going {s0 v : State} (h0 : attemptInProgress s0 = true) (h : GoesOn s0 v)
    (k : Only [.enc, .drum, .reg, .pics, .scan, .store, .conv, .head, .sender] s0 v)
    (hd : v.drum = s0.drum ∨ v.drum.state = .tracking ∨ v.drum.state = .locked)
    (hq : lineupReady v = true → lineupReady s0 = true) : settle s0 v = lampEval s0 v := by
  have hs0 := (attemptInProgress_iff s0).1 h0
  have hv : onDrumState v = .sending := h.state.trans hs0
  have hport : ∀ p, v.port p = s0.port p := fun p => k.port p (by cases p <;> decide)
  have hdrive : drumEval s0 (standardEval s0 v) = v := by
    rw [standardEval_eq (Or.inl h.key.symm)]
    rcases hd with hd | hd
    · exact drumEval_same (demand_congr (by rw [hd]) h.state).symm (by rw [hd]) (by rw [k.pins (by decide)])
    · exact drumEval_eq (evaluateDemand_demanded (by simp [demand, hv]) (Or.inr hd))
  refine settle_drive (fun p => by rw [hport]) (fun hn => ?_) hdrive (fun _ hg => nomatch hv.symm.trans hg) (fun ha => ?_) hq
  · rw [noPortLeft_of_not_granted (by rw [hv]; decide)] at hn
    exact nomatch hn
  · obtain ⟨l, e⟩ := lampEval_lamp s0 v
    rw [e] at ha
    exact nomatch hv.symm.trans (attemptReady_granted' ha).1

/-- The same with the lamp's demand as it was. -/
theorem settle_going_lit {s0 v : State} (h0 : attemptInProgress s0 = true) (h : GoesOn s0 v)
    (k : Only [.enc, .drum, .reg, .pics, .scan, .store, .conv, .head, .sender] s0 v)
    (hd : v.drum = s0.drum ∨ v.drum.state = .tracking ∨ v.drum.state = .locked)
    (hq : lineupReady v = true → lineupReady s0 = true) (hl : lampDemand v = lampDemand s0) : settle s0 v = v := by
  rw [settle_going h0 h k hd hq, lampEval_eq hl]

/-- A sender that carries the attempt starts no line-up. -/
theorem lineupReady_sending {s : State} (h : s.sender.state.sendingAttempt = true) : lineupReady s = false :=
  lineupReady_of_busy fun hf => by rw [hf] at h; exact nomatch h

/-! ### A good index pulse under a turning drum (R2, R4, R12) -/

/-- What the counter and the drive leave of a good index pulse with the attempt going on. -/
structure Turned (s v : State) : Prop extends GoesOn s v where
  frame : Only [.enc, .drum, .reg, .pics] s v
  pos : v.enc.pos = 0
  turns : v.drum.state = .tracking ∨ v.drum.state = .locked
  late : ∀ slot, tally (·.headLate) v slot = tally (·.headLate) s slot

theorem windowPeriod_eq (prev cur : Tick) : windowPeriod prev cur = min (cur - prev).toNat 1048575 := by
  unfold windowPeriod
  dsimp only
  split <;> omega

/-- A regulated window before the 32nd unlocked one (R12). -/
theorem windowEvent_goesOn {s : State} {period : Nat} (ha : attemptInProgress s = true)
    (hd : s.drum.state = .tracking ∨ s.drum.state = .locked) (hp : (standardInForce s).w ≤ 2 * period)
    (hn : s.drum.unlocked < 31) : GoesOn s (windowEvent period s) ∧ Only [.drum, .reg, .pics] s (windowEvent period s) ∧
      ((windowEvent period s).drum.state = .tracking ∨ (windowEvent period s).drum.state = .locked) ∧
      ∀ slot, tally (·.headLate) (windowEvent period s) slot = tally (·.headLate) s slot := by
  rw [windowEvent_regulated hd hp]
  have kr := regulated_only period s
  have kd : Only [.drum, .reg] s (decideLock (eRawOf period s) (regulated period s)) :=
    decideLock_only _ (by decide) (by decide) kr
  have hrd : (regulated period s).drum.state = s.drum.state := rfl
  have hgo : GoesOn s (decideLock (eRawOf period s) (regulated period s)) := GoesOn.of_only kd (by decide)
  by_cases hst : StaysUnlocked (eRawOf period s) (regulated period s)
  · obtain ⟨g, e⟩ := decideLock_stays hst
    generalize decideLock (eRawOf period s) (regulated period s) = w at e kd hgo
    have hwd : w.drum.state = .tracking := by rw [e]; rfl
    have hwn : w.drum.unlocked = s.drum.unlocked := by rw [e]; rfl
    have ku : Only [.drum, .pics] w (unlockedOnce w) :=
      countLockLost_only (by decide) (setDrum_only _ (by decide) (Only.refl _ _))
    have kc : Only [.pics] (w.setDrum { w.drum with unlocked := w.drum.unlocked + 1 }) (unlockedOnce w) :=
      countLockLost_only (by decide) (Only.refl _ _)
    rw [countUnlocked_tracking ((attemptInProgress_iff w).1 (hgo.inProgress.trans ha)) hwd, if_neg (by omega)]
    have hset : GoesOn w (w.setDrum { w.drum with unlocked := w.drum.unlocked + 1 }) := GoesOn.of_pics rfl rfl rfl
    refine ⟨hgo.trans (hset.trans (countLockLost_goesOn _)),
      (kd.mono (by decide)).trans (ku.mono (by decide)), Or.inl (by rw [kc.drum (by decide)]; exact hwd), fun slot => ?_⟩
    refine Eq.trans ?_ (tally_congr (t := w) (s := s) (congrArg PicTable.records (kd.pics (by decide))))
    unfold unlockedOnce countLockLost
    split
    · exact tally_modAttempt fun _ => rfl
    · rfl
  · obtain ⟨g, n, e, -⟩ := decideLock_locks (by rw [hrd]; exact hd) hst
    have hwd : (decideLock (eRawOf period s) (regulated period s)).drum.state = .locked := by rw [e]; rfl
    rw [countUnlocked_locked hwd]
    exact ⟨hgo, kd.mono (by decide), Or.inr hwd, fun slot => tally_congr (congrArg PicTable.records (kd.pics (by decide)))⟩

theorem QuietIndex.turned {s : State} (h : QuietIndex s) : Turned s (boundaryAt 0 (checkIndex s)) := by
  rw [checkIndex_good h.good]
  have hf : s.enc.indexFound = true := h.good.1
  have k0 : Only [.enc] s (s.setEnc { s.enc with pos := 0, slipRun := 0 }) := setEnc_only _ (by decide) (Only.refl _ _)
  by_cases hb : s.enc.lastBoundary = some 0
  · have e : boundaryAt 0 (s.setEnc { s.enc with pos := 0, slipRun := 0 }) = s.setEnc { s.enc with pos := 0, slipRun := 0 } :=
      if_neg fun hc => hc.2 hb
    rw [e]
    exact ⟨GoesOn.of_only k0 (by decide), k0.mono (by decide), rfl, h.turns, fun _ => rfl⟩
  · obtain ⟨prev, hc, hp, hn⟩ := h.window.resolve_left hb
    let e : Encoder := { s.enc with
      pos := 0, slipRun := 0, prevCap := some prev, curCap := some s.now, lastBoundary := some 0 }
    have hw : boundaryAt 0 (s.setEnc { s.enc with pos := 0, slipRun := 0 }) =
        windowEvent (min (s.now - prev).toNat 1048575) (s.setEnc e) := by
      refine (if_pos ⟨hf, hb⟩).trans ?_
      unfold takeBoundary
      dsimp only [State.setEnc_enc]
      rw [hc]
      dsimp only
      rw [windowPeriod_eq]
      rfl
    obtain ⟨hgo, k, hturn, hlate⟩ := windowEvent_goesOn (s := s.setEnc e) (period := min (s.now - prev).toNat 1048575)
      h.attempt h.turns hp hn
    rw [hw]
    exact ⟨(GoesOn.of_only (setEnc_only (ps := [.enc]) _ (by decide) (Only.refl _ _)) (by decide)).trans hgo,
      (setEnc_only _ (by decide) (Only.refl _ _)).trans (k.mono (by decide)), by rw [k.enc (by decide)]; rfl, hturn, hlate⟩

end Sys2Proof.Machine

/-! ## Samples -/

namespace Sys2Proof.Machine

/-! ### What the offers leave of scanner and sender -/

/-- Of the sender the offers move the cadence and its accumulator alone. -/
def SenderPaced (z z' : Sender) : Prop := ∃ c a, z' = { z with cadenceOn := c, acc := a }

theorem SenderPaced.refl (z : Sender) : SenderPaced z z := ⟨z.cadenceOn, z.acc, rfl⟩

theorem SenderPaced.trans {x y z : Sender} (h : SenderPaced x y) (k : SenderPaced y z) : SenderPaced x z := by
  obtain ⟨_, _, rfl⟩ := h
  obtain ⟨c, a, rfl⟩ := k
  exact ⟨c, a, rfl⟩

theorem SenderPaced.state {x y : Sender} (h : SenderPaced x y) :
    y.state = x.state ∧ y.port = x.port ∧ y.lineupReq = x.lineupReq := by
  obtain ⟨_, _, rfl⟩ := h
  exact ⟨rfl, rfl, rfl⟩

theorem pacedSender_paces (fill : Nat) (z : Sender) : SenderPaced z (pacedSender fill z) := by
  unfold pacedSender
  split
  · exact ⟨_, _, rfl⟩
  · exact SenderPaced.refl z

theorem offerList_paces (ws : List WaitEntry) (s : State) : SenderPaced s.sender (offerList ws s).sender := by
  induction ws generalizing s with
  | nil => exact SenderPaced.refl _
  | cons w rest ih =>
    rw [offerList]
    split
    · refine SenderPaced.trans ?_ (ih _)
      rw [storeOffer_eq]
      exact pacedSender_paces _ _
    · exact SenderPaced.refl _

/-! ### A sample (R40, R41) -/

/-- The converter with one more request of the photocell (R49). -/
def askedConv (use : PhotoUse) (c : Converter) : Converter :=
  match c.current with
  | none => { c with current := some (.photocell use false) }
  | some _ => { c with photoWaiting := c.photoWaiting ++ [use] }

theorem requestPhoto_eq (use : PhotoUse) (s : State) : requestPhoto use s = s.setConv (askedConv use s.conv) := by
  cases h : s.conv.current with
  | none => rw [requestPhoto, askedConv, h]
  | some c => simp [requestPhoto, askedConv, h]

/-- The converter with the requests of an entry. -/
def sampleConv (e : WaitEntry) (c : Converter) : Converter :=
  let c := if e.level = none then askedConv .picture c else c
  if e.white then askedConv .white c else c

theorem sampleEntry_white (s : State) (k : Nat) :
    (sampleEntry s k).white = inPatch s.tables.scan (samplePos s k) := by
  unfold sampleEntry
  dsimp only
  repeat' split
  all_goals rfl

theorem takeSample_eq (k : Nat) (s : State) : takeSample k s =
    offerReady ((s.setScan { s.scan with waiting := s.scan.waiting ++ [sampleEntry s k], k := k + 1 }).setConv
      (sampleConv (sampleEntry s k) s.conv)) := by
  unfold takeSample sampleConv
  simp only [requestPhoto_eq, sampleEntry_white]
  by_cases hl : (sampleEntry s k).level = none
  · cases hw : inPatch s.tables.scan (samplePos s k) <;>
      simp only [hl, hw, if_true, State.setConv_tables, State.setScan_tables] <;> rfl
  · cases hw : inPatch s.tables.scan (samplePos s k) <;> simp only [hl, hw, if_true, if_false, State.setScan_tables] <;> rfl

/-- What a sample leaves besides the store and the converter. -/
theorem takeSample_frame (k : Nat) (s : State) : Only [.scan, .conv, .store, .sender] s (takeSample k s) ∧
    (∃ w, (takeSample k s).scan = { s.scan with waiting := w, k := k + 1 }) ∧
    SenderPaced s.sender (takeSample k s).sender := by
  rw [takeSample_eq]
  generalize hu : (s.setScan { s.scan with waiting := s.scan.waiting ++ [sampleEntry s k], k := k + 1 }).setConv
    (sampleConv (sampleEntry s k) s.conv) = u
  have ku : Only [.scan, .conv] s u := hu ▸ setConv_only _ (by decide) (setScan_only _ (by decide) (Only.refl _ _))
  have hscan : u.scan = { s.scan with waiting := s.scan.waiting ++ [sampleEntry s k], k := k + 1 } := hu ▸ rfl
  obtain ⟨w, hw⟩ := offerReady_scan u
  refine ⟨offerReady_only (by decide) (by decide) (by decide) (ku.mono (by decide)), ⟨w, by rw [hw, hscan]⟩, ?_⟩
  exact (ku.sender (by decide)) ▸ offerList_paces u.scan.waiting u

theorem takeSample_goesOn (k : Nat) (s : State) : GoesOn s (takeSample k s) := by
  obtain ⟨h, -, hz⟩ := takeSample_frame k s
  exact GoesOn.of_pics (h.pics (by decide)) (h.tables (by decide)) hz.state.2.1

/-- A sample whose entry is ready is offered at once (R42). -/
theorem takeSample_offered {k : Nat} {s : State} (hw : s.scan.waiting = []) (hwh : (sampleEntry s k).white = false)
    (hl : (sampleEntry s k).level ≠ none) :
    takeSample k s = offering [sampleEntry s k] [] { s.scan with k := k + 1 } s := by
  have hc : sampleConv (sampleEntry s k) s.conv = s.conv := by rw [sampleConv, if_neg hl, hwh]; rfl
  have h := offerReady_offering (s := s) (w := sampleEntry s k) (ready := []) (stuck := []) { s.scan with k := k + 1 }
    (fun v hv => by rw [List.mem_singleton.1 hv]; exact ⟨hwh, hl⟩) (fun v hv => nomatch hv)
  rw [takeSample_eq, hc, hw]
  exact h

/-- A sample whose entry needs a conversion waits, behind what waits already (R42). -/
theorem takeSample_waits {k : Nat} {s : State}
    (h : ∀ x ∈ (s.scan.waiting ++ [sampleEntry s k]).take 1, x.white = true ∨ x.level = none) : takeSample k s =
      (s.setConv (sampleConv (sampleEntry s k) s.conv)).setScan
        { s.scan with waiting := s.scan.waiting ++ [sampleEntry s k], k := k + 1 } := by
  rw [takeSample_eq]
  exact offerList_stuck _ h

/-- The request of a white-patch reading to a free converter. -/
theorem sampleConv_white {e : WaitEntry} {c : Converter} (hl : e.level ≠ none) (hw : e.white = true)
    (hc : c.current = none) : sampleConv e c = { c with current := some (.photocell .white false) } := by
  rw [sampleConv, if_neg hl, if_pos hw, askedConv, hc]

theorem sampleConv_picture {e : WaitEntry} {c : Converter} (hl : e.level = none) (hw : e.white = false)
    (hc : c.current = none) : sampleConv e c = { c with current := some (.photocell .picture false) } := by
  have e : askedConv .picture c = { c with current := some (.photocell .picture false) } := by rw [askedConv, hc]
  rw [sampleConv, if_pos hl, hw, e]
  rfl

/-! ### The entry of a sample (R41) -/

theorem sampleEntry_phasing {s : State} {k : Nat} (h : s.scan.rev ≤ (carryingLine s).nPhase) : sampleEntry s k =
    ⟨.phasing, some (phasingLevel (carryingLine s) (samplePos s k)), decide (k = 0),
      inPatch s.tables.scan (samplePos s k)⟩ :=
  if_pos (decide_eq_true h)

theorem sampleEntry_window {s : State} {k : Nat} (h : ¬ s.scan.rev ≤ (carryingLine s).nPhase)
    (hw : inWindow s.tables.scan (samplePos s k) = true) : sampleEntry s k =
      ⟨.picture, none, decide (k = 0), inPatch s.tables.scan (samplePos s k)⟩ :=
  (if_neg (by simpa [phasingRevolution] using h)).trans (if_pos hw)

theorem sampleEntry_outside {s : State} {k : Nat} (h : ¬ s.scan.rev ≤ (carryingLine s).nPhase)
    (hw : inWindow s.tables.scan (samplePos s k) = false) : sampleEntry s k =
      if k = 0 then ⟨.picture, some (carryingLine s).gapLevel, true, inPatch s.tables.scan (samplePos s k)⟩
      else ⟨.gap, some (carryingLine s).gapLevel, false, inPatch s.tables.scan (samplePos s k)⟩ :=
  (if_neg (by simpa [phasingRevolution] using h)).trans (if_neg (by simp [hw]))

theorem inWindow_iff {sc : ScanProfile} {p : Nat} : inWindow sc p = true ↔ sc.windowStart ≤ p ∧ p < sc.windowEnd := by
  simp [inWindow]

theorem inPatch_iff {sc : ScanProfile} {p : Nat} : inPatch sc p = true ↔ sc.whiteStart ≤ p ∧ p < sc.whiteEnd := by
  simp [inPatch]

/-- The entry of a sample that needs no level of the tone path, after the first of its revolution. -/
def plainEntry (s : State) (p : Nat) : Entry :=
  if s.scan.rev ≤ (carryingLine s).nPhase then ⟨.phasing, phasingLevel (carryingLine s) p, false⟩
  else ⟨.gap, (carryingLine s).gapLevel, false⟩

theorem sampleEntry_plain {s : State} {k : Nat} (hk : 1 ≤ k)
    (h : s.scan.rev ≤ (carryingLine s).nPhase ∨ inWindow s.tables.scan (samplePos s k) = false) : sampleEntry s k =
      ⟨(plainEntry s (samplePos s k)).kind, some (plainEntry s (samplePos s k)).level, false,
        inPatch s.tables.scan (samplePos s k)⟩ := by
  have hk0 : k ≠ 0 := by omega
  by_cases hp : s.scan.rev ≤ (carryingLine s).nPhase
  · rw [sampleEntry_phasing hp, plainEntry, if_pos hp, decide_eq_false hk0]
  · rw [sampleEntry_outside hp (h.resolve_left hp), plainEntry, if_neg hp, if_neg hk0]

/-! ### A count onto a sample position (R40) -/

/-- The state with a forward count short of the end of the revolution (R1). -/
def countedOn (s : State) : State := s.setEnc { s.enc with pos := s.enc.pos + 1, reverseRun := 0 }

theorem countForward_on {s : State} (hp : s.enc.pos + 1 < 8192) (hb : (s.enc.pos + 1) % 512 ≠ 0) :
    countForward s = countedOn s := by
  rw [countForward_still (by omega) (Or.inr (Or.inl hb)), Nat.mod_eq_of_lt hp]
  rfl

theorem encoderCount_on {s : State} (hp : s.enc.pos + 1 < 8192) (hb : (s.enc.pos + 1) % 512 ≠ 0) :
    encoderCount .forward s =
      headAtCount (runRevolution s) (s.enc.pos + 1) (scannerAtCount (s.enc.pos + 1) (countedOn s)) := by
  show headAtCount (runRevolution (countForward s)) (countForward s).enc.pos
    (scannerAtCount (countForward s).enc.pos (countForward s)) = _
  rw [countForward_on hp hb]
  rfl

/-- A count that starts no burst is left the check at window_start (R53). -/
theorem headAtCount_unburst {rev pos : Nat} {s : State}
    (h : ¬ (pos = s.tables.scan.windowEnd ∧ burstRevolution s rev = true)) : headAtCount rev pos s =
      if pos = s.tables.scan.windowStart ∧ pos ≠ 0 ∧ lateRevolution s rev = true then checkHeadLate s else s := by
  unfold headAtCount
  dsimp only
  rw [if_neg h]

theorem headAtCount_away {rev pos : Nat} {s : State} (he : pos ≠ s.tables.scan.windowEnd)
    (hs : pos ≠ s.tables.scan.windowStart) : headAtCount rev pos s = s := by
  rw [headAtCount_unburst fun h => he h.1, if_neg fun h => hs h.1]

/-- A sample short of the revolution's last. -/
theorem scannerAtCount_takes {pos : Nat} {s : State} (hr : s.scan.state = .running) (h1 : 1 ≤ s.scan.k)
    (h2 : s.scan.k + 1 < samplesPerRev s) (hp : pos = samplePos s s.scan.k) :
    scannerAtCount pos s = takeSample s.scan.k s := by
  obtain ⟨-, ⟨w, hw⟩, -⟩ := takeSample_frame s.scan.k s
  have hlast : lastSampleTaken (takeSample s.scan.k s) = false := by
    rw [lastSampleTaken, (takeSample_goesOn s.scan.k s).samples, hw]
    simp only [Bool.and_eq_false_iff, decide_eq_false_iff_not]
    exact Or.inr (by omega)
  refine (if_pos ⟨hr, h1, by omega, hp⟩).trans (if_neg fun h => ?_)
  rw [hlast] at h
  exact nomatch h.2.1

/-! ### O24 -/

/-- The sample of `SampleAt` as an event, with the evaluations at its end. -/
theorem sample_event {s : State} {k : Nat} (h : SampleAt s k) {P : State → Prop}
    (hP : ∀ x y, P ((takeSample k (countedOn (s.setPanel x))).setPanel y)) :
    ∃ t, exec (.encoderCount .forward) s = .next t ∧ P t := by
  obtain ⟨hk, h1, h2⟩ := h.next
  subst hk
  refine event_to (u := fun x => takeSample s.scan.k (countedOn (s.setPanel x))) (f := encoderCount .forward) rfl
    (fun x => ?_) hP
  obtain ⟨kf, ⟨w, hw⟩, hz⟩ := takeSample_frame s.scan.k (countedOn (s.setPanel x))
  have hgo := takeSample_goesOn s.scan.k (countedOn (s.setPanel x))
  have e : encoderCount .forward (s.setPanel x) = takeSample s.scan.k (countedOn (s.setPanel x)) := by
    rw [encoderCount_on (s := s.setPanel x) h.pos.2 h.boundary, State.setPanel_enc,
      scannerAtCount_takes (s := countedOn (s.setPanel x)) h.running h1 h2 h.pos.1]
    exact headAtCount_away (s := takeSample s.scan.k (countedOn (s.setPanel x)))
      (by rw [hgo.tables]; exact h.edges.2) (by rw [hgo.tables]; exact h.edges.1)
  rw [e]
  exact settle_scanning ((setEnc_only (ps := [.enc, .scan, .store, .conv, .sender]) _ (by decide) (Only.refl _ _)).trans
    (kf.mono (by decide))) (by rw [hw]; rfl) hz.state.1 hz.state.2.2

/-- Settles O24: the sample that is offered at once, the one that waits for its white-patch reading, and the one that waits
for its level. -/
theorem samplesTaken : Obligations.SamplesTaken := by
  intro s k h hc
  refine sample_event h fun x y => ?_
  obtain ⟨hk, h1, -⟩ := h.next
  subst hk
  obtain ⟨hroom, hcarry⟩ := h.room
  obtain ⟨kf, ⟨w, hw⟩, -⟩ := takeSample_frame s.scan.k (countedOn (s.setPanel x))
  have hwait : (countedOn (s.setPanel x)).scan.waiting = [] := h.queue.1
  have hpos : samplePos (countedOn (s.setPanel x)) s.scan.k = s.enc.pos + 1 := h.pos.1.symm
  have hplain : s.scan.rev ≤ (carryingLine s).nPhase ∨ ¬ (s.tables.scan.windowStart ≤ s.enc.pos + 1 ∧
      s.enc.pos + 1 < s.tables.scan.windowEnd) → ∀ b, inPatch s.tables.scan (s.enc.pos + 1) = b →
      sampleEntry (countedOn (s.setPanel x)) s.scan.k =
        ⟨(plainEntry s (s.enc.pos + 1)).kind, some (plainEntry s (s.enc.pos + 1)).level, false, b⟩ := fun hp b hb => by
    rw [sampleEntry_plain (s := countedOn (s.setPanel x)) h1 (hp.imp id fun hn => ?_), hpos]
    · exact congrArg _ hb
    · rw [hpos]
      exact Bool.eq_false_iff.2 fun ht => hn (inWindow_iff.1 ht)
  have hnot : ¬ (s.tables.scan.whiteStart ≤ s.enc.pos + 1 ∧ s.enc.pos + 1 < s.tables.scan.whiteEnd) →
      inPatch s.tables.scan (s.enc.pos + 1) = false := fun hn => Bool.eq_false_iff.2 fun ht => hn (inPatch_iff.1 ht)
  have stuck : ∀ e, sampleEntry (countedOn (s.setPanel x)) s.scan.k = e → (e.white = true ∨ e.level = none) →
      takeSample s.scan.k (countedOn (s.setPanel x)) = ((countedOn (s.setPanel x)).setConv (sampleConv e s.conv)).setScan
        { s.scan with waiting := [e], k := s.scan.k + 1 } := fun e he hs => by
    rw [takeSample_waits (by rw [hwait, he]; exact fun v hv => by rw [List.mem_singleton.1 hv]; exact hs), hwait, he]
    rfl
  refine ⟨Only.panels x y (by decide) ((setEnc_only _ (by decide) (Only.refl _ _)).trans (kf.mono (by decide))),
    congrArg Encoder.pos (kf.enc (by decide)), congrArg Scanner.k hw, (congrArg Scanner.state hw).trans h.running,
    fun hp hn => ?_, fun hp hn => ?_, fun hp hin hn => ?_⟩
  · have he := hplain hp false (hnot hn)
    rw [takeSample_offered hwait (by rw [he]) (by rw [he]; exact fun h => nomatch h), he]
    have hst : offeredStore [⟨(plainEntry s (s.enc.pos + 1)).kind, some (plainEntry s (s.enc.pos + 1)).level, false, false⟩]
        s.store = { s.store with
          entries := s.store.entries ++ [plainEntry s (s.enc.pos + 1)], accepted := satInc 4294967295 s.store.accepted } := by
      refine (offerEntry_uncarried hroom hcarry).trans ?_
      rw [plainEntry]
      split <;> rfl
    have hlen := congrArg (fun q : LineStore => q.entries.length) hst
    dsimp only at hlen
    rw [List.length_append, List.length_singleton] at hlen
    refine ⟨rfl, rfl, hst, fun ⟨hs1, hs2, hs3⟩ => ?_, fun hstart => ?_⟩
    · exact (congrArg (pacedSender · s.sender) hlen).trans (if_pos ⟨hs1, hs2, by omega⟩)
    · exact (congrArg (pacedSender · s.sender) hlen).trans
        (if_neg fun ⟨hs1, hs2, hs3⟩ => hstart ⟨hs1, hs2, by omega⟩)
  · have he := hplain hp true (inPatch_iff.2 hn)
    rw [stuck _ he (Or.inl rfl), sampleConv_white (by exact fun h => nomatch h) rfl hc]
    exact ⟨⟨rfl, rfl⟩, rfl, rfl⟩
  · have he : sampleEntry (countedOn (s.setPanel x)) s.scan.k = ⟨.picture, none, false, false⟩ := by
      rw [sampleEntry_window (s := countedOn (s.setPanel x)) hp
        (by rw [hpos]; exact inWindow_iff.2 hin), hpos, decide_eq_false (by omega)]
      exact congrArg _ (hnot hn)
    rw [stuck _ he (Or.inr rfl), sampleConv_picture rfl rfl hc]
    exact ⟨⟨rfl, rfl⟩, rfl, rfl⟩

end Sys2Proof.Machine

/-! ## Revolutions -/

namespace Sys2Proof.Machine

/-! ### The first sample of a revolution (R41, R43) -/

/-- The scanner at the opening of a revolution, before its first sample. -/
def openedScan (rev : Nat) (x : Scanner) : Scanner := { x with rev := rev, k := 0, whiteSum := 0, whiteCount := 0 }

theorem openRevolution_eq (rev : Nat) (s : State) :
    openRevolution rev s = takeSample 0 (s.setScan (openedScan rev s.scan)) := rfl

theorem samplePos_zero (s : State) : samplePos s 0 = 0 := Nat.zero_mul _

theorem inPatch_zero {sc : ScanProfile} : inPatch sc 0 = true ↔ sc.whiteStart = 0 ∧ 0 < sc.whiteEnd := by
  rw [inPatch_iff, Nat.le_zero]

/-- The first sample with a level of its own: offered at once, or waiting for a white patch at position 0. -/
theorem openRevolution_opens {rev : Nat} {s : State} {kind : EntryKind} {level : Nat} (hw : s.scan.waiting = [])
    (he : sampleEntry (s.setScan (openedScan rev s.scan)) 0 = ⟨kind, some level, true, inPatch s.tables.scan 0⟩) :
    (inPatch s.tables.scan 0 = false → openRevolution rev s =
      offering [⟨kind, some level, true, false⟩] [] { openedScan rev s.scan with k := 1 } s) ∧
    (inPatch s.tables.scan 0 = true → openRevolution rev s =
      (s.setConv (sampleConv ⟨kind, some level, true, true⟩ s.conv)).setScan
        { openedScan rev s.scan with k := 1, waiting := [⟨kind, some level, true, true⟩] }) := by
  refine ⟨fun hp => ?_, fun hp => ?_⟩
  · rw [hp] at he
    rw [openRevolution_eq, takeSample_offered (s := s.setScan (openedScan rev s.scan)) hw (by rw [he])
      (by rw [he]; exact fun h => nomatch h), he]
    rfl
  · rw [hp] at he
    rw [openRevolution_eq, takeSample_waits, he]
    · show ((s.setScan _).setConv _).setScan _ = _
      simp only [State.setScan_scan, State.setScan_conv, openedScan, hw]
      rfl
    · rw [he]
      simp only [State.setScan_scan, openedScan, hw]
      exact fun v hv => Or.inl (by rw [List.mem_singleton.1 hv])

/-! ### O23 -/

/-- An index pulse that starts no burst is left the check at window_start (R53). -/
theorem headAtIndex_unburst {closing : Nat} {s : State}
    (h : ¬ (s.scan.state = .running ∧ s.tables.scan.windowEnd = 8192 ∧ burstRevolution s closing = true)) :
    headAtIndex closing s =
      if s.scan.state = .running ∧ s.tables.scan.windowStart = 0 ∧ lateRevolution s s.scan.rev = true then checkHeadLate s
      else s := by
  unfold headAtIndex
  dsimp only
  rw [if_neg h]

theorem scannerAtIndex_armed {s : State} (h : s.scan.state = .armed) :
    scannerAtIndex s = openRevolution 1 (s.setScan { s.scan with state := .running, whiteSet := false }) := by
  rw [scannerAtIndex, h]

/-- A lamp demand with the scanner's end, the drum's cutoff and the head's fault as they were. -/
theorem lampDemand_going {s t : State} (ho : onDrumState t = onDrumState s)
    (hs : t.scan.lit = s.scan.lit)
    (hd : t.drum.state = .cutoff ↔ s.drum.state = .cutoff) (hh : t.head.state = .fault ↔ s.head.state = .fault) :
    lampDemand t = lampDemand s := by
  rw [lampDemand_lit, lampDemand_lit, ho, hs]
  simp only [ne_eq, hd, hh]

theorem cutoff_iff_of_turning {s t : State} (hs : s.drum.state = .tracking ∨ s.drum.state = .locked)
    (ht : t.drum.state = .tracking ∨ t.drum.state = .locked) : t.drum.state = .cutoff ↔ s.drum.state = .cutoff :=
  iff_of_false (fun h => by rcases ht with ht | ht <;> exact nomatch ht.symm.trans h)
    (fun h => by rcases hs with hs | hs <;> exact nomatch hs.symm.trans h)

theorem QuietIndex.setPanel {s : State} (h : QuietIndex s) (x : Panel) : QuietIndex (s.setPanel x) :=
  ⟨h.attempt, h.turns, h.good, h.window⟩

/-- The level of a phasing entry at position 0 (R41). -/
theorem phasingLevel_zero {lp : LineProfile} (h : 0 < lp.phasingWidth) :
    phasingLevel lp 0 = if lp.polarity = .blackOnWhite then 0 else 255 := by
  unfold phasingLevel
  cases lp.polarity with
  | blackOnWhite => exact if_pos h
  | whiteOnBlack => exact if_pos h

/-- A good index pulse under a turning drum as an event: what the scanner and the head make of the turned state, and the
evaluations. -/
theorem index_event {s : State} (h : QuietIndex s) {P : State → Prop}
    (hP : ∀ x v y, Turned (s.setPanel x) v →
      P ((settle (s.setPanel x) (headAtIndex (runRevolution v) (scannerAtIndex v))).setPanel y)) :
    ∃ t, exec .indexPulse s = .next t ∧ P t :=
  event_next (f := indexPulse) rfl fun x y => hP x _ y (h.setPanel x).turned

/-- What the opening of a revolution leaves besides the store and the converter. -/
theorem openRevolution_frame (rev : Nat) (s : State) : Only [.scan, .conv, .store, .sender] s (openRevolution rev s) ∧
    (∃ w, (openRevolution rev s).scan = { openedScan rev s.scan with waiting := w, k := 1 }) ∧
    SenderPaced s.sender (openRevolution rev s).sender := by
  obtain ⟨k, hw, hz⟩ := takeSample_frame 0 (s.setScan (openedScan rev s.scan))
  exact ⟨(setScan_only (ps := [.scan, .conv, .store, .sender]) _ (by decide) (Only.refl _ s)).trans k, hw, hz⟩

theorem openRevolution_goesOn (rev : Nat) (s : State) : GoesOn s (openRevolution rev s) := by
  obtain ⟨k, -, hz⟩ := openRevolution_frame rev s
  exact GoesOn.of_pics (k.pics (by decide)) (k.tables (by decide)) hz.state.2.1

/-- The first sample of a phasing revolution (R41). -/
theorem sampleEntry_opens_phasing {rev : Nat} {s : State} (h : rev ≤ (carryingLine s).nPhase) :
    sampleEntry (s.setScan (openedScan rev s.scan)) 0 =
      ⟨.phasing, some (phasingLevel (carryingLine s) 0), true, inPatch s.tables.scan 0⟩ := by
  have e := sampleEntry_phasing (s := s.setScan (openedScan rev s.scan)) (k := 0) h
  rw [samplePos_zero] at e
  exact e

/-- What the scanner and the head make of a turned state with the attempt going on is left as it is by the evaluations, with
the scanner's end, the head's fault and the line-up as they were. -/
theorem index_settles {s v w : State} (hq : QuietIndex s) (ht : Turned s v) (hgo : GoesOn v w)
    (k : Only [.scan, .store, .conv, .head, .sender, .pics] v w)
    (hs : w.scan.lit = s.scan.lit)
    (hf : w.head.state = .fault ↔ s.head.state = .fault) (hl : lineupReady w = true → lineupReady s = true) :
    settle s w = w := by
  have hturn : w.drum.state = .tracking ∨ w.drum.state = .locked := by rw [k.drum (by decide)]; exact ht.turns
  exact settle_going_lit hq.attempt (ht.toGoesOn.trans hgo) ((ht.frame.mono (by decide)).trans (k.mono (by decide)))
    (Or.inr hturn) hl (lampDemand_going (hgo.state.trans ht.state) hs (cutoff_iff_of_turning hq.turns hturn) hf)

/-- The first sample of a revolution, where it is offered to a store with a place, and short of the cadence's start. -/
theorem openRevolution_offers {rev : Nat} {s : State} {kind : EntryKind} {level : Nat} (hw : s.scan.waiting = [])
    (he : sampleEntry (s.setScan (openedScan rev s.scan)) 0 = ⟨kind, some level, true, inPatch s.tables.scan 0⟩)
    (hfill : s.store.entries.length < 127) (hc : s.store.carry = false) :
    (openRevolution rev s).sender = s.sender ∧
    (inPatch s.tables.scan 0 = false → (openRevolution rev s).store = { s.store with
      entries := s.store.entries ++ [⟨kind, level, true⟩], accepted := satInc 4294967295 s.store.accepted }) := by
  obtain ⟨hoff, hstuck⟩ := openRevolution_opens hw he
  have hst : offeredStore [⟨kind, some level, true, false⟩] s.store = { s.store with
      entries := s.store.entries ++ [⟨kind, level, true⟩], accepted := satInc 4294967295 s.store.accepted } :=
    offerEntry_uncarried (by omega) hc
  have hpaced : pacedSender (offeredStore [⟨kind, some level, true, false⟩] s.store).entries.length s.sender = s.sender := by
    rw [hst]
    refine if_neg fun h => ?_
    have hlen := h.2.2
    rw [List.length_append, List.length_singleton] at hlen
    omega
  cases hp : inPatch s.tables.scan 0 with
  | false => exact ⟨by rw [hoff hp]; exact hpaced, fun _ => by rw [hoff hp]; exact hst⟩
  | true => exact ⟨by rw [hstuck hp]; rfl, fun h => nomatch h⟩

/-- No burst and no late check at the pulse that opens revolution 1. -/
theorem headAtIndex_first {s : State} (h : s.scan.rev = 1) : headAtIndex 0 s = s := by
  rw [headAtIndex_unburst fun hb => ?_, if_neg fun hl => ?_]
  · have hr := hl.2.2
    rw [h, lateRevolution] at hr
    simp at hr
  · simp [burstRevolution] at hb

/-- Settles O23: sample 0 of revolution 1, offered at once or waiting for the white patch. -/
theorem scannerStarts : Obligations.ScannerStarts := by
  intro s hq ha hwait hsig hfill hcarry hn hwidth hend
  refine index_event hq fun x v y ht => ?_
  have hscan : v.scan = s.scan := ht.frame.scan (by decide)
  have hrun : runRevolution v = 0 := runRevolution_off (by rw [hscan, ha]; decide)
  rw [scannerAtIndex_armed (by rw [hscan]; exact ha), hrun, hscan]
  generalize hu : v.setScan { s.scan with state := .running, whiteSet := false } = u
  have ku : Only [.scan] v u := hu ▸ setScan_only _ (by decide) (Only.refl _ _)
  have hus : u.scan = { s.scan with state := .running, whiteSet := false } := hu ▸ rfl
  have hgu : GoesOn v u := GoesOn.of_only ku (by decide)
  obtain ⟨ko, ⟨w, hw⟩, -⟩ := openRevolution_frame 1 u
  have k : Only [.sender, .enc, .drum, .reg, .pics, .scan, .conv, .store] (s.setPanel x) (openRevolution 1 u) :=
    (ht.frame.mono (by decide)).trans ((ku.mono (by decide)).trans (ko.mono (by decide)))
  have hline : carryingLine u = carryingLine s := (ht.toGoesOn.trans hgu).line
  have hstore : u.store = s.store := (ku.store (by decide)).trans (ht.frame.store (by decide))
  have hconv : u.conv = s.conv := (ku.conv (by decide)).trans (ht.frame.conv (by decide))
  have htables : u.tables = s.tables := (ku.tables (by decide)).trans (ht.frame.tables (by decide))
  have hsend : u.sender = s.sender := (ku.sender (by decide)).trans (ht.frame.sender (by decide))
  have hwait' : u.scan.waiting = [] := by rw [hus]; exact hwait
  have he := sampleEntry_opens_phasing (rev := 1) (s := u) (by rw [hline]; exact hn)
  rw [hline, phasingLevel_zero hwidth] at he
  obtain ⟨hsender, hoffered⟩ := openRevolution_offers hwait' he (by rw [hstore]; exact hfill) (by rw [hstore]; exact hcarry)
  obtain ⟨hoff, hstuck⟩ := openRevolution_opens hwait' he
  rw [hstore] at hoffered
  rw [htables] at hoff hstuck hoffered
  have hsender' := hsender.trans hsend
  rw [headAtIndex_first (by rw [hw]; rfl), index_settles (s := s.setPanel x) (hq.setPanel x) ht
    (hgu.trans (openRevolution_goesOn 1 u)) ((ku.mono (by decide)).trans (ko.mono (by decide)))
    (by rw [hw]; show (_ || u.scan.signalDue) = (_ || s.scan.signalDue); rw [hus]; simp [openedScan, ha])
    (by rw [k.head (by decide)])
    (fun h => (lineupReady_congr (s := s.setPanel x) hsender' fun p => by rw [k.port p (by cases p <;> decide)]).symm.trans h)]
  refine ⟨Only.panels x y (by decide) ((k.drop hsender').mono (by decide)),
    (ht.toGoesOn.trans (hgu.trans (openRevolution_goesOn 1 u))).inProgress.trans hq.attempt,
    (((ko.enc (by decide)).trans (ku.enc (by decide))) ▸ ht.pos : (openRevolution 1 u).enc.pos = 0),
    fun hstart => ?_, fun hstart hfree => ?_⟩
  · have hp : inPatch s.tables.scan 0 = false := Bool.eq_false_iff.2 fun h => hstart.ne' (inPatch_zero.1 h).1
    refine ⟨?_, ?_, hoffered hp⟩
    · rw [← hconv, hoff hp]
      rfl
    · rw [hoff hp]
      show ({ openedScan 1 u.scan with k := 1, waiting := [] } : Scanner) = _
      rw [hus, openedScan, ← hwait]
  · have hp : inPatch s.tables.scan 0 = true := inPatch_zero.2 ⟨hstart, hend⟩
    rw [hstuck hp]
    refine ⟨?_, hstore, ?_⟩
    · have hc := sampleConv_white (e := ⟨.phasing, some (if (carryingLine s).polarity = .blackOnWhite then 0 else 255),
        true, true⟩) (c := s.conv) (fun h => nomatch h) rfl hfree
      rw [← hconv] at hc ⊢
      exact hc
    · show ({ openedScan 1 u.scan with k := 1, waiting := [_] } : Scanner) = _
      rw [hus, openedScan]

end Sys2Proof.Machine

/-! ## Closes, bursts and late lines -/

namespace Sys2Proof.Machine

/-! ### The white reference at a close (R43, R47, R48) -/

/-- The scanner after the update at a close or a finish. -/
def whitenedScan (s : State) : Scanner :=
  { s.scan with wRef := closingWhite s, whiteSet := s.scan.whiteSet || decide (0 < s.scan.whiteCount) }

theorem updateWhite_eq (s : State) : updateWhite s = s.setScan (whitenedScan s) := by
  unfold updateWhite whitenedScan closingWhite whiteAfter
  by_cases h : 0 < s.scan.whiteCount
  · rw [if_pos h, if_neg h.ne', decide_eq_true h, Bool.or_true]
  · rw [if_neg h, if_pos (Nat.eq_zero_of_not_pos h), decide_eq_false h, Bool.or_false]
    rfl

/-- A span below 512 after the update. -/
def Dark (s : State) : Prop := 0 < s.scan.whiteCount ∧ closingWhite s < s.tables.scan.darkLevel + 512

theorem dark_iff {s : State} : 0 < s.scan.whiteCount ∧ tooDark (updateWhite s) = true ↔ Dark s := by
  rw [updateWhite_eq, tooDark, decide_eq_true_eq]
  rfl

theorem not_dark {s : State} (h : 0 < s.scan.whiteCount → s.tables.scan.darkLevel + 512 ≤ closingWhite s) : ¬ Dark s :=
  fun ⟨h1, h2⟩ => absurd (h h1) (by omega)

theorem finishAtSample_dark {s : State} (h : Dark s) : finishAtSample s = lampFault (updateWhite s) := if_pos (dark_iff.2 h)

theorem finishAtSample_bright {s : State} (h : ¬ Dark s) : finishAtSample s = finishRun (updateWhite s) :=
  if_neg (mt dark_iff.1 h)

theorem dims_iff {s : State} : Dims s ↔ Dark s ∨ (s.scan.rev = (carryingLine s).nPhase ∧
    (whitenedScan s).whiteSet = false) := by
  refine or_congr Iff.rfl ?_
  simp only [whitenedScan, Bool.or_eq_false_iff, decide_eq_false_iff_not, Nat.not_lt, Nat.le_zero]
  exact ⟨fun ⟨h1, h2, h3⟩ => ⟨h3, h2, h1⟩, fun ⟨h3, h2, h1⟩ => ⟨h1, h2, h3⟩⟩

theorem closeRevolution_dims {s : State} (h : Dims s) : closeRevolution s = lampFault (updateWhite s) := by
  unfold closeRevolution
  dsimp only
  by_cases hd : Dark s
  · rw [if_pos (dark_iff.2 hd)]
  · rw [if_neg (mt dark_iff.1 hd), updateWhite_eq]
    exact if_pos ((dims_iff.1 h).resolve_left hd)

theorem closeRevolution_bright {s : State} (h : ¬ Dims s) : closeRevolution s =
    if lastRevolution s then finishRun (updateWhite s) else openRevolution (s.scan.rev + 1) (updateWhite s) := by
  unfold closeRevolution
  dsimp only
  rw [if_neg (mt dark_iff.1 fun hd => h (dims_iff.2 (Or.inl hd))), updateWhite_eq]
  exact if_neg fun hd => h (dims_iff.2 (Or.inr hd))

theorem closingWhite_congr {s t : State} (h : t.scan = s.scan) : closingWhite t = closingWhite s := by
  rw [closingWhite, closingWhite, h]

/-- The close reads the scanner, the tables and the line profile in use. -/
theorem SamePlan.dims {s t : State} (h : SamePlan s t) (hs : t.scan = s.scan) : Dims t ↔ Dims s := by
  rw [Dims, Dims, closingWhite_congr hs, hs, h.tables, h.line]

theorem lastRevolution_iff {s : State} :
    lastRevolution s = true ↔ s.scan.rev = (carryingLine s).nPhase + onDrumLines s := decide_eq_true_iff

/-! ### A line burst and the late check (R52, R53, R57) -/

/-- The head after a line burst that owes at most 255 steps, its first step within the travel. -/
def burstHead (sc : ScanProfile) (x : Head) : Head :=
  if x.owed = 0 then { x with pos := x.pos + 1, owed := sc.stepsPerLine - 1, stepTimer := some sc.stepInterval }
  else { x with owed := x.owed + sc.stepsPerLine }

theorem burstHead_state (sc : ScanProfile) (x : Head) : (burstHead sc x).state = x.state := by
  unfold burstHead
  split <;> rfl

theorem lineBurst_fits {s : State} (hs : s.head.state = .scanning) (ho : s.head.owed + s.tables.scan.stepsPerLine ≤ 255)
    (hp : s.head.pos < s.tables.scan.travelLimit) : lineBurst s = s.setHead (burstHead s.tables.scan s.head) := by
  unfold lineBurst burstHead
  dsimp only
  rw [if_pos hs, if_neg (by omega)]
  by_cases h0 : s.head.owed = 0
  · have hstep : stepOut (s.setHead { s.head with owed := s.head.owed + s.tables.scan.stepsPerLine }) =
        s.setHead { s.head with pos := s.head.pos + 1, owed := s.head.owed + s.tables.scan.stepsPerLine } :=
      stepOut_within (s := s.setHead { s.head with owed := s.head.owed + s.tables.scan.stepsPerLine }) hp
    rw [if_pos h0, if_pos h0, hstep]
    refine (if_pos (by exact hs)).trans ?_
    show s.setHead { s.head with
      pos := s.head.pos + 1, owed := s.head.owed + s.tables.scan.stepsPerLine - 1, stepTimer := _ } = _
    rw [h0, Nat.zero_add]
    rfl
  · rw [if_neg h0, if_neg h0]

theorem lineBurst_over {s : State} (hs : s.head.state = .scanning) (ho : 255 < s.head.owed + s.tables.scan.stepsPerLine) :
    lineBurst s = raiseHeadFault s := by
  unfold lineBurst
  rw [if_pos hs, if_pos ho]

theorem checkHeadLate_only' (s : State) : Only [.pics] s (checkHeadLate s) :=
  checkHeadLate_only (by decide) (Only.refl _ s)

theorem checkHeadLate_goesOn (s : State) : GoesOn s (checkHeadLate s) := by
  unfold checkHeadLate
  split
  · exact countHeadLate_goesOn s
  · exact GoesOn.refl s

theorem checkHeadLate_still {s : State} (h : s.head.state ≠ .scanning) : checkHeadLate s = s := if_neg fun hc => h hc.1

theorem checkHeadLate_unowed {s : State} (h : s.head.owed = 0) : checkHeadLate s = s := if_neg fun hc => by omega

/-- A late line of the attempt in progress (R53, R145). -/
theorem checkHeadLate_counts {s : State} {slot n : Nat} (hs : s.head.state = .scanning) (ho : 1 ≤ s.head.owed)
    (hp : attemptInProgress s = true) (hd : s.pics.onDrum = some slot) (hn : tally (·.headLate) s slot = some n) :
    tally (·.headLate) (checkHeadLate s) slot = some (satInc 65535 n) := by
  obtain ⟨r, hr, hm⟩ := Option.bind_eq_some_iff.1 hn
  obtain ⟨a, ha, rfl⟩ := Option.map_eq_some_iff.1 hm
  rw [checkHeadLate, if_pos ⟨hs, ho⟩, countHeadLate, if_pos hp]
  exact tally_modAttempt_last hd hr ha

/-- A count onto window_end in a picture revolution but the last, away from window_start (R52). -/
theorem headAtCount_end {rev pos : Nat} {s : State} (he : pos = s.tables.scan.windowEnd)
    (hw : s.tables.scan.windowStart ≠ s.tables.scan.windowEnd) (hb : burstRevolution s rev = true)
    (ht : (lineBurst s).tables.scan = s.tables.scan) : headAtCount rev pos s = lineBurst s := by
  unfold headAtCount
  dsimp only
  rw [if_pos (c := _ ∧ _) ⟨he, hb⟩, ht]
  exact if_neg fun hc => hw (hc.1.symm.trans he)

/-- A burst at a count or at the index pulse is made first, a late check after it. -/
theorem headAtCount_bursts {rev pos : Nat} {s : State} (he : pos = s.tables.scan.windowEnd)
    (hb : burstRevolution s rev = true) :
    headAtCount rev pos s = lineBurst s ∨ headAtCount rev pos s = checkHeadLate (lineBurst s) := by
  unfold headAtCount
  dsimp only
  rw [if_pos (c := pos = s.tables.scan.windowEnd ∧ _) ⟨he, hb⟩]
  split
  · exact Or.inr rfl
  · exact Or.inl rfl

theorem headAtIndex_bursts {closing : Nat} {s : State} (hr : s.scan.state = .running)
    (he : s.tables.scan.windowEnd = 8192) (hb : burstRevolution s closing = true) :
    headAtIndex closing s = lineBurst s ∨ headAtIndex closing s = checkHeadLate (lineBurst s) := by
  unfold headAtIndex
  dsimp only
  rw [if_pos (c := s.scan.state = .running ∧ s.tables.scan.windowEnd = 8192 ∧ _) ⟨hr, he, hb⟩]
  split
  · exact Or.inr rfl
  · exact Or.inl rfl

/-- The end of the attempt in progress with a sender that carries it (R93, R146). -/
theorem attemptEnd_endedAs_of {o : AttemptOutcome} {c : FailCause} {u : State} {slot : Nat} (hf : Finishing o .failed c)
    (hne : o ≠ .line) (hu : u.pics.onDrum = some slot) (hsu : onDrumState u = .sending)
    (hz : u.sender.state.sendingAttempt = true) : EndedAs slot o c u (attemptEnd o u) where
  ended := attemptEnd_ended hne (decide_eq_true hsu) hz
  finished := attemptEnd_finishes hf hu hsu
  state := attemptEnd_onDrumState hf hu hsu
  cause p := ((attemptEnd_ends (outcome := o) (t := u) (decide_eq_true hsu)).2.2.2.2.2 p).2.2

/-! ### An event in the midst of an attempt -/

/-- `v` is on the way of an event that leaves the attempt of `s` going on, before the head's part in it: the counter, the
drive, the scanner and its offers have moved. -/
structure Amid (s v : State) : Prop extends GoesOn s v where
  frame : Only [.enc, .drum, .reg, .pics, .scan, .store, .conv, .sender] s v
  drum : v.drum = s.drum ∨ (s.drum.state = .tracking ∨ s.drum.state = .locked) ∧
    (v.drum.state = .tracking ∨ v.drum.state = .locked)
  sender : SenderPaced s.sender v.sender
  lit : v.scan.lit = s.scan.lit
  late : ∀ slot, tally (·.headLate) v slot = tally (·.headLate) s slot

/-- What O27 says of the state at the end of the event in which more than 255 steps are owed. -/
def HeadEnds (slot : Nat) (s t : State) : Prop :=
  t.head.state = .fault ∧ t.head.pos = s.head.pos ∧ t.scan.state = .idle ∧
    t.sender.state = .stopTone ∧ t.sender.held = some .head ∧ FinishedAs slot .failed .head s t

namespace Amid
variable {s v w : State}

theorem sending (h : Amid s v) (hs : s.sender.state.sendingAttempt = true) : v.sender.state.sendingAttempt = true := by
  rw [h.sender.state.1]
  exact hs

/-- Of such an event the evaluations leave what the head does of it, short of a fault. -/
theorem settles (h : Amid s v) (h0 : attemptInProgress s = true) (hs : s.sender.state.sendingAttempt = true)
    (hg : GoesOn v w) (k : Only [.head, .pics] v w) (hh : w.head.state = s.head.state) : settle s w = w := by
  have hd : w.drum = v.drum := k.drum (by decide)
  have hsend : w.sender.state.sendingAttempt = true := by rw [k.sender (by decide)]; exact h.sending hs
  refine settle_going_lit h0 (h.toGoesOn.trans hg) ((h.frame.mono (by decide)).trans (k.mono (by decide))) ?_
    (fun hq => nomatch hq.symm.trans (lineupReady_sending hsend))
    (lampDemand_going (hg.state.trans h.state) (by rw [k.scan (by decide)]; exact h.lit) ?_ (by rw [hh]))
  · rw [hd]
    exact h.drum.imp id fun hd => hd.2
  · rw [hd]
    exact h.drum.elim (fun hd => by rw [hd]) fun ⟨h1, h2⟩ => cutoff_iff_of_turning h1 h2

/-- The record of the attempt, read through the event. -/
theorem onDrum (h : Amid s v) {slot : Nat} (hd : s.pics.onDrum = some slot) : v.pics.onDrum = some slot := h.slot.trans hd

/-- A burst that fits is made at once (R52). -/
theorem burst (h : Amid s v) (h0 : attemptInProgress s = true) (hs : s.sender.state.sendingAttempt = true)
    (hh : s.head.state = .scanning) (ho : s.head.owed + s.tables.scan.stepsPerLine ≤ 255)
    (hp : s.head.pos < s.tables.scan.travelLimit) (hw : w = lineBurst v ∨ w = checkHeadLate (lineBurst v)) :
    settle s w = w ∧ w.head = burstHead s.tables.scan s.head ∧ GoesOn s w := by
  have hvh : v.head = s.head := h.frame.head (by decide)
  have hvt := h.tables
  have eb := lineBurst_fits (s := v) (by rw [hvh]; exact hh) (by rw [hvh, hvt]; exact ho) (by rw [hvh, hvt]; exact hp)
  have hgb : GoesOn v (lineBurst v) := eb ▸ GoesOn.of_pics rfl rfl rfl
  have kb : Only [.head] v (lineBurst v) := eb ▸ setHead_only _ (by decide) (Only.refl _ _)
  have hbh : (lineBurst v).head = burstHead s.tables.scan s.head := by rw [eb, hvh, hvt]; rfl
  have hall : GoesOn v w ∧ Only [.head, .pics] v w ∧ w.head = (lineBurst v).head := by
    rcases hw with rfl | rfl
    · exact ⟨hgb, kb.mono (by decide), rfl⟩
    · exact ⟨hgb.trans (checkHeadLate_goesOn _), (kb.mono (by decide)).trans ((checkHeadLate_only' _).mono (by decide)),
        (checkHeadLate_only' _).head (by decide)⟩
  obtain ⟨hg, k, hwh⟩ := hall
  rw [hbh] at hwh
  exact ⟨h.settles h0 hs hg k (by rw [hwh, burstHead_state]), hwh, h.toGoesOn.trans hg⟩

/-- A late check counts the line while steps are owed (R53, R145). -/
theorem lateCheck (h : Amid s v) (h0 : attemptInProgress s = true) (hs : s.sender.state.sendingAttempt = true)
    (hh : s.head.state = .scanning) {slot n : Nat} (hd : s.pics.onDrum = some slot) (hn : tally (·.headLate) s slot = some n) :
    settle s (checkHeadLate v) = checkHeadLate v ∧ (checkHeadLate v).head = s.head ∧
      (1 ≤ s.head.owed → tally (·.headLate) (checkHeadLate v) slot = some (satInc 65535 n)) ∧
      (s.head.owed = 0 → tally (·.headLate) (checkHeadLate v) slot = some n) := by
  have hvh : v.head = s.head := h.frame.head (by decide)
  have k := checkHeadLate_only' v
  have hwh : (checkHeadLate v).head = s.head := (k.head (by decide)).trans hvh
  refine ⟨h.settles h0 hs (checkHeadLate_goesOn v) (k.mono (by decide)) (by rw [hwh]), hwh, fun ho => ?_, fun ho => ?_⟩
  · exact checkHeadLate_counts (by rw [hvh]; exact hh) (by rw [hvh]; exact ho) (h.inProgress.trans h0) (h.onDrum hd)
      ((h.late slot).trans hn)
  · rw [checkHeadLate_unowed (by rw [hvh]; exact ho)]
    exact (h.late slot).trans hn

/-- More than 255 owed steps fault the head and end the attempt (R53, R57, R147). -/
theorem overdrawn {x : Panel} (h : Amid (s.setPanel x) v) (h0 : attemptInProgress s = true)
    (hs : s.sender.state.sendingAttempt = true)
    (hh : s.head.state = .scanning) (ho : 255 < s.head.owed + s.tables.scan.stepsPerLine) {slot : Nat}
    (hd : s.pics.onDrum = some slot) (hw : w = lineBurst v ∨ w = checkHeadLate (lineBurst v)) (y : Panel) :
    HeadEnds slot s ((settle (s.setPanel x) w).setPanel y) := by
  have hvh : v.head = s.head := h.frame.head (by decide)
  have e : lineBurst v = attemptEnd .head (stopHead v) :=
    lineBurst_over (by rw [hvh]; exact hh) (by rw [hvh, h.tables]; exact ho)
  have hhead : (attemptEnd .head (stopHead v)).head = (stopHead v).head :=
    attemptEnd_head (s := stopHead v) finishing_head rfl
  have hwe : w = attemptEnd .head (stopHead v) := by
    rcases hw with rfl | rfl
    · exact e
    · rw [e]
      exact checkHeadLate_still (by rw [hhead]; exact fun hf => nomatch hf)
  have hport : ∀ p, (s.setPanel x).port p = (stopHead v).port p := fun p => (h.frame.port p (by cases p <;> decide)).symm
  obtain ⟨k, hend, hfin⟩ := (attemptEnd_endedAs_of (u := stopHead v) finishing_head (by decide) (h.onDrum hd)
    (h.state.trans ((attemptInProgress_iff s).1 h0)) (h.sending hs)).settled (s0 := s.setPanel x)
      (fun p => congrArg Port.cause (hport p)) y
  rw [hwe]
  have ht : ((settle (s.setPanel x) (attemptEnd .head (stopHead v))).setPanel y).head = (stopHead v).head :=
    (k.head (by decide)).trans hhead
  refine ⟨by rw [ht]; rfl,
    (congrArg Head.pos ht).trans (congrArg Head.pos hvh : v.head.pos = s.head.pos), hend.scanner, hend.tone,
    hend.held, hfin.congr (h.frame.clock (by decide)).symm h.order.symm (h.frame.slips (by decide)).symm rfl rfl⟩

end Amid

/-! ### A count short of the run's end -/

/-- An event of the counter, the scanner and its offers alone. -/
theorem Amid.of_only {s v : State} (k : Only [.enc, .scan, .store, .conv, .sender] s v) (hz : SenderPaced s.sender v.sender)
    (hl : v.scan.lit = s.scan.lit) :
    Amid s v where
  toGoesOn := GoesOn.of_pics (k.pics (by decide)) (k.tables (by decide)) hz.state.2.1
  frame := k.mono (by decide)
  drum := Or.inl (k.drum (by decide))
  sender := hz
  lit := hl
  late := fun _ => tally_congr (congrArg PicTable.records (k.pics (by decide)))

theorem countedOn_only (s : State) : Only [.enc, .scan, .store, .conv, .sender] s (countedOn s) :=
  setEnc_only _ (by decide) (Only.refl _ s)

/-- A count with its sample. -/
theorem sampled_amid (k : Nat) (s : State) : Amid s (takeSample k (countedOn s)) ∧
    Only [.enc, .scan, .store, .conv, .sender] s (takeSample k (countedOn s)) := by
  obtain ⟨kf, ⟨w, hw⟩, hz⟩ := takeSample_frame k (countedOn s)
  have ks := (countedOn_only s).trans (kf.mono (by decide))
  exact ⟨Amid.of_only ks hz (by rw [hw]; rfl), ks⟩

/-- A count with its sample, if any, short of the last of the revolution. -/
theorem counted_amid {s : State} (pos : Nat) (hr : s.scan.state = .running) (h2 : s.scan.k + 1 < samplesPerRev s) :
    Amid s (scannerAtCount pos (countedOn s)) ∧
      Only [.enc, .scan, .store, .conv, .sender] s (scannerAtCount pos (countedOn s)) := by
  by_cases h : 1 ≤ s.scan.k ∧ pos = samplePos s s.scan.k
  · rw [scannerAtCount_takes (s := countedOn s) hr h.1 h2 h.2]
    exact sampled_amid s.scan.k s
  · have e : scannerAtCount pos (countedOn s) = countedOn s := if_neg fun hc => h ⟨hc.2.1, hc.2.2.2⟩
    rw [e]
    exact ⟨Amid.of_only (countedOn_only s) (SenderPaced.refl _) rfl, countedOn_only s⟩

/-- A count of a running scanner as an event, between window boundaries: what the head makes of it, and the evaluations. -/
theorem forward_event {s : State} (hp : s.enc.pos + 1 < 8192) (hb : (s.enc.pos + 1) % 512 ≠ 0)
    (hr : s.scan.state = .running) {P : State → Prop}
    (hP : ∀ x y, P ((settle (s.setPanel x) (headAtCount s.scan.rev (s.enc.pos + 1)
      (scannerAtCount (s.enc.pos + 1) (countedOn (s.setPanel x))))).setPanel y)) :
    ∃ t, exec (.encoderCount .forward) s = .next t ∧ P t := by
  refine event_next (f := encoderCount .forward) rfl fun x y => ?_
  rw [encoderCount_on (s := s.setPanel x) hp hb, show runRevolution (s.setPanel x) = s.scan.rev from if_pos hr]
  exact hP x y

/-- A count short of the revolution's last sample as an event: what the head makes of it, and the evaluations. -/
theorem count_event {s : State} (hp : s.enc.pos + 1 < 8192) (hb : (s.enc.pos + 1) % 512 ≠ 0)
    (hr : s.scan.state = .running) (h2 : s.scan.k + 1 < samplesPerRev s) {P : State → Prop}
    (hP : ∀ x v y, Amid (s.setPanel x) v → Only [.enc, .scan, .store, .conv, .sender] (s.setPanel x) v →
      P ((settle (s.setPanel x) (headAtCount s.scan.rev (s.enc.pos + 1) v)).setPanel y)) :
    ∃ t, exec (.encoderCount .forward) s = .next t ∧ P t :=
  forward_event hp hb hr fun x y =>
    let ⟨ha, k⟩ := counted_amid (s := s.setPanel x) (s.enc.pos + 1) hr h2
    hP x _ y ha k

theorem SamePlan.burstRevolution {s t : State} (h : SamePlan s t) {rev : Nat} : Machine.burstRevolution t rev = true ↔
    (carryingLine s).nPhase < rev ∧ rev < (carryingLine s).nPhase + onDrumLines s := by
  rw [Machine.burstRevolution, Bool.and_eq_true, decide_eq_true_iff, decide_eq_true_iff, h.line, h.lines]

theorem SamePlan.lateRevolution {s t : State} (h : SamePlan s t) {rev : Nat} : Machine.lateRevolution t rev = true ↔
    (carryingLine s).nPhase + 2 ≤ rev ∧ rev ≤ (carryingLine s).nPhase + onDrumLines s := by
  rw [Machine.lateRevolution, Bool.and_eq_true, decide_eq_true_iff, decide_eq_true_iff, h.line, h.lines]

/-! ### The last sample of the run (R43, R44) -/

/-- An entry that is not ready keeps the list from being offered whole. -/
theorem offerList_leaves {ws : List WaitEntry} {e : WaitEntry} (s : State) (he : e ∈ ws)
    (h : e.white = true ∨ e.level = none) : (offerList ws s).scan.waiting ≠ [] := by
  induction ws generalizing s with
  | nil => exact nomatch he
  | cons w rest ih =>
    rw [offerList]
    cases hw : w.ready with
    | none => exact List.cons_ne_nil w rest
    | some x =>
      refine ih _ ((List.mem_cons.1 he).resolve_left fun hwe => ?_)
      rw [← hwe, WaitEntry.not_ready_of h] at hw
      exact nomatch hw

theorem takeSample_leaves {k : Nat} {s : State} (h : (sampleEntry s k).white = true ∨ (sampleEntry s k).level = none) :
    (takeSample k s).scan.waiting ≠ [] := by
  rw [takeSample_eq]
  exact offerList_leaves (e := sampleEntry s k) _ (List.mem_append_right _ (List.mem_singleton.2 rfl)) h

/-- The last sample of the run finishes it, outside the white patch. -/
theorem scannerAtCount_last {pos : Nat} {s : State} (hr : s.scan.state = .running) (h1 : 1 ≤ s.scan.k)
    (h2 : s.scan.k + 1 = samplesPerRev s) (hp : pos = samplePos s s.scan.k)
    (hl : s.scan.rev = (carryingLine s).nPhase + onDrumLines s) (hw : inPatch s.tables.scan pos = false) :
    scannerAtCount pos s = finishAtSample (takeSample s.scan.k s) := by
  obtain ⟨-, ⟨w, hsc⟩, -⟩ := takeSample_frame s.scan.k s
  have hgo := takeSample_goesOn s.scan.k s
  have hrev : (takeSample s.scan.k s).scan.rev = s.scan.rev := by rw [hsc]
  refine (if_pos ⟨hr, h1, by omega, hp⟩).trans
    (if_pos ⟨(congrArg Scanner.state hsc).trans hr, ?_, by rw [hgo.tables]; exact hw⟩)
  rw [lastSampleTaken, hgo.lastRevolution hrev, lastRevolution_iff.2 hl, hgo.samples, hsc]
  exact decide_eq_true h2

/-- The scanner at its finish, its final entry not yet signalled (R44). -/
def finishedScan (s : State) : Scanner := { whitenedScan s with state := .finished, signalDue := true }

/-- A finish whose final entry waits (R44; log 38). -/
theorem finishRun_waits {s : State} (hw : s.scan.waiting ≠ []) :
    finishRun s = s.setScan { s.scan with state := .finished, signalDue := true } := if_neg fun h => hw h.2

theorem finishAtSample_waits {s : State} (hd : ¬ Dark s) (hw : s.scan.waiting ≠ []) :
    finishAtSample s = s.setScan (finishedScan s) := by
  rw [finishAtSample_bright hd, updateWhite_eq, finishRun_waits (by exact hw)]
  rfl

/-- A sample leaves the sums of the white reference. -/
theorem takeSample_white (k : Nat) (s : State) : closingWhite (takeSample k s) = closingWhite s ∧
    (Dark (takeSample k s) ↔ Dark s) := by
  obtain ⟨-, ⟨w, hsc⟩, -⟩ := takeSample_frame k s
  have hc : closingWhite (takeSample k s) = closingWhite s := by simp only [closingWhite, hsc]
  refine ⟨hc, ?_⟩
  rw [Dark, Dark, hc, (takeSample_goesOn k s).tables, hsc]

/-! ### The revolution that opens at the index pulse (R43) -/

/-- A close that is neither dim nor the last opens the next revolution. -/
theorem closeRevolution_opens {s : State} (h : ¬ Dims s) (hl : s.scan.rev ≠ (carryingLine s).nPhase + onDrumLines s) :
    closeRevolution s = openRevolution (s.scan.rev + 1) (s.setScan (whitenedScan s)) := by
  rw [closeRevolution_bright h, if_neg (mt lastRevolution_iff.1 hl), updateWhite_eq]

theorem scannerAtIndex_running {s : State} (h : s.scan.state = .running) : scannerAtIndex s = closeRevolution s := by
  rw [scannerAtIndex, h]

/-- The opening of the next revolution goes on with the attempt. -/
theorem Turned.opens {s v : State} (ht : Turned s v) (hq : QuietIndex s) (hr : s.scan.state = .running) (hd : ¬ Dims s)
    (hl : s.scan.rev ≠ (carryingLine s).nPhase + onDrumLines s) :
    scannerAtIndex v = openRevolution (s.scan.rev + 1) (v.setScan (whitenedScan v)) ∧ Amid s (scannerAtIndex v) ∧
      (scannerAtIndex v).scan.state = .running ∧ (scannerAtIndex v).scan.rev = s.scan.rev + 1 := by
  have hscan : v.scan = s.scan := ht.frame.scan (by decide)
  have e : scannerAtIndex v = openRevolution (s.scan.rev + 1) (v.setScan (whitenedScan v)) := by
    rw [scannerAtIndex_running (by rw [hscan]; exact hr),
      closeRevolution_opens (mt (ht.toSamePlan.dims hscan).1 hd) (by rw [hscan, ht.line, ht.lines]; exact hl), hscan]
  obtain ⟨k, ⟨w, hw⟩, hz⟩ := openRevolution_frame (s.scan.rev + 1) (v.setScan (whitenedScan v))
  have hgo := openRevolution_goesOn (s.scan.rev + 1) (v.setScan (whitenedScan v))
  have kv : Only [.scan] v (v.setScan (whitenedScan v)) := setScan_only _ (by decide) (Only.refl _ v)
  have hstate : (openRevolution (s.scan.rev + 1) (v.setScan (whitenedScan v))).scan.state = .running := by
    rw [hw]
    exact (congrArg Scanner.state hscan).trans hr
  rw [e]
  refine ⟨rfl, {
    toGoesOn := ht.toGoesOn.trans ((GoesOn.of_only kv (by decide)).trans hgo)
    frame := (ht.frame.mono (by decide)).trans ((kv.mono (by decide)).trans (k.mono (by decide)))
    drum := Or.inr ⟨hq.turns, by rw [k.drum (by decide)]; exact ht.turns⟩
    sender := by
      rw [← ht.frame.sender (by decide)]
      exact hz
    lit := by rw [Scanner.lit, Scanner.lit, hstate, hr]; rfl
    late := fun slot => (tally_congr (congrArg PicTable.records (k.pics (by decide)))).trans (ht.late slot) }, hstate, ?_⟩
  rw [hw]
  rfl

/-! ### O27 -/

/-- A finish in the midst of an event leaves the lamp's demand until it is signalled. -/
theorem Amid.finished {s v : State} (h : Amid s v) (hr : s.scan.state = .running) :
    Amid s (v.setScan (finishedScan v)) where
  toGoesOn := h.toGoesOn.trans (GoesOn.of_pics rfl rfl rfl)
  frame := setScan_only _ (by decide) h.frame
  drum := h.drum
  sender := h.sender
  lit := by rw [Scanner.lit, Scanner.lit, hr]; rfl
  late := h.late

/-- The finish at the last sample of the run while its entry waits. -/
theorem scannerAtCount_finishes {s : State} {pos : Nat} (hr : s.scan.state = .running) (h1 : 1 ≤ s.scan.k)
    (h2 : s.scan.k + 1 = samplesPerRev s) (hp : pos = samplePos s s.scan.k)
    (hl : s.scan.rev = (carryingLine s).nPhase + onDrumLines s) (hw : inPatch s.tables.scan pos = false)
    (hd : ¬ Dark s) (he : (takeSample s.scan.k (countedOn s)).scan.waiting ≠ []) :
    scannerAtCount pos (countedOn s) = (takeSample s.scan.k (countedOn s)).setScan
      (finishedScan (takeSample s.scan.k (countedOn s))) := by
  have e : scannerAtCount pos (countedOn s) = finishAtSample (takeSample s.scan.k (countedOn s)) :=
    scannerAtCount_last (s := countedOn s) hr h1 h2 hp hl hw
  rw [e]
  exact finishAtSample_waits (mt (takeSample_white _ _).2.1 hd) he

/-- Settles O27: bursts and late checks at a count, at the last sample of the run, and at the index pulse. -/
theorem burstsAndLateLines : Obligations.BurstsAndLateLines := by
  intro s slot r a hlinks hd hr hrs ha hrun hscan
  obtain ⟨-, h0⟩ := sending_record hd hr hrs
  have hz : s.sender.state.sendingAttempt = true := hlinks.attempt.symm.trans h0
  have hn : tally (·.headLate) s slot = some a.headLate := by rw [tally, hr, Option.bind_some, ha]; rfl
  refine ⟨fun hp hb hedge => ⟨fun h2 => ⟨?_, ?_, ?_, ?_, ?_⟩, ?_⟩, fun hq hdim hlast => ⟨?_, ?_⟩⟩
  · intro he hin ⟨ho, ht⟩
    refine count_event hp hb hrun h2 fun x v y hv k => ?_
    have hvh : v.head = s.head := k.head (by decide)
    have hfit := lineBurst_fits (s := v) (by rw [hvh]; exact hscan) (by rw [hvh, hv.tables]; exact ho)
      (by rw [hvh, hv.tables]; exact ht)
    rw [headAtCount_end (by rw [hv.tables]; exact he) (by rw [hv.tables]; exact hedge) (hv.burstRevolution.2 hin)
      (by rw [hfit]; rfl)]
    obtain ⟨hs, hh, -⟩ := hv.burst h0 hz hscan ho ht (Or.inl rfl)
    rw [hs]
    refine ⟨Only.panels x y (by decide) ((k.mono (by decide)).trans
      (by rw [hfit]; exact setHead_only _ (by decide) (Only.refl _ _))), fun hz => ?_, fun hz => ?_⟩
    · exact hh.trans (if_pos hz)
    · exact hh.trans (if_neg (Nat.ne_of_gt hz))
  · intro he hin ho
    refine count_event hp hb hrun h2 fun x v y hv k => ?_
    exact hv.overdrawn h0 hz hscan ho hd (headAtCount_bursts (by rw [hv.tables]; exact he) (hv.burstRevolution.2 hin)) y
  · intro he hin
    refine count_event hp hb hrun h2 fun x v y hv k => ?_
    rw [headAtCount_unburst fun hc => hin (hv.burstRevolution.1 hc.2),
      if_neg fun hc => hedge (by rw [hv.tables] at hc; exact hc.1.symm.trans he),
      hv.settles h0 hz (GoesOn.refl v) (Only.refl _ v) (congrArg Head.state (k.head (by decide)))]
    exact k.head (by decide)
  · intro he hin
    refine count_event hp hb hrun h2 fun x v y hv k => ?_
    rw [headAtCount_unburst fun hc => hedge (by rw [hv.tables] at hc; exact he.symm.trans hc.1),
      if_pos (by rw [hv.tables]; exact ⟨he, Nat.succ_ne_zero _, hv.lateRevolution.2 hin⟩)]
    obtain ⟨hs, -, hlate⟩ := hv.lateCheck h0 hz hscan hd hn
    rw [hs]
    exact ⟨Only.panels x y (by decide) ((k.mono (by decide)).trans ((checkHeadLate_only' v).mono (by decide))), hlate⟩
  · intro he hin
    refine count_event hp hb hrun h2 fun x v y hv k => ?_
    rw [headAtCount_unburst fun hc => hedge (by rw [hv.tables] at hc; exact he.symm.trans hc.1),
      if_neg fun hc => hin (hv.lateRevolution.1 hc.2.2),
      hv.settles h0 hz (GoesOn.refl v) (Only.refl _ v) (congrArg Head.state (k.head (by decide)))]
    exact ⟨k.head (by decide), (hv.late slot).trans hn⟩
  · intro he hin hl hk h1 hpos hwin hpatch hbright
    refine forward_event hp hb hrun fun x y => ?_
    have hpat : inPatch s.tables.scan (s.enc.pos + 1) = false := Bool.eq_false_iff.2 fun h => hpatch (inPatch_iff.1 h)
    have hsp : samplePos (countedOn (s.setPanel x)) s.scan.k = s.enc.pos + 1 := hpos.symm
    have hent : (sampleEntry (countedOn (s.setPanel x)) s.scan.k).level = none := by
      rw [sampleEntry_window (s := countedOn (s.setPanel x)) (by show ¬ s.scan.rev ≤ (carryingLine s).nPhase; omega)
        (inWindow_iff.2 (by rw [hsp]; exact ⟨he.ge, hwin⟩))]
    have hv := (sampled_amid s.scan.k (s.setPanel x)).1.finished hrun
    have hsc := scannerAtCount_finishes (s := s.setPanel x) hrun h1 hk hpos hl hpat (not_dark hbright)
      (takeSample_leaves (Or.inr hent))
    dsimp only [State.setPanel_scan] at hv hsc
    rw [hsc]
    have hst : ((takeSample s.scan.k (countedOn (s.setPanel x))).setScan
      (finishedScan (takeSample s.scan.k (countedOn (s.setPanel x))))).scan.state = .finished := rfl
    generalize (takeSample s.scan.k (countedOn (s.setPanel x))).setScan _ = v at hv hst ⊢
    rw [headAtCount_unburst fun hc => hedge (by rw [hv.tables] at hc; exact he.symm.trans hc.1),
      if_pos (by rw [hv.tables]; exact ⟨he, Nat.succ_ne_zero _, hv.lateRevolution.2 hin⟩)]
    obtain ⟨hs, hh, hlate⟩ := hv.lateCheck h0 hz hscan hd hn
    rw [hs]
    refine ⟨?_, hh, (hv.trans (checkHeadLate_goesOn v)).inProgress.trans h0, hlate⟩
    show (checkHeadLate v).scan.state = _
    rw [(checkHeadLate_only' v).scan (by decide), hst]
  · intro he hlo hhi
    have bursts : ∀ x v, Turned (s.setPanel x) v → Amid (s.setPanel x) (scannerAtIndex v) ∧
        (headAtIndex (runRevolution v) (scannerAtIndex v) = lineBurst (scannerAtIndex v) ∨
          headAtIndex (runRevolution v) (scannerAtIndex v) = checkHeadLate (lineBurst (scannerAtIndex v))) := fun x v ht => by
      obtain ⟨-, hv, hst, -⟩ := ht.opens (hq.setPanel x) hrun hdim hlast
      have hsc : v.scan = s.scan := ht.frame.scan (by decide)
      have hrr : runRevolution v = s.scan.rev := by rw [runRevolution, hsc, if_pos hrun]
      rw [hrr]
      exact ⟨hv, headAtIndex_bursts hst (by rw [hv.tables]; exact he) (hv.burstRevolution.2 ⟨hlo, hhi⟩)⟩
    refine ⟨fun ⟨ho, ht⟩ => index_event hq fun x v y htv => ?_, fun ho => index_event hq fun x v y htv => ?_⟩
    · obtain ⟨hv, hw⟩ := bursts x v htv
      obtain ⟨hs, hh, hg⟩ := hv.burst h0 hz hscan ho ht hw
      rw [hs]
      exact ⟨hg.inProgress.trans h0, fun hz => hh.trans (if_pos hz), fun hz => hh.trans (if_neg (Nat.ne_of_gt hz))⟩
    · obtain ⟨hv, hw⟩ := bursts x v htv
      exact hv.overdrawn h0 hz hscan ho hd hw y
  · intro he hne hlo hhi
    refine index_event hq fun x v y ht => ?_
    obtain ⟨-, hv, hst, hrev⟩ := ht.opens (hq.setPanel x) hrun hdim hlast
    generalize scannerAtIndex v = w at hv hst hrev ⊢
    rw [headAtIndex_unburst fun hc => hne (by rw [hv.tables] at hc; exact hc.2.1),
      if_pos (by rw [hv.tables, hrev]; exact ⟨hst, he, hv.lateRevolution.2 ⟨Nat.succ_le_succ hlo, hhi⟩⟩)]
    obtain ⟨hs, hh, hlate⟩ := hv.lateCheck h0 hz hscan hd hn
    rw [hs]
    exact ⟨hh, hlate⟩

end Sys2Proof.Machine

/-! ## The lamp fault and the close of a revolution -/

namespace Sys2Proof.Machine

/-! ### A lamp fault ends the attempt (R48, R146) -/

theorem finishing_lamp : Finishing .lamp .failed .lamp := fun _ _ => rfl

/-- What `EndedAs` reads of the states before and after. -/
theorem EndedAs.congr {slot : Nat} {o : AttemptOutcome} {c : FailCause} {s s' v v' : State} (h : EndedAs slot o c s v)
    (k : Only [.enc, .drum, .reg, .scan, .lamp, .head, .conv, .pins, .panel] s' s) (kv : Only [.conv] v v') :
    EndedAs slot o c s' v' where
  ended := h.ended.congr (by rw [k.sender (by decide)]) (by rw [k.store (by decide)]) (kv.sender (by decide))
    (kv.scan (by decide)) (kv.store (by decide))
  finished := h.finished.congr (k.clock (by decide)).symm (by rw [k.pics (by decide)]) (k.slips (by decide)).symm
    (kv.pics (by decide)) (kv.slips (by decide))
  state := (onDrumState_congr (kv.pics (by decide))).trans h.state
  cause p := by
    rw [kv.port p (by cases p <;> decide), h.cause, k.port p (by cases p <;> decide)]

/-- The end of the attempt leaves the scanner stopped, no more. -/
theorem attemptEnd_scan {o : AttemptOutcome} {s : State} (hp : attemptInProgress s = true) :
    (attemptEnd o s).scan = (stopScanner s).scan := by
  cases ho : s.pics.onDrum with
  | none => rw [attemptInProgress, onDrumState, onDrumRec, ho] at hp; exact nomatch hp
  | some slot =>
    have k : Only [.store, .pics, .portA, .portB, .sender, .conv, .head, .tables, .slips] (stopScanner s) (attemptEnd o s) := by
      rw [attemptEnd_eq ho hp]
      exact endAttemptUse_only (by decide) (rewindHead_only (by decide) (by decide) (moveRecord_only _ _ (by decide)
        (by decide) (by decide) (by decide) (by decide) (closeSender_only _ (by decide) (by decide) (by decide)
          (closeAttempt_only _ (by decide) (flushStore_only (by decide) (Only.refl _ _))))))
    exact k.scan (by decide)

theorem stopScanner_white (s : State) : (stopScanner s).scan.wRef = s.scan.wRef := by
  have hw : ∀ t : State, (withdrawPhoto t).scan = t.scan := fun t =>
    (withdrawPhoto_only (ps := [.conv]) (by decide) (Only.refl _ t)).scan (by decide)
  unfold stopScanner
  split
  · rfl
  · rfl
  · rw [hw]; rfl
  · rw [hw]; rfl

/-- The lamp in FAULT (R48). -/
def faultedLamp : Lamp := { state := .fault, warmTimer := none }

/-- What a lamp fault makes of the attempt in progress. -/
structure LampEnds (slot : Nat) (s v : State) : Prop extends EndedAs slot .lamp .lamp s v where
  lamp : v.lamp = faultedLamp
  white : v.scan.wRef = s.scan.wRef
  head : v.head.state ≠ .scanning
  last : v.store.lastWritten = false

theorem lampFault_ends {u : State} {slot : Nat} (hu : u.pics.onDrum = some slot) (hp : attemptInProgress u = true)
    (hz : u.sender.state.sendingAttempt = true) : LampEnds slot u (lampFault u) := by
  have km : Only [.scan, .conv, .lamp] u (stopScanner (u.setLamp faultedLamp)) :=
    stopScanner_only (by decide) (by decide) (setLamp_only _ (by decide) (Only.refl _ u))
  have hm : (stopScanner (u.setLamp faultedLamp)).scan.wRef = u.scan.wRef := stopScanner_white _
  have hl : (stopScanner (u.setLamp faultedLamp)).lamp = faultedLamp :=
    (stopScanner_only (ps := [.scan, .conv]) (by decide) (by decide) (Only.refl _ _)).lamp (by decide)
  have e : lampFault u = attemptEnd .lamp (stopScanner (u.setLamp faultedLamp)) := rfl
  rw [e]
  generalize stopScanner (u.setLamp faultedLamp) = m at km hm hl ⊢
  have hstate : onDrumState m = .sending := (onDrumState_congr (km.pics (by decide))).trans ((attemptInProgress_iff u).1 hp)
  obtain ⟨-, hhead, -, -, hstore, -⟩ := attemptEnd_ends (outcome := .lamp) (t := m) (decide_eq_true hstate)
  have hend := attemptEnd_endedAs_of (u := m) finishing_lamp (by decide)
    ((congrArg PicTable.onDrum (km.pics (by decide))).trans hu)
    hstate (by rw [km.sender (by decide)]; exact hz)
  exact {
    toEndedAs := hend.congr (km.mono (by decide)) (Only.refl _ _)
    lamp := ((attemptEnd_frame .lamp m).lamp (by decide)).trans hl
    white := by rw [attemptEnd_scan (decide_eq_true hstate), stopScanner_white, hm]
    head := hhead
    last := by rw [hstore] }

/-- The evaluations leave a lamp in FAULT once the attempt has ended. -/
theorem settle_faulted_lamp {s0 v : State} (hf : ∀ p, (v.port p).inFault = (s0.port p).inFault)
    (hn : onDrumState v = .finished) (hs : v.sender.state ≠ .free) (hl : v.lamp.state = .fault) :
    (settle s0 v).lamp = v.lamp := by
  have k : Only [.enc, .drum, .reg] v (drumEval s0 (standardEval s0 v)) :=
    drumEval_only _ (by decide) (by decide) (standardEval_only _ (by decide) (by decide) (Only.refl _ _))
  rw [settle_ended hf (by rw [hn]; decide) hs]
  generalize drumEval s0 (standardEval s0 v) = w at k ⊢
  have hw : w.lamp = v.lamp := k.lamp (by decide)
  have hd : lampDemand w = false := by
    rw [lampDemand, onDrumState_congr (k.pics (by decide)), hn]
    rfl
  have e : lampEval s0 w = w := by
    unfold lampEval
    rw [if_neg fun h => Bool.false_ne_true (hd.symm.trans h.1), hw, hl]
    dsimp only
    split <;> rfl
  rw [e, hw]

/-- A lamp fault in the midst of an attempt, its event told to the end. -/
theorem Amid.lampFails {s u w : State} {slot : Nat} {x : Panel} (h : Amid (s.setPanel x) u)
    (h0 : attemptInProgress s = true) (hz : s.sender.state.sendingAttempt = true) (hd : s.pics.onDrum = some slot)
    (k : Only [.conv] (lampFault u) w) (y : Panel) :
    ((settle (s.setPanel x) w).setPanel y).lamp = { state := .fault, warmTimer := none } ∧
      ((settle (s.setPanel x) w).setPanel y).scan.wRef = u.scan.wRef ∧
      Ended .lamp u ((settle (s.setPanel x) w).setPanel y) ∧
      ((settle (s.setPanel x) w).setPanel y).store.lastWritten = false ∧
      FinishedAs slot .failed .lamp s ((settle (s.setPanel x) w).setPanel y) := by
  have hl := lampFault_ends (h.onDrum hd) (h.inProgress.trans h0) (h.sending hz)
  have hw : EndedAs slot .lamp .lamp u w := hl.toEndedAs.congr (Only.refl _ _) k
  have hcause : ∀ p, ((s.setPanel x).port p).cause = (u.port p).cause := fun p =>
    congrArg Port.cause (h.frame.port p (by cases p <;> decide)).symm
  have hfault : ∀ p, (w.port p).inFault = ((s.setPanel x).port p).inFault := fun p => by
    simp only [Port.inFault, hw.cause, hcause]
  obtain ⟨kt, hend, hfin⟩ := hw.settled hcause y
  have hlamp : w.lamp = faultedLamp := (k.lamp (by decide)).trans hl.lamp
  refine ⟨?_, ?_, hend, ?_, hfin.congr (h.frame.clock (by decide)).symm h.order.symm (h.frame.slips (by decide)).symm rfl rfl⟩
  · rw [State.setPanel_lamp, settle_faulted_lamp hfault hw.state (by rw [hw.ended.tone]; decide) (by rw [hlamp]; rfl), hlamp]
    rfl
  · rw [kt.scan (by decide), k.scan (by decide), hl.white]
  · rw [kt.store (by decide), k.store (by decide), hl.last]

/-- The update of the white reference in the midst of an event. -/
theorem Amid.whitened {s v : State} (h : Amid s v) : Amid s (v.setScan (whitenedScan v)) where
  toGoesOn := h.toGoesOn.trans (GoesOn.of_pics rfl rfl rfl)
  frame := setScan_only _ (by decide) h.frame
  drum := h.drum
  sender := h.sender
  lit := h.lit
  late := h.late

theorem Turned.amid {s v : State} (ht : Turned s v) (hq : QuietIndex s) : Amid s v where
  toGoesOn := ht.toGoesOn
  frame := ht.frame.mono (by decide)
  drum := Or.inr ⟨hq.turns, ht.turns⟩
  sender := by rw [ht.frame.sender (by decide)]; exact SenderPaced.refl _
  lit := by rw [ht.frame.scan (by decide)]
  late := ht.late

/-- A head that does not scan has no part in a count. -/
theorem headAtCount_still {rev pos : Nat} {s : State} (h : s.head.state ≠ .scanning) : headAtCount rev pos s = s := by
  have hb : lineBurst s = s := if_neg h
  unfold headAtCount
  simp only [hb, checkHeadLate_still h, ite_self]

/-! ### The head at the pulse that opens a revolution -/

/-- A burst within the limits leaves the head where it was in its states. -/
theorem lineBurst_frame {s : State} (ho : s.head.owed + s.tables.scan.stepsPerLine ≤ 255)
    (hp : s.head.pos < s.tables.scan.travelLimit) :
    ∃ x : Head, lineBurst s = s.setHead x ∧ x.state = s.head.state := by
  by_cases hs : s.head.state = .scanning
  · exact ⟨_, lineBurst_fits hs ho hp, burstHead_state _ _⟩
  · exact ⟨s.head, if_neg hs, rfl⟩

theorem headAtIndex_fits {closing : Nat} {s : State} (ho : s.head.owed + s.tables.scan.stepsPerLine ≤ 255)
    (hp : s.head.pos < s.tables.scan.travelLimit) : GoesOn s (headAtIndex closing s) ∧
      Only [.head, .pics] s (headAtIndex closing s) ∧ (headAtIndex closing s).head.state = s.head.state := by
  obtain ⟨x, hx, hstate⟩ := lineBurst_frame ho hp
  have burst : ∃ z : Head, (if s.scan.state = .running ∧ s.tables.scan.windowEnd = 8192 ∧ burstRevolution s closing = true
      then lineBurst s else s) = s.setHead z ∧ z.state = s.head.state := by
    split
    · exact ⟨x, hx, hstate⟩
    · exact ⟨s.head, rfl, rfl⟩
  obtain ⟨z, hz, hzs⟩ := burst
  unfold headAtIndex
  dsimp only
  rw [hz]
  have hg : GoesOn s (s.setHead z) := GoesOn.of_pics rfl rfl rfl
  have k : Only [.head, .pics] s (s.setHead z) := setHead_only _ (by decide) (Only.refl _ _)
  have kl := checkHeadLate_only' (s.setHead z)
  split
  · exact ⟨hg.trans (checkHeadLate_goesOn _), k.trans (kl.mono (by decide)),
      (congrArg Head.state (kl.head (by decide))).trans hzs⟩
  · exact ⟨hg, k, hzs⟩

/-! ### The line-start entry (R41) -/

/-- Sample 0 of a picture revolution with its window further on. -/
theorem sampleEntry_opens_outside {rev : Nat} {s : State} (h : (carryingLine s).nPhase < rev)
    (hw : 0 < s.tables.scan.windowStart) : sampleEntry (s.setScan (openedScan rev s.scan)) 0 =
      ⟨.picture, some (carryingLine s).gapLevel, true, inPatch s.tables.scan 0⟩ := by
  have hp := samplePos_zero (s.setScan (openedScan rev s.scan))
  have e := sampleEntry_outside (s := s.setScan (openedScan rev s.scan)) (k := 0) (Nat.not_le.2 h)
    (by rw [hp]; exact Bool.eq_false_iff.2 fun hin => absurd (inWindow_iff.1 hin).1 (Nat.not_le.2 hw))
  rw [hp] at e
  exact e.trans (if_pos rfl)

/-- Sample 0 of a picture revolution in a window that opens with the line waits for its level. -/
theorem openRevolution_converts {rev : Nat} {s : State} (hwait : s.scan.waiting = []) (h : (carryingLine s).nPhase < rev)
    (hs : s.tables.scan.windowStart = 0) (he : 0 < s.tables.scan.windowEnd) (hp : inPatch s.tables.scan 0 = false) :
    (openRevolution rev s).scan.waiting = [⟨.picture, none, true, false⟩] ∧ (openRevolution rev s).store = s.store := by
  have hpos := samplePos_zero (s.setScan (openedScan rev s.scan))
  have e : sampleEntry (s.setScan (openedScan rev s.scan)) 0 = ⟨.picture, none, true, false⟩ := by
    rw [sampleEntry_window (Nat.not_le.2 h) (by rw [hpos]; exact inWindow_iff.2 ⟨hs.le, he⟩), hpos]
    exact congrArg _ hp
  have hw : (s.setScan (openedScan rev s.scan)).scan.waiting = [] := hwait
  rw [openRevolution_eq, takeSample_waits, e, hw]
  · exact ⟨rfl, rfl⟩
  · rw [e, hw]
    exact fun v hv => Or.inr (by rw [List.mem_singleton.1 hv])

/-- Sample 0 with a level of its own: offered, or waiting for the white patch. -/
theorem openRevolution_entry {rev : Nat} {s : State} {kind : EntryKind} {level : Nat} (hw : s.scan.waiting = [])
    (he : sampleEntry (s.setScan (openedScan rev s.scan)) 0 = ⟨kind, some level, true, inPatch s.tables.scan 0⟩) :
    (¬ (s.tables.scan.whiteStart = 0 ∧ 0 < s.tables.scan.whiteEnd) → (openRevolution rev s).scan.waiting = [] ∧
      (openRevolution rev s).store = offerEntry ⟨kind, level, true⟩ s.store) ∧
    (s.tables.scan.whiteStart = 0 ∧ 0 < s.tables.scan.whiteEnd →
      (openRevolution rev s).scan.waiting = [⟨kind, some level, true, true⟩] ∧ (openRevolution rev s).store = s.store) := by
  obtain ⟨hoff, hstuck⟩ := openRevolution_opens hw he
  refine ⟨fun hp => ?_, fun hp => ?_⟩
  · rw [hoff (Bool.eq_false_iff.2 (mt inPatch_zero.1 hp))]
    exact ⟨rfl, rfl⟩
  · rw [hstuck (inPatch_zero.2 hp)]
    exact ⟨rfl, rfl⟩

/-! ### O25 -/

/-- The index pulse of a dim close (R43, R48). -/
theorem dimClose_event {s : State} {slot : Nat} (hq : QuietIndex s) (hz : s.sender.state.sendingAttempt = true)
    (hrun : s.scan.state = .running) (hd : s.pics.onDrum = some slot) (hdim : Dims s) :
    ∃ t, exec .indexPulse s = .next t ∧ t.lamp = { state := .fault, warmTimer := none } ∧ t.scan.wRef = closingWhite s ∧
      Ended .lamp s t ∧ t.store.lastWritten = false ∧ FinishedAs slot .failed .lamp s t := by
  refine index_event hq fun x v y ht => ?_
  have hscan : v.scan = s.scan := ht.frame.scan (by decide)
  have hsend : v.sender = s.sender := ht.frame.sender (by decide)
  have hstore : v.store = s.store := ht.frame.store (by decide)
  have hw : scannerAtIndex v = lampFault (v.setScan (whitenedScan v)) := by
    rw [scannerAtIndex_running (by rw [hscan]; exact hrun), closeRevolution_dims ((ht.toSamePlan.dims hscan).2 hdim),
      updateWhite_eq]
  have ha : Amid (s.setPanel x) (v.setScan (whitenedScan v)) := (ht.amid (hq.setPanel x)).whitened
  have hl := lampFault_ends (ha.onDrum hd) (ha.inProgress.trans hq.attempt) (ha.sending hz)
  rw [hw, headAtIndex_off _ (by rw [hl.ended.scanner]; decide)]
  obtain ⟨h1, h2, h3, h4, h5⟩ := ha.lampFails hq.attempt hz hd (Only.refl _ _) y
  exact ⟨h1, h2.trans (closingWhite_congr hscan), h3.congr (congrArg Sender.port hsend.symm)
    (congrArg LineStore.entries hstore.symm) rfl rfl rfl, h4, h5⟩

/-- Settles O25: the close that faults the lamp, and the one that opens the next revolution. -/
theorem revolutionCloses : Obligations.RevolutionCloses := by
  intro s slot hlinks hq hrun hd
  have hz : s.sender.state.sendingAttempt = true := hlinks.attempt.symm.trans hq.attempt
  refine ⟨fun hdim => ?_, fun hdim hlast hwait hsig ho hp => index_event hq fun x v y ht => ?_⟩
  · obtain ⟨t, e, h1, h2, h3, -, h5⟩ := dimClose_event hq hz hrun hd hdim
    exact ⟨t, e, h1, h2, h3, h5⟩
  · obtain ⟨e, ha, -, -⟩ := ht.opens (hq.setPanel x) hrun hdim hlast
    rw [State.setPanel_scan] at e
    have hscan : v.scan = s.scan := ht.frame.scan (by decide)
    have hstore : v.store = s.store := ht.frame.store (by decide)
    have hhead : (scannerAtIndex v).head = s.head := ha.frame.head (by decide)
    have htables : (scannerAtIndex v).tables = s.tables := ha.tables
    obtain ⟨hg, k, hh⟩ := headAtIndex_fits (closing := runRevolution v) (s := scannerAtIndex v)
      (by rw [hhead, htables]; exact ho) (by rw [hhead, htables]; exact hp)
    rw [ha.settles hq.attempt hz hg k (hh.trans (congrArg Head.state hhead))]
    have hwscan : (headAtIndex (runRevolution v) (scannerAtIndex v)).scan = (scannerAtIndex v).scan := k.scan (by decide)
    have hwstore : (headAtIndex (runRevolution v) (scannerAtIndex v)).store = (scannerAtIndex v).store := k.store (by decide)
    have hframe := (ha.frame.mono (qs := [.enc, .drum, .reg, .pics, .scan, .store, .conv, .head, .sender])
      (by decide)).trans (k.mono (by decide))
    have hgo := (ha.toGoesOn.trans hg).inProgress.trans hq.attempt
    generalize headAtIndex (runRevolution v) (scannerAtIndex v) = w at hwscan hwstore hframe hgo ⊢
    rw [e] at hwscan hwstore
    obtain ⟨-, ⟨ws, hopen⟩, -⟩ := openRevolution_frame (s.scan.rev + 1) (v.setScan (whitenedScan v))
    have hwait' : (v.setScan (whitenedScan v)).scan.waiting = [] := (congrArg Scanner.waiting hscan).trans hwait
    have hline : carryingLine (v.setScan (whitenedScan v)) = carryingLine s := ht.line
    have htab : (v.setScan (whitenedScan v)).tables = s.tables := ht.tables
    have hst : (v.setScan (whitenedScan v)).store = s.store := hstore
    have hwhite : whitenedScan v = whitenedScan s := by rw [whitenedScan, whitenedScan, closingWhite_congr hscan, hscan]
    have hs : w.scan = { whitenedScan s with
        rev := s.scan.rev + 1, k := 1, whiteSum := 0, whiteCount := 0, waiting := ws } := by
      rw [hwscan, hopen, State.setScan_scan, hwhite]
      rfl
    have entry : ∀ kind level, sampleEntry ((v.setScan (whitenedScan v)).setScan
        (openedScan (s.scan.rev + 1) (v.setScan (whitenedScan v)).scan)) 0 =
          ⟨kind, some level, true, inPatch (v.setScan (whitenedScan v)).tables.scan 0⟩ →
        (¬ (s.tables.scan.whiteStart = 0 ∧ 0 < s.tables.scan.whiteEnd) → w.scan.waiting = [] ∧
          w.store = offerEntry ⟨kind, level, true⟩ s.store) ∧
        (s.tables.scan.whiteStart = 0 ∧ 0 < s.tables.scan.whiteEnd →
          w.scan.waiting = [⟨kind, some level, true, true⟩] ∧ w.store = s.store) := fun kind level he => by
      have h := openRevolution_entry hwait' he
      rw [htab, hst] at h
      rw [hwscan, hwstore]
      exact h
    refine ⟨Only.panels x y (by decide) (hframe.mono (by decide)), hgo, (congrArg Scanner.state hs).trans hrun,
      congrArg Scanner.rev hs, congrArg Scanner.k hs, congrArg Scanner.whiteSum hs, congrArg Scanner.whiteCount hs,
      congrArg Scanner.wRef hs, congrArg Scanner.whiteSet hs, fun hn => ?_, fun hn hws => ?_, fun hn hws hwe hpatch => ?_⟩
    · rw [← hline]
      exact entry _ _ (sampleEntry_opens_phasing (by rw [hline]; exact hn))
    · rw [← hline]
      exact entry _ _ (sampleEntry_opens_outside (by rw [hline]; exact hn) (by rw [htab]; exact hws))
    · have h := openRevolution_converts hwait' (by rw [hline]; exact hn) (by rw [htab]; exact hws)
        (by rw [htab]; exact hwe) (by rw [htab]; exact Bool.eq_false_iff.2 (mt inPatch_zero.1 hpatch))
      rw [hst, ← hwscan, ← hwstore] at h
      exact h

end Sys2Proof.Machine

/-! ## The finish of the run -/

namespace Sys2Proof.Machine

/-! ### Last entry written (R71, R88, R92) -/

/-- The sender at the last entry written. -/
def drainedSender (z : Sender) : Sender :=
  if z.state = .prefill then { z with cadenceOn := true, state := .drain }
  else if z.state = .phasing ∨ z.state = .picture then { z with state := .drain }
  else z

theorem lastEntryWritten_eq (s : State) : lastEntryWritten s =
    (s.setStore { s.store with lastWritten := true }).setSender (drainedSender s.sender) := by
  unfold lastEntryWritten drainedSender
  dsimp only [State.setStore_sender]
  cases h : s.sender.state <;> rfl

theorem drainedSender_port (z : Sender) : (drainedSender z).port = z.port := by
  unfold drainedSender
  split
  · rfl
  · split <;> rfl

/-- A sender that carries the attempt carries it on. -/
theorem drainedSender_sending {z : Sender} (h : z.state.sendingAttempt = true) :
    (drainedSender z).state.sendingAttempt = true := by
  unfold drainedSender
  split
  · rfl
  · split
    · rfl
    · exact h

/-- The signal, with the fill that its last offer left. -/
theorem drainedSender_paced (fill : Nat) (z : Sender) :
    (z.state = .prefill → (drainedSender (pacedSender fill z)).state = .drain ∧
      (drainedSender (pacedSender fill z)).cadenceOn = true) ∧
    (z.state = .phasing ∨ z.state = .picture → drainedSender (pacedSender fill z) = { z with state := .drain }) := by
  have hk := (pacedSender_keeps fill z).1
  refine ⟨fun h => ?_, fun h => ?_⟩
  · rw [drainedSender, if_pos (hk.trans h)]
    exact ⟨rfl, rfl⟩
  · have hn : z.state ≠ .prefill := by rcases h with h | h <;> rw [h] <;> decide
    rw [show pacedSender fill z = z from if_neg fun hc => hn hc.1, drainedSender, if_neg hn, if_pos h]

/-! ### The signal (R44, R55) -/

/-- The state with last entry written. -/
def writtenLast (s : State) : State :=
  ((s.setScan { s.scan with signalDue := false }).setStore { s.store with lastWritten := true }).setSender
    (drainedSender s.sender)

/-- The state with the scanner's end signalled and the head on its way home. -/
def signalled (s : State) : State :=
  (writtenLast s).setHead
    (rewoundHead s.pins.homeAsserted s.tables.scan (s.head.pos + s.tables.scan.rewindMargin) s.head)

theorem rewoundHead_unfaulted {home : Bool} {sc : ScanProfile} {limit : Nat} {x : Head} (h : 2 ≤ limit) :
    (rewoundHead home sc limit x).state = if home then .parked else .rewinding := by
  cases home with
  | true => rfl
  | false => rw [rewoundHead_steps h]; rfl

/-- Once the final entry has been offered the scanner signals, and the head rewinds. -/
theorem signalIfDue_signals {s : State} (hd : s.scan.signalDue = true) (hw : s.scan.waiting = [])
    (ha : attemptInProgress s = true) (hh : s.head.state = .scanning)
    (hl : 2 ≤ s.head.pos + s.tables.scan.rewindMargin) : signalIfDue s = signalled s := by
  have e : rewindHead (lastEntryWritten (s.setScan { s.scan with signalDue := false })) = signalled s := by
    have hw : lastEntryWritten (s.setScan { s.scan with signalDue := false }) = writtenLast s := lastEntryWritten_eq _
    rw [hw, rewindHead_out (s := writtenLast s) (Or.inr (Or.inr hh)), enterRewind_in_attempt (s := writtenLast s) ha]
    rfl
  have hstate : (signalled s).head.state ≠ .fault := by
    rw [signalled, State.setHead_head, rewoundHead_unfaulted hl]
    split <;> exact fun h => nomatch h
  rw [signalIfDue, if_pos ⟨hd, hw⟩, rewindInAttempt, e]
  exact if_neg fun h => hstate h.2

/-- What O26 says of the state at the end of the event whose signal it is. -/
def Signals (s t : State) : Prop :=
  attemptInProgress t = true ∧ t.scan.state = .finished ∧ t.scan.signalDue = false ∧
    t.scan.waiting = [] ∧ t.store.lastWritten = true ∧
    (s.sender.state = .prefill → t.sender.state = .drain ∧ t.sender.cadenceOn = true) ∧
    (s.sender.state = .phasing ∨ s.sender.state = .picture → t.sender = { s.sender with state := .drain }) ∧
    (s.pins.homeAsserted = true → t.head = { s.head with
      state := .parked, pos := 0, owed := 0, stepTimer := none, rewindCount := 0
      rewindLimit := s.head.pos + s.tables.scan.rewindMargin }) ∧
    (s.pins.homeAsserted = false → t.head = { s.head with
      state := .rewinding, pos := s.head.pos - 1, owed := 0, rewindCount := 1
      rewindLimit := s.head.pos + s.tables.scan.rewindMargin, stepTimer := some s.tables.scan.fastStepInterval }) ∧
    (s.lamp.state = .warm ∨ s.lamp.state = .warming → t.lamp = { state := .off, warmTimer := none })

/-- The lamp's demand of an attempt in progress, its signal still to come. -/
theorem lampDemand_sending {s : State} (ha : attemptInProgress s = true)
    (hs : s.scan.lit = true) (hd : s.drum.state ≠ .cutoff)
    (hh : s.head.state ≠ .fault) : lampDemand s = true := by
  have ho : onDrumState s = .sending := (attemptInProgress_iff s).1 ha
  rw [lampDemand_lit, ho, hs]
  simp [hd, hh]

theorem lampDemand_signalled {s : State} (hs : s.scan.state = .finished) (hn : s.scan.signalDue = false) :
    lampDemand s = false := by
  rw [lampDemand, hs, hn]
  simp

/-- A demand that ends turns a lit lamp off (R46). -/
theorem lampEval_ends {s0 s : State} (h0 : lampDemand s0 = true) (h : lampDemand s = false) :
    lampEval s0 s = s.setLamp (lampEval s0 s).lamp ∧
      (s.lamp.state = .warm ∨ s.lamp.state = .warming → (lampEval s0 s).lamp = { state := .off, warmTimer := none }) := by
  obtain ⟨l, e⟩ := lampEval_lamp s0 s
  refine ⟨by rw [e]; rfl, fun hs => ?_⟩
  unfold lampEval
  rw [if_neg fun hc => Bool.false_ne_true (h.symm.trans hc.1), if_pos ⟨h, h0⟩]
  rcases hs with hs | hs <;> rw [hs] <;> rfl

theorem Amid.signals_at {s u : State} (h : Amid s u) (h0 : attemptInProgress s = true) (hh : s.head.state = .scanning)
    (hl : 2 ≤ s.head.pos + s.tables.scan.rewindMargin) (hdue : u.scan.signalDue = true) (hw : u.scan.waiting = []) :
    signalIfDue u = signalled u := by
  have huh : u.head = s.head := h.frame.head (by decide)
  exact signalIfDue_signals hdue hw (h.inProgress.trans h0) (by rw [huh]; exact hh) (by rw [huh, h.tables]; exact hl)

theorem Amid.signals_homeward {s u : State} (h : Amid s u) (h0 : attemptInProgress s = true)
    (hh : s.head.state = .scanning) (hl : 2 ≤ s.head.pos + s.tables.scan.rewindMargin) (hdue : u.scan.signalDue = true)
    (hw : u.scan.waiting = []) : (signalIfDue u).head.state ≠ .scanning := by
  rw [h.signals_at h0 hh hl hdue hw, signalled, State.setHead_head, h.frame.head (by decide), h.tables,
    rewoundHead_unfaulted hl]
  split <;> exact fun h => nomatch h

/-- The signal in the midst of an attempt, its event told to the end: the scanner is at its finish, no entry waits. -/
theorem Amid.signals {s u w : State} {x : Panel} (h : Amid (s.setPanel x) u) (h0 : attemptInProgress s = true)
    (hz : s.sender.state.sendingAttempt = true) (hh : s.head.state = .scanning)
    (hl : 2 ≤ s.head.pos + s.tables.scan.rewindMargin) (hd : s.drum.state ≠ .cutoff) (hf : u.scan.state = .finished)
    (hdue : u.scan.signalDue = true) (hw : u.scan.waiting = []) {fill : Nat} (hs : u.sender = pacedSender fill s.sender)
    (k : Only [.conv] (signalIfDue u) w) (y : Panel) :
    Signals s ((settle (s.setPanel x) w).setPanel y) ∧
      ((settle (s.setPanel x) w).setPanel y).scan.wRef = u.scan.wRef ∧
      ((settle (s.setPanel x) w).setPanel y).store = { u.store with lastWritten := true } := by
  have huh : u.head = s.head := h.frame.head (by decide)
  have hpins : u.pins = s.pins := h.frame.pins (by decide)
  have htab : u.tables = s.tables := h.tables
  rw [h.signals_at h0 hh hl hdue hw] at k
  have ks : Only [.scan, .store, .sender, .head] u (signalled u) :=
    setHead_only _ (by decide) (setSender_only _ (by decide) (setStore_only _ (by decide)
      (setScan_only _ (by decide) (Only.refl _ u))))
  have kw : Only [.enc, .drum, .reg, .pics, .scan, .store, .conv, .head, .sender] (s.setPanel x) w :=
    (h.frame.mono (by decide)).trans ((ks.mono (by decide)).trans (k.mono (by decide)))
  have hscan : w.scan = { u.scan with signalDue := false } := k.scan (by decide)
  have hstore : w.store = { u.store with lastWritten := true } := k.store (by decide)
  have hsend : w.sender = drainedSender u.sender := k.sender (by decide)
  have hhead : w.head = rewoundHead s.pins.homeAsserted s.tables.scan (s.head.pos + s.tables.scan.rewindMargin) s.head := by
    rw [k.head (by decide), signalled, State.setHead_head, huh, hpins, htab]
  have hgo : GoesOn (s.setPanel x) w := h.toGoesOn.trans (GoesOn.of_pics ((k.pics (by decide)).trans (ks.pics (by decide)))
    ((k.tables (by decide)).trans (ks.tables (by decide))) (by rw [hsend, drainedSender_port]))
  have hdrum : w.drum = u.drum := (k.drum (by decide)).trans (ks.drum (by decide))
  have hbusy : lineupReady w = false := lineupReady_sending (by rw [hsend]; exact drainedSender_sending (h.sending hz))
  have hlit : lampDemand (s.setPanel x) = true := lampDemand_sending h0
    (h.lit.symm.trans (by rw [Scanner.lit, hdue, Bool.or_true])) hd (by rw [State.setPanel_head, hh]; decide)
  have hdark : lampDemand w = false := lampDemand_signalled (by rw [hscan]; exact hf) (by rw [hscan])
  have hsettle := settle_going (s0 := s.setPanel x) h0 hgo kw (by rw [hdrum]; exact h.drum.imp id fun hd => hd.2)
    (fun hq => nomatch hq.symm.trans hbusy)
  obtain ⟨he, hoff⟩ := lampEval_ends hlit hdark
  rw [hsettle, he]
  have hlamp : w.lamp = s.lamp := kw.lamp (by decide)
  rw [hlamp] at hoff
  generalize (lampEval (s.setPanel x) w).lamp = l at hoff ⊢
  refine ⟨⟨hgo.inProgress.trans h0, ?_, ?_, ?_, ?_, ?_, ?_, ?_, ?_, hoff⟩, ?_, hstore⟩
  · exact (congrArg Scanner.state hscan).trans hf
  · exact congrArg Scanner.signalDue hscan
  · exact (congrArg Scanner.waiting hscan).trans hw
  · exact congrArg LineStore.lastWritten hstore
  · show _ → w.sender.state = .drain ∧ w.sender.cadenceOn = true
    rw [hsend, hs]
    exact (drainedSender_paced fill s.sender).1
  · show _ → w.sender = _
    rw [hsend, hs]
    exact (drainedSender_paced fill s.sender).2
  · intro hp
    show w.head = _
    rw [hhead, hp, rewoundHead_home]
  · intro hp
    show w.head = _
    rw [hhead, hp, rewoundHead_steps hl]
  · show w.scan.wRef = _
    rw [hscan]

/-! ### The three ways a finish goes -/

/-- What O26 says of the state at the end of an event whose finish leaves an entry waiting. -/
def Waits (s t : State) : Prop :=
  attemptInProgress t = true ∧ t.scan.state = .finished ∧ t.scan.signalDue = true ∧
    t.store = s.store ∧ t.sender = s.sender ∧ t.head = s.head ∧ t.lamp = s.lamp

/-- What O26 says of the state at the end of an event whose last update faults the lamp. -/
def Dimmed (slot : Nat) (s t : State) : Prop :=
  t.lamp = { state := .fault, warmTimer := none } ∧ t.scan.state = .idle ∧
    t.store.lastWritten = false ∧ t.sender.state = .stopTone ∧ t.sender.held = some .lamp ∧
    FinishedAs slot .failed .lamp s t

/-- A finish with an entry that waits, its event told to the end. -/
theorem Amid.waits {s u w : State} {x : Panel} (h : Amid (s.setPanel x) u) (h0 : attemptInProgress s = true)
    (hz : s.sender.state.sendingAttempt = true) (hf : u.scan.state = .finished) (hdue : u.scan.signalDue = true)
    (hst : u.store = s.store) (hs : u.sender = s.sender) (hg : GoesOn u w) (k : Only [.pics] u w) (y : Panel) :
    Waits s ((settle (s.setPanel x) w).setPanel y) ∧ ((settle (s.setPanel x) w).setPanel y).scan = u.scan := by
  have hscan : w.scan = u.scan := k.scan (by decide)
  have hhead : w.head = s.head := (k.head (by decide)).trans (h.frame.head (by decide))
  have hlamp : w.lamp = s.lamp := (k.lamp (by decide)).trans (h.frame.lamp (by decide))
  rw [h.settles h0 hz hg (k.mono (by decide)) (congrArg Head.state hhead)]
  exact ⟨⟨(hg.inProgress.trans h.inProgress).trans h0, (congrArg Scanner.state hscan).trans hf,
    (congrArg Scanner.signalDue hscan).trans hdue, (k.store (by decide)).trans hst, (k.sender (by decide)).trans hs, hhead,
    hlamp⟩, hscan⟩

/-- A dim last update, its event told to the end. -/
theorem Amid.dimmed {s u w : State} {slot : Nat} {x : Panel} (h : Amid (s.setPanel x) u) (h0 : attemptInProgress s = true)
    (hz : s.sender.state.sendingAttempt = true) (hd : s.pics.onDrum = some slot) (k : Only [.conv] (lampFault u) w)
    (y : Panel) : Dimmed slot s ((settle (s.setPanel x) w).setPanel y) := by
  obtain ⟨h1, -, h3, h4, h5⟩ := h.lampFails h0 hz hd k y
  exact ⟨h1, h3.scanner, h4, h3.tone, h3.held, h5⟩

theorem finishRun_whitened (s : State) :
    finishRun (s.setScan (whitenedScan s)) = signalIfDue (s.setScan (finishedScan s)) := rfl

theorem signalIfDue_waits {s : State} (hw : s.scan.waiting ≠ []) : signalIfDue s = s := if_neg fun h => hw h.2

/-- The fill of an empty store starts no cadence. -/
theorem pacedSender_zero (z : Sender) : pacedSender 0 z = z := if_neg fun h => absurd h.2.2 (by decide)

/-- A count that starts no burst leaves the attempt's record a late line, no more. -/
theorem headAtCount_unburst_frame {rev pos : Nat} {s : State}
    (h : ¬ (pos = s.tables.scan.windowEnd ∧ burstRevolution s rev = true)) :
    GoesOn s (headAtCount rev pos s) ∧ Only [.pics] s (headAtCount rev pos s) := by
  rw [headAtCount_unburst h]
  split
  · exact ⟨checkHeadLate_goesOn s, checkHeadLate_only' s⟩
  · exact ⟨GoesOn.refl s, Only.refl _ s⟩

section
variable {s : State} {slot : Nat} (h0 : attemptInProgress s = true) (hz : s.sender.state.sendingAttempt = true)
  (hd : s.pics.onDrum = some slot) (hrun : s.scan.state = .running)
  (hrev : s.scan.rev = (carryingLine s).nPhase + onDrumLines s) (hlines : 1 ≤ onDrumLines s)

/-! ### The finish at the index pulse -/

section
variable (hq : QuietIndex s) (hdark : ¬ Dark s)
include hrun hrev hlines hdark

theorem Turned.finishes {v : State} (ht : Turned s v) :
    scannerAtIndex v = signalIfDue (v.setScan (finishedScan v)) := by
  have hscan : v.scan = s.scan := ht.frame.scan (by decide)
  have hdims : ¬ Dims s := fun h => (dims_iff.1 h).elim hdark fun hp => by omega
  rw [scannerAtIndex_running (by rw [hscan]; exact hrun), closeRevolution_bright (mt (ht.toSamePlan.dims hscan).1 hdims),
    if_pos (lastRevolution_iff.2 (by rw [hscan, ht.line, ht.lines]; exact hrev)), updateWhite_eq, finishRun_whitened]

include hq hz

theorem finishAtIndex_signals (hw : s.scan.waiting = []) (hh : s.head.state = .scanning)
    (hl : 2 ≤ s.head.pos + s.tables.scan.rewindMargin) (hc : s.drum.state ≠ .cutoff) :
    ∃ t, exec .indexPulse s = .next t ∧ Signals s t ∧ t.scan.wRef = closingWhite s ∧
      t.store = { s.store with lastWritten := true } := by
  refine index_event hq fun x v y ht => ?_
  have hscan : v.scan = s.scan := ht.frame.scan (by decide)
  have hstore : v.store = s.store := ht.frame.store (by decide)
  have hsend : v.sender = s.sender := ht.frame.sender (by decide)
  have ha := (ht.amid (hq.setPanel x)).finished hrun
  have hwait : (v.setScan (finishedScan v)).scan.waiting = [] := by
    show v.scan.waiting = []
    rw [hscan, hw]
  obtain ⟨h1, h2, h3⟩ := ha.signals hq.attempt hz hh hl hc rfl rfl hwait (fill := 0)
    (hsend.trans (pacedSender_zero _).symm) (Only.refl _ _) y
  have hend : (signalIfDue (v.setScan (finishedScan v))).scan.state ≠ .running := by
    rw [ha.signals_at hq.attempt hh hl rfl hwait]
    exact fun h => nomatch h
  rw [Turned.finishes (s := s.setPanel x) hrun hrev hlines hdark ht, headAtIndex_off _ hend]
  exact ⟨h1, h2.trans (closingWhite_congr hscan), h3.trans (by rw [State.setScan_store, hstore])⟩

theorem finishAtIndex_waits (hw : s.scan.waiting ≠ []) :
    ∃ t, exec .indexPulse s = .next t ∧ Waits s t ∧ t.scan.waiting = s.scan.waiting ∧ t.scan.wRef = closingWhite s := by
  refine index_event hq fun x v y ht => ?_
  have hscan : v.scan = s.scan := ht.frame.scan (by decide)
  have hwait : (v.setScan (finishedScan v)).scan.waiting = s.scan.waiting := by
    show v.scan.waiting = _
    rw [hscan]
  obtain ⟨h1, h2⟩ := ((ht.amid (hq.setPanel x)).finished hrun).waits hq.attempt hz rfl rfl (ht.frame.store (by decide))
    (ht.frame.sender (by decide)) (GoesOn.refl _) (Only.refl _ _) y
  rw [Turned.finishes (s := s.setPanel x) hrun hrev hlines hdark ht, signalIfDue_waits (by rw [hwait]; exact hw),
    headAtIndex_off _ (by exact fun h => nomatch h)]
  exact ⟨h1, (congrArg Scanner.waiting h2).trans hwait, (congrArg Scanner.wRef h2).trans (closingWhite_congr hscan)⟩

end

/-! ### The finish at the last sample -/

section
variable (h1 : 1 ≤ s.scan.k) (hpos : s.enc.pos + 1 = samplePos s s.scan.k)
include hrev hlines h1 hpos

/-- The entry of the last sample outside the window. -/
theorem lastEntry_gap (x : Panel) {b : Bool} (hb : inPatch s.tables.scan (s.enc.pos + 1) = b)
    (hw : ¬ (s.tables.scan.windowStart ≤ s.enc.pos + 1 ∧ s.enc.pos + 1 < s.tables.scan.windowEnd)) :
    sampleEntry (countedOn (s.setPanel x)) s.scan.k = ⟨.gap, some (carryingLine s).gapLevel, false, b⟩ := by
  rw [hpos] at hb hw
  have e := sampleEntry_outside (s := countedOn (s.setPanel x)) (k := s.scan.k)
    (show ¬ s.scan.rev ≤ (carryingLine s).nPhase by omega) (Bool.eq_false_iff.2 (mt inWindow_iff.1 hw))
  rw [if_neg (by omega)] at e
  exact e.trans (congrArg _ hb)

/-- The entry of the last sample in the window, outside the white patch. -/
theorem lastEntry_window (x : Panel) (hb : inPatch s.tables.scan (s.enc.pos + 1) = false)
    (hw : s.tables.scan.windowStart ≤ s.enc.pos + 1 ∧ s.enc.pos + 1 < s.tables.scan.windowEnd) :
    sampleEntry (countedOn (s.setPanel x)) s.scan.k = ⟨.picture, none, false, false⟩ := by
  rw [hpos] at hb hw
  rw [sampleEntry_window (s := countedOn (s.setPanel x)) (show ¬ s.scan.rev ≤ (carryingLine s).nPhase by omega)
    (inWindow_iff.2 hw), decide_eq_false (by omega)]
  exact congrArg _ hb

variable (h2 : s.scan.k + 1 = samplesPerRev s) (hp : s.enc.pos + 1 < 8192) (hb : (s.enc.pos + 1) % 512 ≠ 0)
include h0 hz hrun h2 hp hb

/-- The last sample, in the white patch, waits for its reading (R42; log 14). -/
theorem lastSample_reads (hwait : s.scan.waiting = []) (hpatch : inPatch s.tables.scan (s.enc.pos + 1) = true)
    (hw : ¬ (s.tables.scan.windowStart ≤ s.enc.pos + 1 ∧ s.enc.pos + 1 < s.tables.scan.windowEnd))
    (hs : s.enc.pos + 1 ≠ s.tables.scan.windowStart) (he : s.enc.pos + 1 ≠ s.tables.scan.windowEnd)
    (hc : s.conv.current = none) :
    ∃ t, exec (.encoderCount .forward) s = .next t ∧ Only [.enc, .scan, .conv, .panel] s t ∧
      t.scan = { s.scan with k := s.scan.k + 1, waiting := [⟨.gap, some (carryingLine s).gapLevel, false, true⟩] } ∧
      t.conv = { s.conv with current := some (.photocell .white false) } := by
  refine forward_event hp hb hrun fun x y => ?_
  have hent := lastEntry_gap hrev hlines h1 hpos x hpatch hw
  have htake : takeSample s.scan.k (countedOn (s.setPanel x)) = ((countedOn (s.setPanel x)).setConv
      (sampleConv ⟨.gap, some (carryingLine s).gapLevel, false, true⟩ s.conv)).setScan
        { s.scan with waiting := [⟨.gap, some (carryingLine s).gapLevel, false, true⟩], k := s.scan.k + 1 } := by
    have hwc : (countedOn (s.setPanel x)).scan.waiting = [] := hwait
    rw [takeSample_waits, hent, hwc]
    · rfl
    · rw [hent, hwc]
      exact fun v hv => Or.inl (by rw [List.mem_singleton.1 hv])
  have hcount : scannerAtCount (s.enc.pos + 1) (countedOn (s.setPanel x)) =
      takeSample s.scan.k (countedOn (s.setPanel x)) := by
    refine (if_pos ⟨hrun, h1, by show s.scan.k < samplesPerRev s; omega, hpos⟩).trans (if_neg fun hf => ?_)
    have hno := hf.2.2
    rw [(takeSample_goesOn _ _).tables] at hno
    exact nomatch hpatch.symm.trans hno
  have ha := (sampled_amid s.scan.k (s.setPanel x)).1
  rw [hcount, headAtCount_away (by rw [ha.tables]; exact he) (by rw [ha.tables]; exact hs),
    ha.settles h0 hz (GoesOn.refl _) (Only.refl _ _) (congrArg Head.state (ha.frame.head (by decide))), htake,
    sampleConv_white (by exact fun h => nomatch h) rfl hc]
  exact ⟨Only.panels x y (by decide) (setScan_only _ (by decide) (setConv_only _ (by decide)
    (setEnc_only _ (by decide) (Only.refl _ _)))), rfl, rfl⟩

variable (hpatch : inPatch s.tables.scan (s.enc.pos + 1) = false)
include hpatch

omit hlines in
/-- The dim update at the last sample. -/
theorem lastSample_dims (hd : s.pics.onDrum = some slot) (hdark : Dark s) :
    ∃ t, exec (.encoderCount .forward) s = .next t ∧ Dimmed slot s t := by
  refine forward_event hp hb hrun fun x y => ?_
  have e : scannerAtCount (s.enc.pos + 1) (countedOn (s.setPanel x)) =
      finishAtSample (takeSample s.scan.k (countedOn (s.setPanel x))) :=
    scannerAtCount_last (s := countedOn (s.setPanel x)) hrun h1 h2 hpos hrev hpatch
  have hdk : Dark (takeSample s.scan.k (countedOn (s.setPanel x))) := (takeSample_white _ _).2.2 hdark
  have ha := (sampled_amid s.scan.k (s.setPanel x)).1.whitened
  have hl := lampFault_ends (ha.onDrum hd) (ha.inProgress.trans h0) (ha.sending hz)
  rw [e, finishAtSample_dark hdk, updateWhite_eq, headAtCount_still hl.head]
  exact ha.dimmed h0 hz hd (Only.refl _ _) y

variable (hdark : ¬ Dark s) (hwait : s.scan.waiting = [])
include hdark hwait

/-- The last sample in the window finishes the run, its entry still waiting for its level. -/
theorem lastSample_waits
    (hw : s.tables.scan.windowStart ≤ s.enc.pos + 1 ∧ s.enc.pos + 1 < s.tables.scan.windowEnd) :
    ∃ t, exec (.encoderCount .forward) s = .next t ∧ Waits s t ∧ t.scan.waiting = [⟨.picture, none, false, false⟩] ∧
      t.scan.wRef = closingWhite s := by
  refine forward_event hp hb hrun fun x y => ?_
  have hent := lastEntry_window hrev hlines h1 hpos x hpatch hw
  have htake : takeSample s.scan.k (countedOn (s.setPanel x)) = ((countedOn (s.setPanel x)).setConv
      (sampleConv ⟨.picture, none, false, false⟩ s.conv)).setScan
        { s.scan with waiting := [⟨.picture, none, false, false⟩], k := s.scan.k + 1 } := by
    have hwc : (countedOn (s.setPanel x)).scan.waiting = [] := hwait
    rw [takeSample_waits, hent, hwc]
    · rfl
    · rw [hent, hwc]
      exact fun v hv => Or.inr (by rw [List.mem_singleton.1 hv])
  have ha := (sampled_amid s.scan.k (s.setPanel x)).1.finished hrun
  have hcount := scannerAtCount_finishes (s := s.setPanel x) hrun h1 h2 hpos hrev hpatch hdark
    (takeSample_leaves (Or.inr (by rw [State.setPanel_scan, hent])))
  dsimp only [State.setPanel_scan] at hcount
  rw [hcount]
  have hwhite := (takeSample_white s.scan.k (countedOn (s.setPanel x))).1
  have hend := ha.burstRevolution (rev := s.scan.rev)
  rw [htake] at ha hwhite hend ⊢
  obtain ⟨hg, k⟩ := headAtCount_unburst_frame (rev := s.scan.rev) (pos := s.enc.pos + 1) fun hc =>
    absurd (hend.1 hc.2).2 (by show ¬ s.scan.rev < (carryingLine s).nPhase + onDrumLines s; omega)
  obtain ⟨hwt, hscan⟩ := ha.waits h0 hz rfl rfl rfl rfl hg k y
  exact ⟨hwt, congrArg Scanner.waiting hscan, (congrArg Scanner.wRef hscan).trans hwhite⟩

/-- The last sample outside the window finishes the run and signals it. -/
theorem lastSample_signals
    (hw : ¬ (s.tables.scan.windowStart ≤ s.enc.pos + 1 ∧ s.enc.pos + 1 < s.tables.scan.windowEnd))
    (hh : s.head.state = .scanning) (hl : 2 ≤ s.head.pos + s.tables.scan.rewindMargin) (hc : s.drum.state ≠ .cutoff) :
    ∃ t, exec (.encoderCount .forward) s = .next t ∧ Signals s t ∧ t.scan.wRef = closingWhite s ∧
      t.store = { offerEntry ⟨.gap, (carryingLine s).gapLevel, false⟩ s.store with lastWritten := true } := by
  refine forward_event hp hb hrun fun x y => ?_
  have hent := lastEntry_gap hrev hlines h1 hpos x hpatch hw
  have htake : takeSample s.scan.k (countedOn (s.setPanel x)) = offering [⟨.gap, some (carryingLine s).gapLevel, false, false⟩]
      [] { s.scan with k := s.scan.k + 1 } (countedOn (s.setPanel x)) := by
    rw [takeSample_offered (s := countedOn (s.setPanel x)) hwait (by rw [hent]) (by rw [hent]; exact fun h => nomatch h), hent]
    rfl
  have e : scannerAtCount (s.enc.pos + 1) (countedOn (s.setPanel x)) =
      finishAtSample (takeSample s.scan.k (countedOn (s.setPanel x))) :=
    scannerAtCount_last (s := countedOn (s.setPanel x)) hrun h1 h2 hpos hrev hpatch
  have ha := (sampled_amid s.scan.k (s.setPanel x)).1.finished hrun
  obtain ⟨hwhite, hdk⟩ := takeSample_white s.scan.k (countedOn (s.setPanel x))
  rw [e, finishAtSample_bright (mt hdk.1 hdark), updateWhite_eq, finishRun_whitened]
  rw [htake] at ha hwhite ⊢
  obtain ⟨hsig, hwr, hst⟩ := ha.signals h0 hz hh hl hc rfl rfl rfl rfl (Only.refl _ _) y
  rw [headAtCount_still (ha.signals_homeward h0 hh hl rfl rfl)]
  exact ⟨hsig, hwr.trans hwhite, hst⟩

end

/-! ### The finish at a reading -/

/-- The scanner with one more white-patch reading (R47). -/
def readScan (reading : Nat) (s : State) : Scanner :=
  { s.scan with whiteSum := s.scan.whiteSum + reading, whiteCount := s.scan.whiteCount + 1 }

/-- The state of the last reading's finish: the reading counted, its entry let go. -/
def readLast (reading : Nat) (e : WaitEntry) (s : State) : State :=
  offering [{ e with white := false }] [] (readScan reading s) s

theorem readLast_white (reading : Nat) (e : WaitEntry) (s : State) : closingWhite (readLast reading e s) =
    closingWhite (s.setScan (readScan reading s)) := rfl

theorem readLast_dark (reading : Nat) (e : WaitEntry) (s : State) : Dark (readLast reading e s) ↔
    closingWhite (s.setScan (readScan reading s)) < s.tables.scan.darkLevel + 512 :=
  and_iff_right (Nat.succ_pos _)


section
variable {e : WaitEntry} {r : BitVec 12} (hwait : s.scan.waiting = [e])

/-- The offers of a reading in the midst of an event. -/
theorem offering_amid {ws stuck : List WaitEntry} {x : Scanner} (hs : x.state = s.scan.state)
    (hd : x.signalDue = s.scan.signalDue) : Amid s (offering ws stuck x s) :=
  Amid.of_only (offering_only _ _ _ (by decide) (by decide) (by decide) (Only.refl _ s)) (pacedSender_paces _ _)
    (by show x.lit = _; rw [Scanner.lit, Scanner.lit, hs, hd])

/-- A photocell result as an event: what the scanner makes of it, the next conversion, and the evaluations. -/
theorem reading_event {use : PhotoUse} (hc : s.conv.current = some (.photocell use false)) {P : State → Prop}
    (hP : ∀ x y w, Only [.conv] (handResult r.toNat (s.setPanel x)) w → P ((settle (s.setPanel x) w).setPanel y)) :
    ∃ t, exec (.conversionComplete r) s = .next t ∧ P t := by
  refine event_next (f := conversionComplete r.toNat) rfl fun x y => ?_
  rw [conversionComplete_eq (s := s.setPanel x) hc]
  exact hP x y _ (startNextConversion_only (by decide) (Only.refl _ _))

include hwait

/-- The white-patch reading of the last sample finishes the run. -/
theorem takeWhite_finishes {reading l : Nat} (hrun : s.scan.state = .running)
    (hrev : s.scan.rev = (carryingLine s).nPhase + onDrumLines s) (hl : e.level = some l) (he : e.white = true)
    (hk : s.scan.k = samplesPerRev s) (hpatch : inPatch s.tables.scan (samplePos s (s.scan.k - 1)) = true)
    (hph : s.conv.photoWaiting = []) : takeWhite reading s = finishAtSample (readLast reading e s) := by
  have hlist : fillWhite s.scan.waiting = [{ e with white := false }] := by
    rw [hwait]
    exact fillWhite_front _ he
  have hoff : offerReady (s.setScan { readScan reading s with waiting := [{ e with white := false }] }) =
      readLast reading e s :=
    offerReady_offering (s := s) (w := { e with white := false }) (ready := []) (stuck := []) (readScan reading s)
      (fun v hv => by rw [List.mem_singleton.1 hv]; exact ⟨rfl, by rw [hl]; exact fun h => nomatch h⟩) (fun v hv => nomatch hv)
  have hplan : SamePlan s (readLast reading e s) :=
    SamePlan.of_pics rfl rfl (pacedSender_keeps _ _).2.1
  rw [takeWhite, if_pos hrun, hlist]
  refine (if_pos ?_).trans (congrArg finishAtSample hoff)
  dsimp only [readScan] at hoff ⊢
  rw [hoff]
  refine ⟨?_, ?_, hph⟩
  · rw [hplan.lastSampleTaken rfl rfl, lastSampleTaken, lastRevolution_iff.2 hrev]
    exact decide_eq_true hk
  · rw [hplan.samplePos, hplan.tables]
    exact hpatch

/-- A white-patch reading after the finish lets the final entry go. -/
theorem takeWhite_late {reading l : Nat} (hf : s.scan.state = .finished) (hl : e.level = some l) (he : e.white = true) :
    takeWhite reading s = signalIfDue (offering [{ e with white := false }] [] s.scan s) := by
  have hlist : fillWhite s.scan.waiting = [{ e with white := false }] := by
    rw [hwait]
    exact fillWhite_front _ he
  have hoff := offerReady_offering (s := s) (w := { e with white := false }) (ready := []) (stuck := []) s.scan
    (fun v hv => by rw [List.mem_singleton.1 hv]; exact ⟨rfl, by rw [hl]; exact fun h => nomatch h⟩) (fun v hv => nomatch hv)
  rw [List.append_nil] at hoff
  rw [takeWhite, if_neg (by rw [hf]; decide), hlist, hoff]

/-- So does its PICTURE reading. -/
theorem takePicture_late {reading : Nat} (hl : e.level = none) (he : e.white = false) :
    takePicture reading s =
      signalIfDue (offering [{ e with level := some (tonePath s reading) }] [] s.scan s) := by
  have hlist : fillLevel (tonePath s reading) s.scan.waiting = [{ e with level := some (tonePath s reading) }] := by
    rw [hwait]
    exact fillLevel_front _ hl
  have hoff := offerReady_offering (s := s) (w := { e with level := some (tonePath s reading) }) (ready := []) (stuck := [])
    s.scan (fun v hv => by rw [List.mem_singleton.1 hv]; exact ⟨he, fun h => nomatch h⟩) (fun v hv => nomatch hv)
  rw [List.append_nil] at hoff
  rw [takePicture, hlist, hoff]

include h0 hz

/-- The dim update at the last reading. -/
theorem lastReading_dims {l : Nat} (hrun : s.scan.state = .running) (hd : s.pics.onDrum = some slot)
    (hrev : s.scan.rev = (carryingLine s).nPhase + onDrumLines s) (hc : s.conv.current = some (.photocell .white false))
    (hl : e.level = some l) (he : e.white = true) (hk : s.scan.k = samplesPerRev s)
    (hpatch : inPatch s.tables.scan (samplePos s (s.scan.k - 1)) = true) (hph : s.conv.photoWaiting = [])
    (hdark : closingWhite (s.setScan (readScan r.toNat s)) < s.tables.scan.darkLevel + 512) :
    ∃ t, exec (.conversionComplete r) s = .next t ∧ Dimmed slot s t := by
  refine reading_event hc fun x y w k => ?_
  have hread := (handResult_white (s := s.setPanel x) hc).trans
    (takeWhite_finishes (s := s.setPanel x) (reading := r.toNat) hwait hrun hrev hl he hk hpatch hph)
  have hdk : Dark (readLast r.toNat e (s.setPanel x)) := (readLast_dark _ _ _).2 hdark
  rw [hread, finishAtSample_dark hdk, updateWhite_eq] at k
  have ha : Amid (s.setPanel x) (readLast r.toNat e (s.setPanel x)) := offering_amid rfl rfl
  exact ha.whitened.dimmed h0 hz hd k y

variable (hh : s.head.state = .scanning) (hlim : 2 ≤ s.head.pos + s.tables.scan.rewindMargin) (hcut : s.drum.state ≠ .cutoff)
include hh hlim hcut

/-- The last reading finishes the run and signals it. -/
theorem lastReading_signals {l : Nat} (hrun : s.scan.state = .running)
    (hrev : s.scan.rev = (carryingLine s).nPhase + onDrumLines s) (hc : s.conv.current = some (.photocell .white false))
    (hl : e.level = some l) (he : e.white = true) (hk : s.scan.k = samplesPerRev s)
    (hpatch : inPatch s.tables.scan (samplePos s (s.scan.k - 1)) = true) (hph : s.conv.photoWaiting = [])
    (hbright : s.tables.scan.darkLevel + 512 ≤ closingWhite (s.setScan (readScan r.toNat s))) :
    ∃ t, exec (.conversionComplete r) s = .next t ∧ Signals s t ∧ t.scan.wRef = closingWhite (s.setScan (readScan r.toNat s)) ∧
      t.store = { offerEntry ⟨e.kind, l, e.first⟩ s.store with lastWritten := true } := by
  refine reading_event hc fun x y w k => ?_
  have hent : ({ e with white := false } : WaitEntry).entry = ⟨e.kind, l, e.first⟩ := by rw [WaitEntry.entry, hl]; rfl
  have hread := (handResult_white (s := s.setPanel x) hc).trans
    (takeWhite_finishes (s := s.setPanel x) (reading := r.toNat) hwait hrun hrev hl he hk hpatch hph)
  have hdk : ¬ Dark (readLast r.toNat e (s.setPanel x)) := mt (readLast_dark _ _ _).1 (Nat.not_lt.2 hbright)
  rw [hread, finishAtSample_bright hdk, updateWhite_eq, finishRun_whitened] at k
  have ha : Amid (s.setPanel x) (readLast r.toNat e (s.setPanel x)) := offering_amid rfl rfl
  have hsend : (readLast r.toNat e (s.setPanel x)).sender = pacedSender (offeredStore [{ e with white := false }]
    s.store).entries.length s.sender := rfl
  have hst : (readLast r.toNat e (s.setPanel x)).store = offerEntry ⟨e.kind, l, e.first⟩ s.store := by rw [← hent]; rfl
  have hwhite := readLast_white r.toNat e (s.setPanel x)
  have hnone : (readLast r.toNat e (s.setPanel x)).scan.waiting = [] := rfl
  generalize readLast r.toNat e (s.setPanel x) = u at k ha hsend hst hwhite hnone
  obtain ⟨h1, h2, h3⟩ := (ha.finished hrun).signals h0 hz hh hlim hcut rfl rfl hnone hsend k y
  exact ⟨h1, h2.trans hwhite, h3.trans (by rw [State.setScan_store, hst])⟩

omit hwait in
/-- The reading that the final entry of a finished run waits for signals it. -/
theorem lateReading_signals {use : PhotoUse} {v : WaitEntry} (hf : s.scan.state = .finished) (hdue : s.scan.signalDue = true)
    (hc : s.conv.current = some (.photocell use false))
    (hv : ∀ x, handResult r.toNat (s.setPanel x) = signalIfDue (offering [v] [] s.scan (s.setPanel x))) :
    ∃ t, exec (.conversionComplete r) s = .next t ∧ Signals s t ∧ t.scan.wRef = s.scan.wRef ∧
      t.store = { offerEntry v.entry s.store with lastWritten := true } := by
  refine reading_event hc fun x y w k => ?_
  rw [hv] at k
  have ha : Amid (s.setPanel x) (offering [v] [] s.scan (s.setPanel x)) := offering_amid rfl rfl
  exact ha.signals (fill := (offeredStore [v] s.store).entries.length) h0 hz hh hlim hcut hf hdue rfl rfl k y

end

end

/-! ### O26 -/

/-- Settles O26: the finish at the index pulse, at the last sample, and at the readings it waits for. -/
theorem runFinishes : Obligations.RunFinishes := by
  intro s slot hlinks h0 hd hcarry
  have hz : s.sender.state.sendingAttempt = true := hlinks.attempt.symm.trans h0
  refine ⟨?_, ?_, ?_⟩
  · rintro ⟨hrun, -, hrev, hlines⟩ hq
    refine ⟨fun hdark => ?_, fun hdark hw ⟨hh, hl, hc⟩ => ?_, fun hdark hw _ => ?_⟩
    · obtain ⟨t, e, h1, -, h3, h4, h5⟩ := dimClose_event hq hz hrun hd (Or.inl hdark)
      exact ⟨t, e, h1, h3.scanner, h4, h3.tone, h3.held, h5⟩
    · exact finishAtIndex_signals hz hrun hrev hlines hq hdark hw hh hl hc
    · exact finishAtIndex_waits hz hrun hrev hlines hq hdark hw
  · intro p window white ⟨hrun, _, hrev, hlines⟩ hw h2 h1 hpos hp hb
    have hpatch : ¬ (s.tables.scan.whiteStart ≤ s.enc.pos + 1 ∧ s.enc.pos + 1 < s.tables.scan.whiteEnd) →
        inPatch s.tables.scan (s.enc.pos + 1) = false := fun h => Bool.eq_false_iff.2 (mt inPatch_iff.1 h)
    refine ⟨fun hdark hn => ?_, fun hdark hn hwin ⟨hh, hl, hc⟩ => ?_, fun hdark hn hwin => ?_, fun hin hwin hs he hc => ?_⟩
    · exact lastSample_dims h0 hz hrun hrev h1 hpos h2 hp hb (hpatch hn) hd hdark
    · exact lastSample_signals h0 hz hrun hrev hlines h1 hpos h2 hp hb (hpatch hn) hdark hw hwin hh hl hc
    · exact lastSample_waits h0 hz hrun hrev hlines h1 hpos h2 hp hb (hpatch hn) hdark hw hwin
    · exact lastSample_reads h0 hz hrun hrev hlines h1 hpos h2 hp hb hw (inPatch_iff.2 hin) hwin hs he hc
  · intro e r hw hph ⟨hh, hl, hc⟩
    refine ⟨fun l ⟨hrun, _, hrev, _⟩ hcv hlev he hk hp1 hp2 => ?_, fun hf hdue =>
      ⟨fun l hcv hlev he => ?_, fun hcv hlev he => ?_⟩⟩
    · have hpatch := inPatch_iff.2 ⟨hp1, hp2⟩
      exact ⟨lastReading_dims h0 hz hw hrun hd hrev hcv hlev he hk hpatch hph,
        lastReading_signals h0 hz hw hh hl hc hrun hrev hcv hlev he hk hpatch hph⟩
    · have h := lateReading_signals (r := r) (v := { e with white := false }) h0 hz hh hl hc hf hdue hcv fun x =>
        (handResult_white (s := s.setPanel x) hcv).trans (takeWhite_late (s := s.setPanel x) hw hf hlev he)
      rw [show ({ e with white := false } : WaitEntry).entry = ⟨e.kind, l, e.first⟩ by rw [WaitEntry.entry, hlev]; rfl] at h
      exact h
    · exact lateReading_signals (r := r) (v := { e with level := some (tonePath s r.toNat) }) h0 hz hh hl hc hf hdue hcv
        fun x => (handResult_picture (s := s.setPanel x) hcv).trans (takePicture_late (s := s.setPanel x) hw hlev he)

end Sys2Proof.Machine

/-! ## What every step keeps of the links between the blocks (O4) -/

namespace Sys2Proof.Machine

theorem pending_links {s : State} (q : List Instr) (h : Links s) : Links { s with pending := q } := { h with }

/-- After power-on only the levels that are read differ from the reset state's. -/
theorem powerOn_links (cover paper : Bool) (straps : BitVec 7) (s : State) : Links (powerOn cover paper straps s) := by
  unfold powerOn
  refine panelTransmit_links (pending_links s.pending ?_)
  exact setStation_links _ (setPort_same_links .b _ rfl rfl rfl (setPort_same_links .a _ rfl rfl rfl
    (setSlips_links _ (setPins_links _ reset_links))))

/-- A tick moves the counts alone: no activity, list or fault of a port, no stage of the sender, no record and no store. -/
theorem countTick_links {s : State} (h : Links s) : Links (countTick s) where
  portA := ⟨h.portA.list, h.portA.empty, h.portA.carrying⟩
  portB := ⟨h.portB.list, h.portB.empty, h.portB.carrying⟩
  carries p := by cases p; exacts [h.carries .a, h.carries .b]
  attempt := h.attempt
  scanner := h.scanner
  head := h.head
  cadence := h.cadence
  law := h.law
  flushed := h.flushed

theorem keyPressed_links {key : State → State} (hk : ∀ u, Links u → Links (key u)) {s : State} (h : Links s) :
    Links (event (fun s => key (panelHunting s)) s) :=
  event_links (fun _ hu => hk _ (panelHunting_links hu)) h

theorem orderEvent_links {k : OrderKind} {owner : Order → State → State × Verdict}
    (ho : ∀ o u, Links u → Links (owner o u).1) {s : State} (h : Links s) : Links (event (executeHead k owner) s) :=
  event_links (fun _ => executeHead_links ho) h

/-- Every command keeps the links. -/
theorem effect_links (c : Instr) (s : State) (h : Links s) : Links (effect c s) := by
  cases c with
  | powerOn cover paper straps => exact powerOn_links cover paper straps s
  | encoderCount dir => exact event_links (fun _ => encoderCount_links dir) h
  | indexPulse => exact event_links (fun _ => indexPulse_links) h
  | rampTick => exact rampTick_links h
  | spinupTimerExpiry => exact event_links (fun _ => spinupTimerExpiry_links) h
  | stallDeadline => exact event_links (fun _ => stallDeadline_links) h
  | brakingTimerExpiry => exact event_links (fun _ => brakingTimerExpiry_links) h
  | windowSilenceTimerExpiry => exact event_links (fun _ => silenceTimerExpiry_links) h
  | cycleEnd => exact cycleEnd_links h
  | coverChange closed => exact event_links (fun _ => coverChange_links closed) h
  | conversionComplete reading => exact event_links (fun _ => conversionComplete_links _) h
  | lampWarmTimerExpiry => exact event_links (fun _ => lampWarm_links) h
  | stepTimerExpiry => exact event_links (fun _ => stepTimerExpiry_links) h
  | homeSensorAssert level => exact event_links (fun _ => homeSensor_links level) h
  | cadenceEvent => exact event_links (fun _ => cadenceEvent_links) h
  | attemptStart => exact event_links (fun _ => attemptStart_links) h
  | startToneTimerExpiry => exact startToneExpiry_links h
  | stopToneTimerExpiry => exact event_links (fun _ => stopToneExpiry_links) h
  | lineupStart => exact lineupStart_links h
  | lineupWhiteTimerExpiry => exact lineupWhiteExpiry_links h
  | lineupBlackTimerExpiry => exact event_links (fun _ => lineupBlackExpiry_links) h
  | loopCurrentLost p => exact loopCurrentLost_links p h
  | loopCurrentReturn p => exact loopCurrentReturn_links p h
  | loopLossTimerExpiry p => exact event_links (fun _ => loopLossExpiry_links p) h
  | breakTonePresent p => exact breakTonePresent_links p h
  | breakToneAbsent p => exact breakToneAbsent_links p h
  | breakTimerExpiry p => exact event_links (fun _ => breakExpiry_links p) h
  | receptionStart p marks => exact receptionStart_links p marks h
  | syncFailed p => exact syncFailed_links p h
  | blockError p err => exact blockError_links p h
  | gapTimerExpiry p => exact blockError_links p h
  | blockTake p bytes => exact event_links (fun _ => blockTake_links p bytes) h
  | turnaroundTimerExpiry p => exact turnaroundExpiry_links p h
  | echoFailure heard => exact event_links (fun _ => echoFailure_links _ _) h
  | reportEnd heard => exact event_links (fun _ => reportEnd_links _ _) h
  | poll => exact executeHead_links (fun o _ => ownPoll_links o) h
  | grant => exact orderEvent_links (fun o _ => ownGrant_links o) h
  | cancel => exact orderEvent_links (fun o _ => ownCancel_links o) h
  | receipt => exact orderEvent_links (fun o _ => ownReceipt_links o) h
  | load => exact orderEvent_links (fun o _ => ownLoad_links o) h
  | clock => exact shown_links (fun _ => executeHead_links fun o _ => ownClock_links o) h
  | lineup => exact orderEvent_links (fun o _ => ownLineup_links o) h
  | lineClear => exact orderEvent_links (fun o _ => ownLineClear_links o) h
  | mechClear => exact orderEvent_links (fun o _ => ownMechClear_links o) h
  | restart => exact orderEvent_links (fun o _ => ownRestart_links o) h
  | slip => exact executeHead_links (fun o _ => ownSlip_links o) h
  | receiptTimerExpiry => exact event_links (fun _ => receiptExpiry_links) h
  | strobeEnd => exact strobeEnd_links h
  | feedIntervalExpiry => exact shown_links (fun _ => feedIntervalExpiry_links) h
  | coolTimerExpiry => exact coolTimerExpiry_links h
  | paperSensorChange present => exact shown_links (fun _ => paperSensorChange_links present) h
  | paperTimerExpiry => exact shown_links (fun _ => paperTimerExpiry_links) h
  | panelLoad lines slug => exact event_links (fun _ => panelLoad_links _ _) h
  | spin => exact keyPressed_links (fun _ => spinKey_links) h
  | stop => exact keyPressed_links (fun _ => stopKey_links) h
  | abort => exact keyPressed_links (fun _ => abortKey_links) h
  | reprint => exact keyPressed_links (fun _ => reprintKey_links) h
  | resetMech => exact keyPressed_links (fun _ => resetMechKey_links) h
  | panelRecordMalformed bytes => exact panelFeed_links bytes h
  | panelGapTimerExpiry => exact panelGap_links h
  | panelRecordSent => exact panelRecordSent_links h
  | clockSecond => exact clockSecond_links h

/-- Settles O4: each command and the counting of a tick keep the links. -/
theorem stepKeepsLinks : Obligations.StepKeepsLinks := fun _ _ h hs =>
  step_keeps (fun _ q => pending_links q) effect_links (fun _ => panelTransmit_links) (fun _ => countTick_links) h hs

end Sys2Proof.Machine

/-! ## The tone path (O22) -/

namespace Sys2Proof.Machine

/-! ### The normalised reading (R61) -/

/-- Above the dark level the normalised reading is the floor of the quotient, and stops at 4,095; below it the difference is
0. -/
theorem normalise_eq {r d w : Nat} (h : d < w) : normalise r d w = min 4095 ((r - d) * 4096 / (w - d)) := by
  have hw : ((w : Int) - d) = ((w - d : Nat) : Int) := by omega
  rw [normalise, clampInt_eq_max_min (by decide), hw, Int.fdiv_eq_ediv_of_nonneg _ (by omega)]
  rcases Nat.le_total d r with hr | hr
  · have hq : ((r : Int) - d) * 4096 / ((w - d : Nat) : Int) = (((r - d) * 4096 / (w - d) : Nat) : Int) := by
      rw [Int.natCast_ediv, Int.natCast_mul, Int.natCast_sub hr]
      rfl
    rw [hq]
    generalize (r - d) * 4096 / (w - d) = q
    omega
  · have hq : ((r : Int) - d) * 4096 / ((w - d : Nat) : Int) ≤ 0 := Int.ediv_nonpos_of_nonpos_of_neg (by omega) (by omega)
    rw [Nat.sub_eq_zero_of_le hr, Nat.zero_mul, Nat.zero_div, max_eq_left ((min_le_right _ _).trans hq)]
    rfl

/-- From the white reference on the quotient is at least 4,096. -/
theorem normalise_white {r d w : Nat} (h : d < w) (hr : w ≤ r) : normalise r d w = 4095 := by
  have hq : 4096 ≤ (r - d) * 4096 / (w - d) := (Nat.le_div_iff_mul_le (by omega)).2 (by omega)
  rw [normalise_eq h]
  omega

/-- Between dark and white the quotient stays below 4,096, so that nothing is clamped. -/
theorem normalise_between {r d w : Nat} (hd : d ≤ r) (hw : r < w) : normalise r d w = (r - d) * 4096 / (w - d) := by
  have hq : (r - d) * 4096 / (w - d) < 4096 := (Nat.div_lt_iff_lt_mul (by omega)).2 (by omega)
  rw [normalise_eq (by omega)]
  omega

/-! ### The tone level (R62) -/

/-- The rounded fraction d × f / 256 of a span lies between 0 and the span. -/
theorem roundedFraction_mem (d : Int) {f : Nat} (hf : f < 256) :
    min 0 d ≤ (d * f + 128) / 256 ∧ (d * f + 128) / 256 ≤ max 0 d := by
  rcases Int.le_total 0 d with hd | hd
  · have h0 : 0 ≤ d * f := mul_nonneg hd (by omega)
    have h1 : d * f ≤ d * 255 := mul_le_mul_of_nonneg_left (by omega) hd
    omega
  · have h0 : d * f ≤ 0 := mul_nonpos_of_nonpos_of_nonneg hd (by omega)
    have h1 : d * 255 ≤ d * f := mul_le_mul_of_nonpos_left (by omega) hd
    omega

/-- The tone level is the lower entry and the rounded fraction, which never leads below 0. -/
theorem toneLevel_eq (table : List Nat) (n : Nat) : (toneLevel table n : Int) = table.getD (n / 256) 0 +
    (((table.getD (n / 256 + 1) 0 : Int) - table.getD (n / 256) 0) * (n % 256 : Nat) + 128) / 256 := by
  obtain ⟨hlow, -⟩ := roundedFraction_mem ((table.getD (n / 256 + 1) 0 : Int) - table.getD (n / 256) 0)
    (Nat.mod_lt n (by decide : 256 > 0))
  unfold toneLevel
  dsimp only
  rw [Int.fdiv_eq_ediv_of_nonneg _ (by decide)]
  omega

/-- Settles O22: the three parts of the reading, then the bounds of the level, the table entry itself, the rounding. (The name
`tonePath` is the model's.) -/
theorem tonePath_interpolates : Obligations.TonePath := by
  refine ⟨fun r d w h => ⟨fun hr => ?_, normalise_white h, fun hd hw => ?_⟩, fun table n => ?_⟩
  · rw [normalise_eq h, Nat.sub_eq_zero_of_le hr, Nat.zero_mul, Nat.zero_div, Nat.min_zero]
  · rw [normalise_between hd hw]
    exact ⟨Nat.div_mul_le_self _ _, Nat.lt_mul_of_div_lt (Nat.lt_succ_self _) (Nat.sub_pos_of_lt h)⟩
  · intro lo hi f
    have he : (toneLevel table n : Int) = lo + (((hi : Int) - lo) * f + 128) / 256 := toneLevel_eq table n
    obtain ⟨hlow, hhigh⟩ := roundedFraction_mem ((hi : Int) - lo) (f := f) (Nat.mod_lt n (by decide))
    refine ⟨by omega, by omega, fun hf => ?_, by omega, by omega⟩
    rw [hf, Int.natCast_zero, Int.mul_zero] at he
    omega

end Sys2Proof.Machine

/-! ## Cadence events (O31) -/

namespace Sys2Proof.Machine

/-! ### Events that show the evaluations nothing new (log 29) -/

theorem standardNumber_view {s t : State} (h : onDrumView t = onDrumView s) : standardNumber t = standardNumber s := by
  have e : ∀ u : State, onDrumGrant u = (onDrumView u).bind (·.2.2) := fun u => by
    rw [onDrumGrant, onDrumView, Option.bind_map]
    rfl
  rw [standardNumber, standardNumber, e, e, h]

namespace Steady
variable {s t : State}

theorem state (k : Steady s t) : onDrumState t = onDrumState s := onDrumState_view k.view

theorem inFault (k : Steady s t) (p : PortId) : (t.port p).inFault = (s.port p).inFault := by
  rw [Port.inFault, Port.inFault, k.cause]

theorem lampDemand (k : Steady s t) : Machine.lampDemand t = Machine.lampDemand s := by
  simp only [Machine.lampDemand, k.state, ne_eq, k.scan, k.signal, k.drum, k.head]

theorem attemptReady (k : Steady s t) : Machine.attemptReady t = Machine.attemptReady s := by
  simp only [Machine.attemptReady, k.state, k.drum, k.head, k.lamp, k.free, chosenPort_view k.view k.inFault, k.idle]

theorem lineupReady (k : Steady s t) : Machine.lineupReady t = Machine.lineupReady s := by
  simp only [Machine.lineupReady, k.free, k.request, k.idle]

/-- The evaluations change nothing after an event that shows them nothing new, the STANDARD table among it. -/
theorem settles (k : Steady s t) (ht : t.tables = s.tables) : settle s t = t :=
  settle_unchanged (demand_congr k.latch k.state).symm k.drum.symm k.cover.symm
    ((standardKey_number ht).2 (standardNumber_view k.view).symm) k.head.symm k.state.symm k.lampDemand.symm
    (k.inFault .a).symm (k.inFault .b).symm k.attemptReady.symm k.lineupReady.symm

/-- An operation on the store, the sender and the marks of a record that frees no sender, starts none and leaves the requested
line-up. -/
theorem of_sent (k : Only [.store, .sender, .pics] s t) (hv : onDrumView t = onDrumView s)
    (hf : t.sender.state = .free ↔ s.sender.state = .free) (hq : t.sender.lineupReq = s.sender.lineupReq) : Steady s t where
  drum := by rw [k.drum (by decide)]
  latch := by rw [k.drum (by decide)]
  view := hv
  cover := by rw [k.pins (by decide)]
  profile := by rw [k.tables (by decide)]
  scan := by rw [k.scan (by decide)]
  signal := by rw [k.scan (by decide)]
  lamp := by rw [k.lamp (by decide)]
  head := by rw [k.head (by decide)]
  free := hf
  request := hq
  cause p := by rw [k.port (p := p) (by cases p <;> decide)]
  idle p := by rw [k.port (p := p) (by cases p <;> decide)]

end Steady

/-! ### An entry taken (R68, R89, R90) -/

/-- A cadence event starts by taking rev_ticks from the accumulator (R89). -/
def pacedOnce (s : State) : State := s.setSender { s.sender with acc := s.sender.acc - revTicks s }

theorem cadenceEvent_on {s : State} (h : s.sender.cadenceOn = true) : cadenceEvent s = takeEntry (pacedOnce s) := if_pos h

theorem pacedOnce_only (s : State) : Only [.store, .sender] s (pacedOnce s) := setSender_only _ (by decide) (Only.refl _ _)

/-- The oldest entry leaves the store and is sent (R68, R90). -/
theorem takeEntry_sends {s : State} {e : Entry} {rest : List Entry} (h : s.store.entries = e :: rest) :
    Only [.store, .sender] s (takeEntry s) ∧
      (takeEntry s).store = { s.store with entries := rest, sent := satInc 4294967295 s.store.sent } ∧
      (takeEntry s).sender = sendEntry e s.sender := by
  rw [takeEntry, h]
  exact ⟨setSender_only _ (by decide) (setStore_only _ (by decide) (Only.refl _ _)), rfl, rfl⟩

/-- No entry frees the sender or takes it out of FREE. -/
theorem stageAfter_free (st : SenderState) (k : EntryKind) : stageAfter st k = .free ↔ st = .free := by
  cases st <;> cases k <;> decide

/-- A gap, or an entry in DRAIN, leaves the stage (R90). -/
theorem stageAfter_stays {st : SenderState} {k : EntryKind} (h : k = .gap ∨ st = .drain) : stageAfter st k = st := by
  rcases h with rfl | rfl
  · cases st <;> rfl
  · rfl

/-- In PREFILL, PHASING and PICTURE the stage follows the kind of the entry (R90). -/
theorem stageAfter_moves {st : SenderState} (h : st = .prefill ∨ st = .phasing ∨ st = .picture) :
    stageAfter st .phasing = .phasing ∧ stageAfter st .picture = .picture := by
  rcases h with rfl | rfl | rfl <;> exact ⟨rfl, rfl⟩

theorem takeEntry_settles {s : State} {e : Entry} {rest : List Entry} (h : s.store.entries = e :: rest) :
    settle s (takeEntry (pacedOnce s)) = takeEntry (pacedOnce s) := by
  obtain ⟨k, -, hz⟩ := takeEntry_sends (s := pacedOnce s) h
  have ks : Only [.store, .sender, .pics] s (takeEntry (pacedOnce s)) := ((pacedOnce_only s).trans k).mono (by decide)
  refine (Steady.of_sent ks (onDrumView_congr (k.pics (by decide))) ?_ ?_).settles (ks.tables (by decide))
  · rw [hz]
    exact stageAfter_free _ _
  · rw [hz]
    rfl

/-! ### An underrun (R69, R74) -/

/-- The underrun passes underrun_limit, with the picture not reported skewed before (R74). -/
def Skews (s : State) : Prop :=
  (carryingLine s).underrunLimit < satInc 65535 s.store.underruns ∧ s.store.skewReported = false

theorem takeEntry_nil {s : State} (h : s.store.entries = []) (hl : s.store.lastWritten = false) : takeEntry s = underrun s := by
  rw [takeEntry, h]
  simp only [hl, Bool.false_eq_true, if_false]

theorem underrun_skews {s : State} (h : Skews s) : underrun s = modOnDrum (fun r => { r with skewed := true })
    (s.setStore { s.store with underruns := satInc 65535 s.store.underruns, skewReported := true }) := if_pos h

theorem underrun_counts {s : State} (h : ¬ Skews s) :
    underrun s = s.setStore { s.store with underruns := satInc 65535 s.store.underruns } := if_neg h

theorem underrun_store (s : State) : (underrun s).store = { s.store with
    underruns := satInc 65535 s.store.underruns
    skewReported := s.store.skewReported || decide ((carryingLine s).underrunLimit < satInc 65535 s.store.underruns) } := by
  by_cases h : Skews s
  · rw [underrun_skews h, (modOnDrum_only (ps := [.pics]) _ (by decide) (Only.refl _ _)).store (by decide),
      decide_eq_true h.1, Bool.or_true]
    rfl
  · have hr : (s.store.skewReported || decide ((carryingLine s).underrunLimit < satInc 65535 s.store.underruns)) =
        s.store.skewReported := by
      cases hs : s.store.skewReported with
      | true => rfl
      | false => exact decide_eq_false fun hlt => h ⟨hlt, hs⟩
    rw [underrun_counts h, hr]
    rfl

theorem modOnDrum_rec {f : PicRecord → PicRecord} {s : State} {slot : Nat} {r : PicRecord} (ho : s.pics.onDrum = some slot)
    (hr : s.rec? slot = some r) : (modOnDrum f s).rec? slot = some (f r) := by
  rw [modOnDrum, ho]
  dsimp only
  rw [rec?_modRec, hr]
  rfl

theorem underrun_rec {s : State} {slot : Nat} {r : PicRecord} (h : Skews s) (ho : s.pics.onDrum = some slot)
    (hr : s.rec? slot = some r) : (underrun s).rec? slot = some { r with skewed := true } := by
  rw [underrun_skews h]
  exact modOnDrum_rec ho hr

/-- The mark of a skewed picture is nothing the evaluations read. -/
theorem underrun_view (s : State) : onDrumView (underrun s) = onDrumView s := by
  by_cases h : Skews s
  · rw [underrun_skews h, modOnDrum]
    split
    · exact onDrumView_modRec fun _ => ⟨rfl, rfl, rfl⟩
    · rfl
  · rw [underrun_counts h]
    rfl

/-- The frame of an underrun at a cadence event. -/
theorem underrun_pacedOnce_only (s : State) : Only [.store, .sender, .pics] s (underrun (pacedOnce s)) :=
  underrun_only (by decide) (by decide) (setSender_only _ (by decide) (Only.refl _ _))

theorem underrun_sender (s : State) : (underrun s).sender = s.sender :=
  (underrun_only (ps := [.store, .pics]) (by decide) (by decide) (Only.refl _ _)).sender (by decide)

theorem underrun_settles (s : State) : settle s (underrun (pacedOnce s)) = underrun (pacedOnce s) := by
  have hz := underrun_sender (pacedOnce s)
  exact (Steady.of_sent (underrun_pacedOnce_only s) (underrun_view (pacedOnce s)) (by rw [hz]; exact Iff.rfl)
    (by rw [hz]; rfl)).settles ((underrun_pacedOnce_only s).tables (by decide))

/-! ### The drained answer (R92, R93, R147, R148) -/

theorem takeEntry_drained {s : State} (h : s.store.entries = []) (hl : s.store.lastWritten = true)
    (hs : s.sender.state = .drain) : takeEntry s = attemptEnd .complete s := by
  rw [takeEntry, h]
  simp only [hl, hs, if_true]

/-- A sender that closes an attempt other than for LINE sends the stop tone for stop_time (R93). -/
theorem closeSender_stageTimer {o : AttemptOutcome} {s : State} (ho : o ≠ .line) (hs : s.sender.state.sendingAttempt = true) :
    (closeSender o s).sender.stageTimer = some ((carryingLine s).stopTime * 100000) := by
  rw [closeSender, if_neg ho, if_pos hs]
  rfl

/-- The record that awaits its receipts has the wait of its grant on the receipt timer (R148). -/
theorem awaitReceipts_awaits {slot : Nat} {s : State} {r : PicRecord} (ho : s.pics.onDrum = some slot)
    (hr : s.rec? slot = some r) : onDrumState (awaitReceipts slot s) = .awaiting ∧
      (awaitReceipts slot s).pics.receiptTimer = some ((r.grant.map (·.wait)).getD 0 * 1000000) := by
  refine ⟨?_, ?_⟩
  · show onDrumState (modRec slot _ s) = _
    rw [onDrumState_modRec, if_pos ho, hr]
    rfl
  · show some ((((s.rec? slot).bind (·.grant)).map (·.wait)).getD 0 * 1000000) = _
    rw [hr]
    rfl

/-- The end of a completed attempt leaves the record AWAITING, the stop tone to run for stop_time (R93, R147, R148). -/
theorem attemptEnd_completes {s : State} (ha : attemptInProgress s = true) (hs : s.sender.state.sendingAttempt = true) :
    onDrumState (attemptEnd .complete s) = .awaiting ∧
      (attemptEnd .complete s).pics.receiptTimer = some (((onDrumGrant s).map (·.wait)).getD 0 * 1000000) ∧
      (attemptEnd .complete s).sender.stageTimer = some ((carryingLine s).stopTime * 100000) := by
  cases ho : s.pics.onDrum with
  | none => simp [attemptInProgress, onDrumState, onDrumRec, ho] at ha
  | some slot =>
    obtain ⟨r, hr, -⟩ := rec?_of_onDrumState ho (by rw [(attemptInProgress_iff s).1 ha]; decide)
    obtain ⟨hco, -, l, -, hcr⟩ := closed_record (outcome := .complete) ho hr
    obtain ⟨h1, h2⟩ := awaitReceipts_awaits hco hcr
    have hpics : (attemptEnd .complete s).pics = (awaitReceipts slot (closed .complete s)).pics := by
      rw [attemptEnd_eq ho ha]
      exact (endAttemptUse_only (ps := [.head, .tables]) (by decide)
        (rewindHead_only (by decide) (by decide) (Only.refl _ _))).pics (by decide)
    have hg : onDrumGrant s = r.grant := by rw [onDrumGrant, onDrumRec_of ho hr]; rfl
    refine ⟨(onDrumState_congr hpics).trans h1, by rw [hpics, hg]; exact h2, ?_⟩
    have k : Only [.scan, .conv, .store, .pics] s (closeAttempt .complete (flushStore (stopScanner s))) :=
      closeAttempt_only _ (by decide) (flushStore_only (by decide) (stopScanner_only (by decide) (by decide) (Only.refl _ s)))
    have hz := k.sender (by decide)
    obtain ⟨-, -, -, h4, -⟩ := attemptEnd_ends (outcome := .complete) ha
    rw [h4, closeSender_stageTimer (by decide) (by rw [hz]; exact hs), carryingLine, hz]
    have ht := k.tables (by decide)
    cases hp : s.sender.port.getD .a <;> simp only [carryingLine, lineOf, hp, ht]

theorem drained_event {s : State} (hl : Links s) (hon : s.sender.cadenceOn = true) (he : s.store.entries = [])
    (hw : s.store.lastWritten = true) (hs : s.sender.state = .drain) :
    ∃ t, exec .cadenceEvent s = .next t ∧ t.sender.state = .stopTone ∧ t.sender.cadenceOn = false ∧
      t.sender.held = some .complete ∧ t.sender.stageTimer = some ((carryingLine s).stopTime * 100000) ∧
      t.scan.state = .idle ∧ onDrumState t = .awaiting ∧
      t.pics.receiptTimer = some (((onDrumGrant s).map (·.wait)).getD 0 * 1000000) := by
  refine event_next (f := cadenceEvent) rfl fun x y => ?_
  rw [cadenceEvent_on (s := s.setPanel x) hon, takeEntry_drained (s := pacedOnce (s.setPanel x)) he hw hs]
  have hsend : s.sender.state.sendingAttempt = true := by rw [hs]; rfl
  have ha : attemptInProgress (pacedOnce (s.setPanel x)) = true := hl.attempt.trans hsend
  obtain ⟨h1, h2, h3⟩ := attemptEnd_completes ha hsend
  have hend := attemptEnd_ended (outcome := .complete) (by decide) ha hsend
  have hf : ∀ p, ((attemptEnd .complete (pacedOnce (s.setPanel x))).port p).inFault = ((s.setPanel x).port p).inFault :=
    fun p => by
      obtain ⟨-, -, -, -, -, h6⟩ := attemptEnd_ends (outcome := .complete) ha
      rw [Port.inFault, (h6 p).2.2, pacedOnce, State.setSender_port]
      rfl
  have k := settle_ended_only hf (by rw [h1]; decide) (by rw [hend.tone]; decide)
  generalize settle (s.setPanel x) (attemptEnd .complete (pacedOnce (s.setPanel x))) = w at k ⊢
  have hz : (w.setPanel y).sender = _ := k.sender (by decide)
  have hp : (w.setPanel y).pics = _ := k.pics (by decide)
  exact ⟨(congrArg _ hz).trans hend.tone, (congrArg _ hz).trans hend.cadence, (congrArg _ hz).trans hend.held,
    (congrArg _ hz).trans h3, (congrArg _ (k.scan (by decide))).trans hend.scanner, (onDrumState_congr hp).trans h1,
    (congrArg _ hp).trans h2⟩

/-! ### O31 -/

/-- Settles O31: the entry taken, the underrun, the drained answer. -/
theorem cadenceEvents : Obligations.CadenceEvents := by
  refine ⟨fun s e rest hon he => ?_, fun s hon he => ⟨fun hw => ?_, fun hw hs hl => drained_event hl hon he hw hs⟩⟩
  · refine event_to (f := cadenceEvent) (u := fun x => takeEntry (pacedOnce (s.setPanel x))) rfl (fun x => ?_) fun x y => ?_
    · rw [cadenceEvent_on (s := s.setPanel x) hon]
      exact takeEntry_settles (s := s.setPanel x) he
    · obtain ⟨k, hst, hz⟩ := takeEntry_sends (s := pacedOnce (s.setPanel x)) he
      have hstage := congrArg Sender.state hz
      have hlines := congrArg Sender.linesSent hz
      refine ⟨Only.panels x y (by decide) (((pacedOnce_only _).trans k).mono (by decide)), hst, ?_, hlines,
        fun h => hstage.trans (stageAfter_stays h), fun h => ⟨fun hk => ?_, fun hk => ?_⟩⟩
      · show (takeEntry (pacedOnce (s.setPanel x))).sender = _
        rw [State.setPanel_sender, hstage, hlines, hz]
        rfl
      · exact hstage.trans ((congrArg _ hk).trans (stageAfter_moves h).1)
      · exact hstage.trans ((congrArg _ hk).trans (stageAfter_moves h).2)
  · refine event_to (f := cadenceEvent) (u := fun x => underrun (pacedOnce (s.setPanel x))) rfl (fun x => ?_) fun x y => ?_
    · rw [cadenceEvent_on (s := s.setPanel x) hon, takeEntry_nil (s := pacedOnce (s.setPanel x)) he hw]
      exact underrun_settles (s.setPanel x)
    · refine ⟨Only.panels x y (by decide) ((underrun_pacedOnce_only _).mono (by decide)), underrun_sender _,
        underrun_store _, fun slot r hover hrep ho hr => underrun_rec (s := pacedOnce (s.setPanel x)) ⟨hover, hrep⟩ ho hr,
        fun h => ?_⟩
      have hn : ¬ Skews (pacedOnce (s.setPanel x)) := fun ⟨hover, hrep⟩ => by
        rcases h with h | h
        · exact absurd hover (Nat.not_lt.2 h)
        · exact nomatch h.symm.trans hrep
      rw [underrun_counts hn]
      rfl

end Sys2Proof.Machine

/-! ## The carrier amplitude (O30) -/

namespace Sys2Proof.Machine

/-! ### The carrier amplitude (R91) -/

/-- The rounded fraction of the span `d` that a level gives (R91). -/
theorem spanRounded_bounds (d : Int) (level : Nat) :
    255 * (d * level + 127).fdiv 255 ≤ d * level + 127 ∧ d * level + 127 < 255 * (d * level + 127).fdiv 255 + 255 := by
  rw [Int.fdiv_eq_ediv_of_nonneg _ (by decide)]
  omega

/-- The fraction lies between nothing and the whole span, whichever way the span goes. -/
theorem spanRounded_within (d : Int) {level : Nat} (h : level ≤ 255) :
    min 0 d ≤ (d * level + 127).fdiv 255 ∧ (d * level + 127).fdiv 255 ≤ max 0 d := by
  obtain ⟨hlo, hhi⟩ := spanRounded_bounds d level
  have hl : (level : Int) ≤ 255 := by exact_mod_cast h
  rcases le_total 0 d with hd | hd
  · have h0 : 0 ≤ d * level := Int.mul_nonneg hd (Int.natCast_nonneg _)
    have h1 : d * level ≤ d * 255 := Int.mul_le_mul_of_nonneg_left hl hd
    omega
  · have h0 : d * level ≤ 0 := Int.mul_nonpos_of_nonpos_of_nonneg hd (Int.natCast_nonneg _)
    have h1 : d * 255 ≤ d * level := Int.mul_le_mul_of_nonpos_left hd hl
    omega

/-- The amplitude is A_black and the rounded fraction of the span: no whole number is cut off at 0. -/
theorem amplitude_eq (lp : LineProfile) {level : Nat} (h : level ≤ 255) : (amplitude lp level : Int) =
    lp.aBlack + (((lp.aWhite : Int) - lp.aBlack) * level + 127).fdiv 255 := by
  have hw := (spanRounded_within ((lp.aWhite : Int) - lp.aBlack) h).1
  exact Int.toNat_of_nonneg (by omega)

/-- Settles O30: the bounds and the ends from the rounded fraction; the tone of the three stages that carry levels. -/
theorem carrierAmplitudeBetweenEnds : Obligations.CarrierAmplitudeBetweenEnds := by
  refine ⟨fun lp level h => ?_, fun s hs => ?_⟩
  · have ha := amplitude_eq lp h
    obtain ⟨hlo, hhi⟩ := spanRounded_bounds ((lp.aWhite : Int) - lp.aBlack) level
    obtain ⟨hmin, hmax⟩ := spanRounded_within ((lp.aWhite : Int) - lp.aBlack) h
    dsimp only
    generalize (((lp.aWhite : Int) - lp.aBlack) * level + 127).fdiv 255 = r at *
    refine ⟨by omega, by omega, fun h0 => ?_, fun h1 => ?_, by omega, by omega⟩
    · subst h0
      simp only [Nat.cast_zero, mul_zero] at hlo hhi
      omega
    · subst h1
      push_cast at hlo hhi
      omega
  · rcases hs with hs | hs | hs <;> simp only [toneOut, hs]

end Sys2Proof.Machine

/-! ## Reports: their start, their end, their bits on the line (O35) -/

namespace Sys2Proof.Machine

/-! ### A report that starts (R79, R108) -/

/-- The port with the report at the head of its list on the line; a reception in progress is abandoned (R79, R101). -/
def startedPort (x : Port) : Port := { x with activity := .reporting, rx := rxIdle }

theorem Port.reportDue_iff {x : Port} :
    x.reportDue = true ↔ x.activity = .answerDue ∧ (headReport x.list).isSome = true ∧ x.turn = .stopped := by
  simp only [Port.reportDue, Bool.and_eq_true, decide_eq_true_eq, and_assoc]

theorem reportStart_on {p : PortId} {s : State} (h : (s.port p).reportDue = true) :
    reportStart p s = s.setPort p (startedPort (s.port p)) := if_pos (Port.reportDue_iff.1 h)

theorem startReports_eq {s : State} (h : s.orders = [] ∨ eligible s = false) :
    startReports s = reportStart .b (reportStart .a s) :=
  if_neg fun ⟨hne, he⟩ => h.elim hne fun hf => nomatch hf.symm.trans he

theorem startReports_waits {s : State} (ho : s.orders ≠ []) (he : eligible s = true) : startReports s = s :=
  if_pos ⟨ho, he⟩

/-- With no eligible order waiting a report that is due starts. -/
theorem startReports_starts {s : State} {p : PortId} (h : s.orders = [] ∨ eligible s = false)
    (hd : (s.port p).reportDue = true) : (startReports s).port p = startedPort (s.port p) := by
  rw [startReports_eq h]
  cases p with
  | a => rw [reportStart_other (by decide), reportStart_on hd, State.setPort_port_same]
  | b =>
    have hb : (reportStart .a s).port .b = s.port .b := reportStart_other (by decide) s
    rw [reportStart_on (by rw [hb]; exact hd), State.setPort_port_same, hb]

/-- It starts alone, when the other port has none that is due. -/
theorem startReports_alone {s : State} {p : PortId} (h : s.orders = [] ∨ eligible s = false)
    (hd : (s.port p).reportDue = true) (ho : (s.port p.other).reportDue = false) :
    startReports s = s.setPort p (startedPort (s.port p)) := by
  rw [startReports_eq h]
  cases p with
  | a =>
    rw [reportStart_on hd]
    exact reportStart_off ho
  | b => rw [reportStart_off (p := .a) ho, reportStart_on hd]

theorem eq_other_of_ne {p q : PortId} (h : q ≠ p) : q = p.other := by
  revert h
  cases p <;> cases q <;> decide

/-- No report is due after a port has changed to one that is not due, the other not being due either. -/
theorem noneReportDue_setPort {s : State} {p : PortId} {x : Port} (hx : x.reportDue = false)
    (ho : (s.port p.other).reportDue = false) : NoneReportDue (s.setPort p x) := fun q => by
  by_cases hq : q = p
  · subst hq
    rwa [State.setPort_port_same]
  · rw [State.setPort_port_other _ _ _ _ (Ne.symm hq), eq_other_of_ne hq]
    exact ho

theorem turnaroundExpiry_running {s : State} {p : PortId} {n : Nat} (h : (s.port p).turn = .running n) :
    turnaroundExpiry p s = startReports (s.setPort p { s.port p with turn := .stopped }) := by
  rw [turnaroundExpiry, h]

/-- What holds the order queue back goes on through a change of a turnaround timer. -/
theorem eligible_setPort_turn (s : State) (p : PortId) (tn : Turnaround) :
    eligible (s.setPort p { s.port p with turn := tn }) = eligible s := by cases p <;> rfl

/-- A formed report at the head starts at the turnaround timer's end (R79). -/
theorem turnaroundExpiry_starts {s : State} {p : PortId} {n : Nat} {r : Report} {rest : List RepItem}
    (ht : (s.port p).turn = .running n) (ha : (s.port p).activity = .answerDue) (hl : (s.port p).list = .report r :: rest)
    (ho : (s.port p.other).reportDue = false) (hq : s.orders = [] ∨ eligible s = false) :
    turnaroundExpiry p s = s.setPort p (startedPort { s.port p with turn := .stopped }) := by
  rw [turnaroundExpiry_running ht, startReports_alone (p := p), State.setPort_port_same, State.setPort_setPort]
  · rw [State.setPort_orders, eligible_setPort_turn]
    exact hq
  · rw [State.setPort_port_same]
    exact Port.reportDue_iff.2 ⟨ha, by rw [hl]; rfl, rfl⟩
  · rw [State.setPort_port_other _ _ _ _ (by cases p <;> decide)]
    exact ho

/-- A reservation at the head holds the list back (R79). -/
theorem turnaroundExpiry_reserved {s : State} {p : PortId} {n : Nat} {rest : List RepItem}
    (ht : (s.port p).turn = .running n) (hl : (s.port p).list = .reservation :: rest)
    (ho : (s.port p.other).reportDue = false) :
    turnaroundExpiry p s = s.setPort p { s.port p with turn := .stopped } := by
  rw [turnaroundExpiry_running ht]
  refine startReports_off (noneReportDue_setPort ?_ ho)
  simp [Port.reportDue, hl, headReport]

/-! ### The answer of a CLOCK that comes with the timer at rest (R79, R108; log 35) -/

theorem placeAnswer_reserved {o : Order} {r : Report} {s : State} {rest : List RepItem} (hb : o.broadcast = false)
    (hr : o.reserved = true) (hl : (s.port o.port).list = .reservation :: rest) :
    placeAnswer o r s = s.setPort o.port { s.port o.port with list := .report r :: rest } := by
  rw [placeAnswer, if_pos ⟨hb, hr⟩]
  simp only [hl, replaceReservation]

/-- A command with the panel's share alone ends in a state of the kind `P`, when its operation does. -/
theorem shown_next {c : Instr} {f : State → State} {s : State} {P : State → Prop} (hc : exec c s = .next (shown f s))
    (h : ∀ x y, P ((f (s.setPanel x)).setPanel y)) : ∃ t, exec c s = .next t ∧ P t := by
  obtain ⟨x, y, e⟩ := shown_eq f s
  exact ⟨_, hc, e ▸ h x y⟩

/-- A placed answer at the head of the list of a port ANSWER_DUE, its timer at rest: it starts at once, unless another order
waits, which nothing then holds. -/
theorem placed_answer_starts {o : Order} {r : Report} {u : State} {rest : List RepItem} (hb : o.broadcast = false)
    (hr : o.reserved = true) (hl : (u.port o.port).list = .reservation :: rest) (ha : (u.port o.port).activity = .answerDue)
    (ht : (u.port o.port).turn = .stopped) (hq : ∀ p, (u.port p).activity ≠ .reporting ∧ (u.port p).rx.state = .hunting) :
    (u.orders = [] → ((startReports (placeAnswer o r u)).port o.port).activity = .reporting) ∧
      (u.orders ≠ [] → ((startReports (placeAnswer o r u)).port o.port).activity = .answerDue) := by
  rw [placeAnswer_reserved hb hr hl]
  refine ⟨fun ho => ?_, fun ho => ?_⟩
  · rw [startReports_starts (Or.inl (by rw [State.setPort_orders]; exact ho))]
    · rfl
    · rw [State.setPort_port_same]
      exact Port.reportDue_iff.2 ⟨ha, rfl, ht⟩
  · rw [startReports_waits (by rw [State.setPort_orders]; exact ho), State.setPort_port_same]
    · exact ha
    · refine eligible_of fun p => ?_
      by_cases hp : o.port = p
      · subst hp
        rw [State.setPort_port_same]
        exact hq o.port
      · rw [State.setPort_port_other _ _ _ _ hp]
        exact hq p

theorem ownClock_frame (o : Order) (s : State) : Only [.clock] s (ownClock o s).1 :=
  ownClock_only o (by decide) (Only.refl _ _)

/-! ### The end of a report (R79 to R81, R96) -/

/-- `t` is `s` after the report of a port has ended, a good one or a failed one: the end of a DONE frees the sender (R96). -/
structure ReportOver (p : PortId) (good : Bool) (s t : State) : Prop where
  frame : Only [portPart p, .sender, .panel] s t
  freed : s.sender.state = .doneOut → s.sender.port = some p → t.sender = senderFree s.sender
  kept : s.sender.state ≠ .doneOut ∨ s.sender.port ≠ some p → t.sender = s.sender
  port : t.port p = reportEnded good (s.port p)

theorem endReport_over {s : State} {p : PortId} (good : Bool) (h : (s.port p).activity = .reporting) :
    endReport p good s = (s.setPort p (reportEnded good (s.port p))).setSender
      (if s.sender.state = .doneOut ∧ s.sender.port = some p then senderFree s.sender else s.sender) := by
  unfold endReport
  rw [if_pos h]
  dsimp only
  rw [State.setPort_sender]
  split
  · rfl
  · cases p <;> rfl

/-- A report's end as an event: with no record GRANTED and no line-up requested the evaluations have nothing to do. -/
theorem report_event {c : Instr} {f : State → State} {s : State} {p : PortId} {good : Bool}
    (hc : exec c s = .next (event f s)) (hf : ∀ x, f (s.setPanel x) = endReport p good (s.setPanel x))
    (ha : (s.port p).activity = .reporting) (ho : onDrumState s ≠ .granted) (hq : s.sender.lineupReq = none) :
    ∃ t, exec c s = .next t ∧ ReportOver p good s t := by
  generalize hz : (if s.sender.state = .doneOut ∧ s.sender.port = some p then senderFree s.sender else s.sender) = z
  have hreq : z.lineupReq = none := by
    rw [← hz]
    split <;> exact hq
  have e : ∀ x, f (s.setPanel x) = ((s.setPanel x).setPort p (reportEnded good (s.port p))).setSender z := fun x => by
    rw [hf, endReport_over good (by rw [State.setPanel_port]; exact ha), State.setPanel_port, ← hz]
    rfl
  refine event_to (u := fun x => ((s.setPanel x).setPort p (reportEnded good (s.port p))).setSender z) hc
    (fun x => ?_) fun x y => ⟨?_, fun h1 h2 => ?_, fun h => ?_, ?_⟩
  · rw [e]
    refine settle_lines_alone (setSender_only _ (by decide) (setPort_only _ _ (portPart_mem p (by decide) (by decide))
      (Only.refl _ _))) ?_ ho hreq
    cases p <;> rfl
  · exact Only.panels x y (by simp) (setSender_only _ (by simp) (setPort_only _ _ (by simp) (Only.refl _ _)))
  · exact hz.symm.trans (if_pos ⟨h1, h2⟩)
  · refine hz.symm.trans (if_neg fun hf => ?_)
    rcases h with h | h
    exacts [h hf.1, h hf.2]
  · rw [State.setPanel_port, State.setSender_port, State.setPort_port_same]

/-- The consecutive count reaches 2 from 1 (R81). -/
theorem satInc_eq_two {n : Nat} : satInc 255 n = 2 ↔ n = 1 := by
  unfold satInc
  split <;> omega

/-- The port at the end of a failed report: counted, the second in a row faulting it with ECHO (R81). -/
theorem reportEnded_failed (x : Port) : reportEnded false x = { x with
    list := x.list.tail, activity := if x.list.tail = [] then .idle else .answerDue, turn := .running 20000
    rx := rxIdle, echoFailures := satInc 65535 x.echoFailures, consecEcho := satInc 255 x.consecEcho
    cause := if x.consecEcho = 1 ∧ x.cause = .none then .echo else x.cause } := by
  simp only [reportEnded, echoCounted, Bool.false_eq_true, if_false, satInc_eq_two]
  rfl

theorem echoFails_at (before after : List Byte) (b : Byte) {e : Echo} (more : List Echo) (h : e ≠ .byte b) :
    echoFails (before ++ b :: after) (before.map .byte ++ e :: more) = true := by
  induction before with
  | nil => simp [echoFails, h]
  | cons c before ih => simp only [List.cons_append, List.map_cons, echoFails, ih, Bool.or_true]

theorem echoFails_right (before after : List Byte) : echoFails (before ++ after) (before.map .byte) = false := by
  induction before with
  | nil => cases after <;> rfl
  | cons c before ih => simp [echoFails, ih]

theorem bytesSent_setPanel (p : PortId) (s : State) (x : Panel) : bytesSent p (s.setPanel x) = bytesSent p s := by
  cases p <;> rfl

/-- REPORT_END tells of every echo (R79, R80). -/
theorem reportEnd_event {s : State} {p : PortId} (echoes : List Echo) {good : Bool}
    (hg : decide (echoes = (bytesSent p s).map .byte) = good) (ha : (s.port p).activity = .reporting)
    (ho : onDrumState s ≠ .granted) (hq : s.sender.lineupReq = none) :
    ∃ t, exec (.reportEnd ⟨p, echoes⟩) s = .next t ∧ ReportOver p good s t := by
  refine report_event (f := reportEnd p echoes) rfl (fun x => ?_) ha ho hq
  rw [reportEnd, bytesSent_setPanel, hg]

/-- ECHO_FAILURE tells of a wrong echo (R80). -/
theorem echoFailure_event {s : State} {p : PortId} {echoes : List Echo} (hf : echoFails (bytesSent p s) echoes = true)
    (ha : (s.port p).activity = .reporting) (ho : onDrumState s ≠ .granted) (hq : s.sender.lineupReq = none) :
    ∃ t, exec (.echoFailure ⟨p, echoes⟩) s = .next t ∧ ReportOver p false s t := by
  refine report_event (f := echoFailure p echoes) rfl (fun x => ?_) ha ho hq
  rw [echoFailure, bytesSent_setPanel, if_pos hf]

/-- Echoes that are all right so far change nothing (R80). -/
theorem echoFailure_right {s : State} {p : PortId} {before after : List Byte} (h : bytesSent p s = before ++ after) :
    ∃ t, exec (.echoFailure ⟨p, before.map .byte⟩) s = .next t ∧ Only [.panel] s t := by
  refine event_to (f := echoFailure p (before.map .byte)) (u := fun x => s.setPanel x) rfl (fun x => ?_) fun x y =>
    Only.panels x y (by decide) (Only.refl _ _)
  have e : echoFailure p (before.map .byte) (s.setPanel x) = s.setPanel x := by
    rw [echoFailure, bytesSent_setPanel, h, echoFails_right]
    rfl
  rw [e]
  exact settle_quiet (Only.refl [] _) (by decide)

/-! ### What a REPORTING port has on its line (R79, R114) -/

theorem byteFrame_start (b : Byte) : (byteFrame b)[0]? = some .space := rfl

theorem byteFrame_stop (b : Byte) : (byteFrame b)[9]? = some .mark := rfl

theorem byteFrame_data (b : Byte) {j : Nat} (h : j < 8) :
    (byteFrame b)[1 + j]? = some (if b.getLsbD j then .mark else .space) := by
  interval_cases j <;> rfl

/-- The bits of a block: how many, the preamble, and the frame of each byte. -/
theorem blockBits_spec (bytes : List Byte) : (blockBits bytes).length = 16 + 10 * bytes.length ∧
    (∀ i, i < 16 → (blockBits bytes)[i]? = some LineBit.mark) ∧
    ∀ i b, bytes[i]? = some b →
      (blockBits bytes)[16 + 10 * i]? = some LineBit.space ∧ (blockBits bytes)[16 + 10 * i + 9]? = some LineBit.mark ∧
      ∀ j, j < 8 → (blockBits bytes)[16 + 10 * i + 1 + j]? = some (if b.getLsbD j then LineBit.mark else LineBit.space) := by
  refine ⟨Laws.blockBits_length bytes, Laws.blockBits_preamble bytes, fun i b hb => ⟨?_, ?_, fun j hj => ?_⟩⟩
  · exact (Laws.blockBits_frame bytes i 0 b (by decide) hb).trans (byteFrame_start b)
  · exact (Laws.blockBits_frame bytes i 9 b (by decide) hb).trans (byteFrame_stop b)
  · rw [Nat.add_assoc (16 + 10 * i), Laws.blockBits_frame bytes i (1 + j) b (by omega) hb]
    exact byteFrame_data b hj

theorem reportBytes_head {s : State} {p : PortId} {r : Report} {rest : List RepItem}
    (ha : (s.port p).activity = .reporting) (hl : (s.port p).list = .report r :: rest) :
    reportBytes p s = some (blockBytes 63 (BitVec.ofNat 8 s.station.code.toNat) r.kind.code r.tag r.payload) := by
  rw [reportBytes, if_pos ha, hl]
  rfl

/-! ### O35 -/

/-- Settles O35: the starts, the ends, the bits on the line. -/
theorem reportsStartAndEnd : Obligations.ReportsStartAndEnd := by
  refine ⟨fun s p n ht ha ho => ⟨fun r rest hl hq => ?_, fun rest hl => ?_⟩, fun s o rest hh hb hr hl ha ht => ?_,
    fun s p ha ho hq => ?_, fun s p r rest ha hl => ?_, fun s p ha => ?_⟩
  · have hq' : s.orders = [] ∨ eligible s = false := hq.imp_right fun ⟨q, h⟩ => not_eligible_of h
    exact ⟨_, congrArg Host.Outcome.next (turnaroundExpiry_starts ht ha hl ho hq'),
      setPort_only _ _ (by simp) (Only.refl _ _), State.setPort_port_same _ _ _⟩
  · exact ⟨_, congrArg Host.Outcome.next (turnaroundExpiry_reserved ht hl ho),
      setPort_only _ _ (by simp) (Only.refl _ _), State.setPort_port_same _ _ _⟩
  · refine shown_next (f := executeHead .clock ownClock) rfl fun x y => ?_
    have k := ownClock_frame o (taken s x)
    have hp : ∀ p, (ownClock o (taken s x)).1.port p = s.port p := fun p =>
      (k.port p (by cases p <;> decide)).trans (taken_port s x p)
    have hs := placed_answer_starts (u := (ownClock o (taken s x)).1)
      (r := answerOf .clock o.tag (ownClock o (taken s x)).2) hb hr (by rw [hp]; exact hl) (by rw [hp]; exact ha)
      (by rw [hp]; exact ht) (fun p => by rw [hp]; exact hh.quiet p)
    rw [k.orders (by decide), ← hh.execute ownClock x] at hs
    rw [State.setPanel_port]
    exact hs
  · refine ⟨?_, fun echoes he => ?_, fun before b after e more hsent he => ?_, fun before after h => echoFailure_right h⟩
    · obtain ⟨t, e, h⟩ := reportEnd_event ((bytesSent p s).map .byte) (decide_eq_true rfl) ha ho hq
      exact ⟨t, e, ⟨h.frame, h.freed, h.kept⟩, h.port⟩
    · obtain ⟨t, e, h⟩ := reportEnd_event echoes (decide_eq_false he) ha ho hq
      exact ⟨t, e, ⟨h.frame, h.freed, h.kept⟩, h.port.trans (reportEnded_failed _)⟩
    · have hf : echoFails (bytesSent p s) (before.map .byte ++ e :: more) = true := by
        rw [hsent]
        exact echoFails_at before after b more he
      obtain ⟨t, e, h⟩ := echoFailure_event hf ha ho hq
      exact ⟨t, e, ⟨h.frame, h.freed, h.kept⟩, h.port.trans (reportEnded_failed _)⟩
  · have hbytes := reportBytes_head ha hl
    intro body sent
    have hsent : sent = [0xA7, 0x3C] ++ body ++ le2 (crcOf body).toNat := congrArg (Option.getD · []) hbytes
    refine ⟨hsent, blockBits sent, ?_, blockBits_spec sent⟩
    rw [hsent, reportOnLine, hbytes]
    rfl
  · rw [reportOnLine, reportBytes, if_neg ha]
    rfl

end Sys2Proof.Machine

/-! ## Receptions: their start, their end, a bad and a foreign block (O37) -/

namespace Sys2Proof.Machine

/-! ### The start of a reception (R79, R100) -/

/-- A port whose receiver has heard a start bit after 16 bit times of mark; a running turnaround timer is held
(R79, R100). -/
def syncingPort (x : Port) : Port :=
  { x with
    rx := { rxIdle with state := .syncing, markRun := 16 }
    turn := if x.turn = .stopped then .stopped else .held }

theorem syncingPort_reportDue (x : Port) : (syncingPort x).reportDue = x.reportDue := by
  by_cases h : x.turn = .stopped <;> simp [syncingPort, Port.reportDue, h]

theorem Port.decodes_iff {x : Port} : x.decodes = true ↔ x.activity = .idle ∨ x.activity = .answerDue :=
  decide_eq_true_iff

section receptionStart

variable {s : State} {p : PortId} {marks : Nat}
  (ha : (s.port p).activity = .idle ∨ (s.port p).activity = .answerDue) (hr : (s.port p).rx.state = .hunting)
include ha hr

theorem receptionStart_early (hm : marks < 16) :
    receptionStart p marks s = s.setPort p { s.port p with rx := { (s.port p).rx with markRun := 0 } } :=
  (if_pos ⟨Port.decodes_iff.2 ha, hr⟩).trans (if_pos hm)

theorem receptionStart_syncs (hm : 16 ≤ marks) :
    receptionStart p marks s = startReports (s.setPort p (syncingPort (s.port p))) := by
  refine ((if_pos ⟨Port.decodes_iff.2 ha, hr⟩).trans (if_neg (Nat.not_lt.2 hm))).trans ?_
  unfold syncingPort
  cases (s.port p).turn with
  | stopped => rfl
  | running n => rfl
  | held => rfl

/-- The reception holds the order queue back, so every report that is due starts (R101, R108). -/
theorem receptionStart_starts (hm : 16 ≤ marks) {q : PortId} (hd : (s.port q).reportDue = true) :
    ((receptionStart p marks s).port q).activity = .reporting := by
  have hh : eligible (s.setPort p (syncingPort (s.port p))) = false :=
    not_eligible_of (p := p) (Or.inr (by rw [State.setPort_port_same]; exact fun h => nomatch h))
  have hq : ((s.setPort p (syncingPort (s.port p))).port q).reportDue = true := by
    by_cases h : p = q
    · subst h
      rwa [State.setPort_port_same, syncingPort_reportDue]
    · rwa [State.setPort_port_other _ _ _ _ h]
  rw [receptionStart_syncs ha hr hm, startReports_starts (Or.inr hh) hq]
  rfl

theorem receptionStart_alone (hm : 16 ≤ marks) (hn : NoneReportDue s) :
    receptionStart p marks s = s.setPort p (syncingPort (s.port p)) := by
  rw [receptionStart_syncs ha hr hm]
  exact startReports_off (hn.setPort (by rw [syncingPort_reportDue]; exact hn p))

end receptionStart

/-! ### The bytes of a block (R100 to R102; 11, section 11.1) -/

/-- The body of a block: destination, source, kind, tag, length and payload. -/
def blockBody (dest src kind tag : Byte) (payload : List Byte) : List Byte :=
  [dest, src, kind, tag, BitVec.ofNat 8 payload.length] ++ payload

theorem blockBytes_eq (dest src kind tag : Byte) (payload : List Byte) : blockBytes dest src kind tag payload =
    [0xA7, 0x3C] ++ blockBody dest src kind tag payload ++
      [BitVec.ofNat 8 (crcOf (blockBody dest src kind tag payload)).toNat,
        BitVec.ofNat 8 ((crcOf (blockBody dest src kind tag payload)).toNat / 256)] := rfl

theorem byteAt_append {l r : List Byte} {i : Nat} (h : i < l.length) : byteAt (l ++ r) i = byteAt l i := by
  rw [byteAt, byteAt, List.getD_append _ _ _ _ h]

theorem bodyLength_append {l r : List Byte} (h : 5 ≤ l.length) : bodyLength (l ++ r) = bodyLength l := by
  rw [bodyLength, bodyLength, byteAt_append (by omega)]

/-- A body is as long as its length byte says, and its payload within the format (R101). -/
structure WholeBody (body : List Byte) : Prop where
  length : body.length = bodyLength body
  most : byteAt body 4 ≤ 96

theorem blockBody_whole (dest src kind tag : Byte) {payload : List Byte} (h : payload.length ≤ 96) :
    WholeBody (blockBody dest src kind tag payload) := by
  have hn : byteAt (blockBody dest src kind tag payload) 4 = payload.length :=
    Nat.mod_eq_of_lt (Nat.lt_of_le_of_lt h (by decide))
  refine ⟨?_, hn ▸ h⟩
  rw [bodyLength, hn, blockBody, List.length_append]
  rfl

/-- A byte of a body joins the block under assembly (R101). -/
theorem rxByte_body {body xs : List Byte} {rx : Receiver} {b : Byte} (hw : WholeBody body) (hs : rx.state = .receiving)
    (hb : rx.bytes ++ b :: xs = body) :
    rxByte rx b = .more { rx with bytes := rx.bytes ++ [b], crc := crcByte rx.crc b } := by
  have hlen : rx.bytes.length + (xs.length + 1) = body.length := by rw [← hb]; simp
  have hmore : rx.bytes.length < 5 ∨ rx.bytes.length < bodyLength rx.bytes := by
    refine or_iff_not_imp_left.2 fun h => ?_
    rw [← bodyLength_append (r := b :: xs) (by omega), hb, ← hw.length]
    omega
  have hlong : ¬ (rx.bytes.length = 4 ∧ 96 < b.toNat) := fun ⟨h4, h96⟩ => by
    have hat : byteAt body 4 = b.toNat := by
      rw [← hb, byteAt, List.getD_append_right _ _ _ _ (by omega), h4]
      rfl
    have := hw.most
    omega
  simp only [rxByte, hs, rxBody, if_pos hmore, if_neg hlong]

/-- The bytes of a body go into the block under assembly and through the CRC register (R101, R102). -/
theorem rxFeed_body {body : List Byte} (hw : WholeBody body) (rest xs : List Byte) (rx : Receiver)
    (hs : rx.state = .receiving) (hb : rx.bytes ++ xs = body) :
    rxFeed rx (xs ++ rest) = rxFeed { rx with bytes := body, crc := xs.foldl crcByte rx.crc } rest := by
  induction xs generalizing rx with
  | nil =>
    rw [List.append_nil] at hb
    subst hb
    rfl
  | cons b xs ih =>
    rw [List.cons_append, rxFeed, rxByte_body hw hs hb]
    exact ih _ hs (by rw [← hb, List.append_assoc]; rfl)

/-- The two CRC bytes decide (R102). -/
theorem rxFeed_crc {rx : Receiver} (lo hi : Byte) (hw : WholeBody rx.bytes) (hs : rx.state = .receiving) :
    rxFeed rx [lo, hi] = if lo.toNat + 256 * hi.toNat = rx.crc.toNat then .good (blockOf (rx.bytes ++ [lo, hi]))
      else .badBlock := by
  have h5 : 5 ≤ rx.bytes.length := by rw [hw.length]; exact Nat.le_add_right _ _
  have hlo : rxByte rx lo = .more { rx with bytes := rx.bytes ++ [lo] } := by
    have hn : ¬ (rx.bytes.length < 5 ∨ rx.bytes.length < bodyLength rx.bytes) := by have := hw.length; omega
    simp only [rxByte, hs, rxBody, if_neg hn, if_pos hw.length]
  have hl : bodyLength (rx.bytes ++ [lo]) = rx.bytes.length := (bodyLength_append h5).trans hw.length.symm
  have hword : wordAt (rx.bytes ++ [lo] ++ [hi]) rx.bytes.length = lo.toNat + 256 * hi.toNat := by
    simp [wordAt, byteAt]
  have hhi : rxByte { rx with bytes := rx.bytes ++ [lo] } hi =
      if lo.toNat + 256 * hi.toNat = rx.crc.toNat then .good (blockOf (rx.bytes ++ [lo, hi])) else .badBlock := by
    have hn : ¬ ((rx.bytes ++ [lo]).length < 5 ∨ (rx.bytes ++ [lo]).length < rx.bytes.length) := by
      rw [List.length_append]; omega
    have he : (rx.bytes ++ [lo]).length ≠ rx.bytes.length := by simp
    simp only [rxByte, hs, rxBody, hl, if_neg hn, if_neg he, hword]
    rw [List.append_assoc]
    rfl
  rw [rxFeed, hlo]
  dsimp only
  rw [rxFeed, hhi]
  split_ifs <;> rfl

/-- The block that a body spells, whatever follows it. -/
theorem blockOf_body (dest src kind tag : Byte) {payload : List Byte} (h : payload.length ≤ 96) (rest : List Byte) :
    blockOf (blockBody dest src kind tag payload ++ rest) =
      { dest := dest.toNat, src := src.toNat, kind := kind, tag := tag, payload := payload } := by
  have hn : byteAt (blockBody dest src kind tag payload ++ rest) 4 = payload.length :=
    Nat.mod_eq_of_lt (Nat.lt_of_le_of_lt h (by decide))
  rw [blockOf, hn]
  simp [blockBody, byteAt]

/-- A block heard after its preamble proves good when its CRC bytes are those of its body, else a block error
(R100 to R102). -/
theorem rxFeed_block {rx : Receiver} (dest src kind tag lo hi : Byte) {payload : List Byte} (h : payload.length ≤ 96)
    (hs : rx.state = .syncing) (hb : rx.bytes = []) :
    rxFeed rx ([0xA7, 0x3C] ++ blockBody dest src kind tag payload ++ [lo, hi]) =
      if lo.toNat + 256 * hi.toNat = (crcOf (blockBody dest src kind tag payload)).toNat then
        .good { dest := dest.toNat, src := src.toNat, kind := kind, tag := tag, payload := payload }
      else .badBlock := by
  have hw := blockBody_whole dest src kind tag h
  have hof := blockOf_body dest src kind tag h [lo, hi]
  rw [List.append_assoc]
  generalize blockBody dest src kind tag payload = body at *
  have hsync : rxFeed rx ([0xA7, 0x3C] ++ (body ++ [lo, hi])) =
      rxFeed { rx with state := .receiving, bytes := [], crc := 0xFFFF#16, gapRunning := true } (body ++ [lo, hi]) := by
    simp [rxFeed, rxByte, rxSync, hs, hb]
  rw [hsync, rxFeed_body hw [lo, hi] body _ rfl rfl, rxFeed_crc lo hi hw rfl, hof]
  rfl

/-- A whole number below 2^16 is what its two bytes encode. -/
theorem two_bytes (c : BitVec 16) :
    (BitVec.ofNat 8 c.toNat).toNat + 256 * (BitVec.ofNat 8 (c.toNat / 256)).toNat = c.toNat := by
  have := c.isLt
  simp only [BitVec.toNat_ofNat]
  omega

theorem rxFeed_blockBytes {rx : Receiver} (dest src kind tag : Byte) {payload : List Byte} (h : payload.length ≤ 96)
    (hs : rx.state = .syncing) (hb : rx.bytes = []) : rxFeed rx (blockBytes dest src kind tag payload) =
      .good { dest := dest.toNat, src := src.toNat, kind := kind, tag := tag, payload := payload } := by
  rw [blockBytes_eq, rxFeed_block dest src kind tag _ _ h hs hb]
  exact if_pos (two_bytes _)

/-! ### A block taken (R101 to R103) -/

namespace Hearing

variable {s : State} {p : PortId} (h : Hearing p s)
include h

theorem setPanel (x : Panel) : Hearing p (s.setPanel x) := by
  refine ⟨?_, ?_, ?_⟩ <;> rw [State.setPanel_port]
  exacts [h.decodes, h.syncing, h.fresh]

theorem receives : (s.port p).decodes = true ∧ (s.port p).inReception = true :=
  ⟨Port.decodes_iff.2 h.decodes, decide_eq_true (by rw [h.syncing]; decide)⟩

/-- A block with wrong CRC bytes is a block error (R102). -/
theorem takes_bad (dest src kind tag lo hi : Byte) {payload : List Byte} (hl : payload.length ≤ 96)
    (hc : lo.toNat + 256 * hi.toNat ≠ (crcOf (blockBody dest src kind tag payload)).toNat) :
    blockTake p ([0xA7, 0x3C] ++ blockBody dest src kind tag payload ++ [lo, hi]) s =
      s.setPort p (blockErrorEnded (s.port p)) := by
  unfold blockTake
  dsimp only
  rw [if_pos h.receives, rxFeed_block dest src kind tag lo hi hl h.syncing h.fresh, if_neg hc]

/-- A good block ends its reception and goes on to the address check (R103). -/
theorem takes_good (dest src kind tag : Byte) {payload : List Byte} (hl : payload.length ≤ 96) :
    blockTake p (blockBytes dest src kind tag payload) s =
      takeGood p { dest := dest.toNat, src := src.toNat, kind := kind, tag := tag, payload := payload }
        (s.setPort p (receptionEnded (s.port p))) := by
  unfold blockTake
  dsimp only
  rw [if_pos h.receives, rxFeed_blockBytes dest src kind tag hl h.syncing h.fresh]

end Hearing

/-- A block of another source, or for another station, reaches no one (R103). -/
theorem takeGood_foreign {s : State} {p : PortId} {b : Block}
    (h : b.src ≠ 63 ∨ (b.dest ≠ 0 ∧ (s.station.mute = true ∨ b.dest ≠ s.station.code.toNat))) : takeGood p b s = s := by
  unfold takeGood
  rcases h with h | ⟨hd, hm⟩
  · exact if_pos h
  · have hn : ¬ (s.station.mute = false ∧ b.dest = s.station.code.toNat) := fun ⟨h1, h2⟩ => by
      rcases hm with hm | hm
      · exact Bool.false_ne_true (h1.symm.trans hm)
      · exact hm h2
    rw [if_neg hd, if_neg hn, ite_self]

/-! ### The evaluations after an event that makes no port fit (log 29) -/

theorem attemptReady_of_ports {s v : State} (k : Only [.portA, .portB, .orders, .sender, .panel] s v)
    (hs : v.sender.state = s.sender.state) (hc : ∀ p, (v.port p).cause = (s.port p).cause)
    (hi : ∀ p, (v.port p).isIdle = true → (s.port p).isIdle = true) (h : attemptReady v = true) : attemptReady s = true := by
  have hch : chosenPort v = chosenPort s := chosenPort_congr (k.pics (by decide)) fun p => by
    rw [Port.inFault, Port.inFault, hc]
  simp only [attemptReady, hch, onDrumState_congr (k.pics (by decide)), k.drum (by decide), k.head (by decide),
    k.lamp (by decide), hs] at h ⊢
  cases hcp : chosenPort s with
  | none =>
    rw [hcp, Bool.and_false] at h
    exact nomatch h
  | some c =>
    rw [hcp, Bool.and_eq_true] at h
    exact Bool.and_eq_true_iff.2 ⟨h.1, hi _ h.2⟩

theorem lineupReady_of_ports {s v : State} (k : Only [.portA, .portB, .orders, .panel] s v)
    (hi : ∀ p, (v.port p).isIdle = true → (s.port p).isIdle = true) (h : lineupReady v = true) : lineupReady s = true := by
  simp only [lineupReady, k.sender (by decide)] at h ⊢
  cases hq : s.sender.lineupReq with
  | none =>
    rw [hq, Bool.and_false] at h
    exact nomatch h
  | some p =>
    rw [hq, Bool.and_eq_true] at h
    exact Bool.and_eq_true_iff.2 ⟨h.1, hi p h.2⟩

/-- An event of the ports and the order queue that brings no port into FAULT or out of it, and none to IDLE, leaves the
evaluations nothing. -/
theorem settle_ports {s v : State} (k : Only [.portA, .portB, .orders, .panel] s v)
    (hc : ∀ p, (v.port p).cause = (s.port p).cause) (hi : ∀ p, (v.port p).isIdle = true → (s.port p).isIdle = true) :
    settle s v = v := by
  have hp := k.pics (by decide)
  have ho := onDrumState_congr hp
  have hd := k.drum (by decide)
  have hh := k.head (by decide)
  have hf : ∀ p, (v.port p).inFault = (s.port p).inFault := fun p => by rw [Port.inFault, Port.inFault, hc]
  refine settle_drive_lit hf (fun h => (noPortLeft_congr ho hf) ▸ h) ?_ (fun h hg => ⟨hh ▸ h, ho ▸ hg⟩)
    (lampDemand_congr ho (k.scan (by decide)) (by rw [hd]) (by rw [hh]))
    (attemptReady_of_ports (k.mono (by decide)) (by rw [k.sender (by decide)]) hc hi) (lineupReady_of_ports k hi)
  rw [standardEval_eq (Or.inl (standardKey_congr hp (by rw [k.tables (by decide)])).symm)]
  exact drumEval_same (demand_congr (by rw [hd]) ho).symm (by rw [hd]) (by rw [k.pins (by decide)])

/-- Such an event, as a command. -/
theorem ports_event {c : Instr} {f : State → State} {s : State} {u : Panel → State} {P : State → Prop}
    (hc : exec c s = .next (event f s)) (hu : ∀ x, f (s.setPanel x) = u x)
    (k : ∀ x, Only [.portA, .portB, .orders, .panel] (s.setPanel x) (u x))
    (cause : ∀ x p, ((u x).port p).cause = (s.port p).cause)
    (idle : ∀ x p, ((u x).port p).isIdle = true → (s.port p).isIdle = true) (h : ∀ x y, P ((u x).setPanel y)) :
    ∃ t, exec c s = .next t ∧ P t := by
  refine event_to hc (fun x => ?_) h
  rw [hu]
  exact settle_ports (k x) (fun p => by rw [cause, State.setPanel_port]) fun p hp => by
    rw [State.setPanel_port]
    exact idle x p hp

/-- A port changed to `y`, which is in FAULT as before and not made IDLE. -/
theorem port_event {c : Instr} {f : State → State} {s : State} {p : PortId} {y : Port}
    (hc : exec c s = .next (event f s)) (hf : ∀ x, f (s.setPanel x) = (s.setPanel x).setPort p y)
    (cause : y.cause = (s.port p).cause) (idle : y.isIdle = true → (s.port p).isIdle = true) :
    ∃ t, exec c s = .next t ∧ Only [portPart p, .panel] s t ∧ t.port p = y := by
  refine ports_event hc hf (fun x => setPort_only _ _ (portPart_mem p (by decide) (by decide)) (Only.refl _ _))
    (fun x q => ?_) (fun x q => ?_) fun x z => ⟨?_, ?_⟩
  · by_cases hq : p = q
    · subst hq
      rwa [State.setPort_port_same]
    · rw [State.setPort_port_other _ _ _ _ hq, State.setPanel_port]
  · by_cases hq : p = q
    · subst hq
      rwa [State.setPort_port_same]
    · rw [State.setPort_port_other _ _ _ _ hq, State.setPanel_port]
      exact id
  · exact Only.panels x z (by simp) (setPort_only _ _ (by simp) (Only.refl _ _))
  · rw [State.setPanel_port, State.setPort_port_same]

/-! ### O37 -/

/-- A reception's end on its port alone, as a command that is no event. -/
theorem port_next {c : Instr} {f : State → State} {s : State} {p : PortId} {y : Port} (hc : exec c s = .next (f s))
    (hf : f s = s.setPort p y) : ∃ t, exec c s = .next t ∧ Only [portPart p] s t ∧ t.port p = y :=
  ⟨_, hc.trans (congrArg _ hf), setPort_only _ _ (by simp) (Only.refl _ _), State.setPort_port_same _ _ _⟩

theorem blockError_syncing {s : State} {p : PortId} (h : (s.port p).rx.state = .syncing) :
    blockError p s = s.setPort p (receptionEnded (s.port p)) := by
  rw [blockError, h]

theorem blockError_receiving {s : State} {p : PortId} (h : (s.port p).rx.state = .receiving) :
    blockError p s = s.setPort p (blockErrorEnded (s.port p)) := by
  rw [blockError, h]

/-- Settles O37: the starts, the failed syncs, the block errors, the block with a wrong CRC and the foreign one. -/
theorem receptionsStartAndEnd : Obligations.ReceptionsStartAndEnd := by
  refine ⟨fun s p ha => ⟨fun marks hr hm hn => ?_, fun marks hr hm => ?_, fun marks hr hm => ?_, fun hr => ?_,
    fun hr err => ?_, fun hr => ?_, fun hr err => ?_, fun hr => ?_⟩,
    fun s p dest src kind tag payload h hl => ⟨fun lo hi hc => ?_, fun hf => ?_⟩⟩
  · exact port_next (f := receptionStart p marks) rfl (receptionStart_alone ha hr hm hn)
  · exact ⟨_, rfl, fun q hd => receptionStart_starts ha hr hm hd⟩
  · exact port_next (f := receptionStart p marks) rfl (receptionStart_early ha hr hm)
  · exact port_next (f := syncFailed p) rfl (if_pos hr)
  · exact port_next (f := blockError p) rfl (blockError_syncing hr)
  · exact port_next (f := blockError p) rfl (blockError_syncing hr)
  · exact port_next (f := blockError p) rfl (blockError_receiving hr)
  · exact port_next (f := blockError p) rfl (blockError_receiving hr)
  · refine port_event (f := blockTake p ([0xA7, 0x3C] ++ blockBody dest src kind tag payload ++ [lo, hi])) rfl
      (fun x => ?_) rfl id
    rw [(h.setPanel x).takes_bad dest src kind tag lo hi hl hc, State.setPanel_port]
    rfl
  · refine port_event (f := blockTake p (blockBytes dest src kind tag payload)) rfl (fun x => ?_) rfl id
    have hst : ((s.setPanel x).setPort p (receptionEnded (s.port p))).station = s.station := State.setPort_station _ _ _
    rw [(h.setPanel x).takes_good dest src kind tag hl, State.setPanel_port]
    refine takeGood_foreign ?_
    rw [hst]
    refine hf.imp (fun hs hn => hs (BitVec.eq_of_toNat_eq hn)) fun ⟨hd, hm⟩ => ⟨fun hn => hd (BitVec.eq_of_toNat_eq hn), hm⟩

end Sys2Proof.Machine

/-! ## CLOCK, LINEUP and LINE CLEAR (O46) -/

namespace Sys2Proof.Machine

/-! ### What the evaluations keep of a port (log 29) -/

/-- The port `y` is `x`, or has entered CARRYING since: its list, its cause and its counts are those of `x`. -/
structure CarriedOn (x y : Port) : Prop where
  list : y.list = x.list
  cause : y.cause = x.cause
  blockErrors : y.blockErrors = x.blockErrors
  echoFailures : y.echoFailures = x.echoFailures
  consecEcho : y.consecEcho = x.consecEcho
  carrying : x.activity = .carrying → y.activity = .carrying

namespace CarriedOn

theorem refl (x : Port) : CarriedOn x x := ⟨rfl, rfl, rfl, rfl, rfl, id⟩

theorem of_eq {x y : Port} (h : y = x) : CarriedOn x y := h ▸ refl x

theorem trans {x y z : Port} (h : CarriedOn x y) (k : CarriedOn y z) : CarriedOn x z :=
  ⟨k.list.trans h.list, k.cause.trans h.cause, k.blockErrors.trans h.blockErrors, k.echoFailures.trans h.echoFailures,
    k.consecEcho.trans h.consecEcho, fun hx => k.carrying (h.carrying hx)⟩

end CarriedOn

theorem Only.carriedOn {ps : List Part} {s t : State} (k : Only ps s t) (ha : Part.portA ∉ ps) (hb : Part.portB ∉ ps)
    (p : PortId) : CarriedOn (s.port p) (t.port p) :=
  .of_eq (k.port p (by cases p; exacts [ha, hb]))

theorem enterCarrying_carriedOn (p q : PortId) (s : State) : CarriedOn (s.port q) ((enterCarrying p s).port q) := by
  by_cases hq : p = q
  · subst hq
    rw [enterCarrying, State.setPort_port_same]
    exact ⟨rfl, rfl, rfl, rfl, rfl, fun _ => rfl⟩
  · rw [enterCarrying, State.setPort_port_other _ _ _ _ hq]
    exact .refl _

theorem startAttempt_carriedOn (slot : Nat) (p q : PortId) (b : Bool) (s : State) :
    CarriedOn (s.port q) ((startAttempt slot p b s).port q) := by
  unfold startAttempt
  dsimp only
  generalize hu : State.setSender _ _ = u
  have hq : u.port q = s.port q := by
    rw [← hu]
    cases q <;> rfl
  have k := hq ▸ enterCarrying_carriedOn p q u
  cases q <;> exact k

theorem attemptStart_carriedOn (q : PortId) (s : State) : CarriedOn (s.port q) ((attemptStart s).port q) := by
  unfold attemptStart
  split
  · split
    · rename_i slot p b _ _
      exact startAttempt_carriedOn slot p q b s
    · exact .refl _
  · exact .refl _

theorem lineupStart_carriedOn (q : PortId) (s : State) : CarriedOn (s.port q) ((lineupStart s).port q) := by
  unfold lineupStart
  split
  · split
    · refine .trans (.of_eq ?_) (enterCarrying_carriedOn _ q _)
      rw [State.setSender_port]
    · exact .refl _
  · exact .refl _

/-- The head's evaluation moves the head alone: a record GRANTED has no attempt in progress that a HEAD fault could end
(R51, R57). -/
theorem headEval_head (s0 s : State) : ∃ x, headEval s0 s = s.setHead x := by
  by_cases h : attemptInProgress s = true
  · refine ⟨s.head, headEval_eq fun _ hg => ?_⟩
    rw [attemptInProgress, hg] at h
    exact nomatch h
  · exact headEval_idle (by simpa using h)

theorem settle_frame (s0 v : State) : Only ([.enc, .drum, .reg, .lamp] ++ attemptParts) v (settle s0 v) := by
  refine settle_only _ ?_ ?_ ?_ ?_ ?_ ?_ ?_ ?_ ?_ ?_ ?_ ?_ ?_ ?_ (Only.refl _ _) <;> decide

/-- The evaluations leave a port as it was, but for the start of an attempt or a line-up on it. -/
theorem settle_carriedOn (s0 v : State) (q : PortId) : CarriedOn (v.port q) ((settle s0 v).port q) := by
  have drive : ∀ u, ((lampEval s0 (headEval s0 (drumEval s0 (standardEval s0 u)))).port q) = u.port q := fun u => by
    obtain ⟨x, hx⟩ := headEval_head s0 (drumEval s0 (standardEval s0 u))
    have k : Only [.enc, .drum, .reg, .head, .lamp] u (lampEval s0 (headEval s0 (drumEval s0 (standardEval s0 u)))) := by
      rw [hx]
      exact lampEval_only _ (by decide) (setHead_only _ (by decide) (drumEval_only _ (by decide) (by decide)
        (standardEval_only _ (by decide) (by decide) (Only.refl _ _))))
    exact k.port q (by cases q <;> decide)
  have start : ∀ u, CarriedOn (u.port q) ((lineupEval s0 (attemptEval s0 u)).port q) := fun u => by
    refine .trans (y := (attemptEval s0 u).port q) ?_ ?_
    · unfold attemptEval
      split
      exacts [attemptStart_carriedOn q u, .refl _]
    · unfold lineupEval
      split
      exacts [lineupStart_carriedOn q _, .refl _]
  have fail : (portFailEval s0 (lapseEval s0 v)).port q = v.port q :=
    (portFailEval_only (ps := [.sender, .conv, .head, .tables, .pics, .slips]) _ (by decide) (by decide) (by decide)
      (by decide) (by decide) (lapseEval_only _ (by decide) (Only.refl _ _))).port q (by cases q <;> decide)
  exact (CarriedOn.of_eq ((drive _).trans fail)).trans (start _)

/-! ### An answer with its order gone, and what then starts -/

theorem reportStart_changes (p q : PortId) (s : State) :
    ∃ a rx, (reportStart p s).port q = { s.port q with activity := a, rx := rx } ∧
      ((s.port q).activity ≠ .answerDue → a = (s.port q).activity) := by
  by_cases h : (s.port p).reportDue = true
  · rw [reportStart_on h]
    by_cases hq : p = q
    · subst hq
      exact ⟨_, _, State.setPort_port_same _ _ _, fun hn => absurd (Port.reportDue_iff.1 h).1 hn⟩
    · exact ⟨_, _, State.setPort_port_other _ _ _ _ hq, fun _ => rfl⟩
  · rw [reportStart, if_neg fun hd => h (Port.reportDue_iff.2 hd)]
    exact ⟨_, _, rfl, fun _ => rfl⟩

/-- The answer to an order changes of a port its list, and the activity and the receiver when its report starts. -/
theorem startReports_placeAnswer_changes (o : Order) (r : Report) (s : State) (q : PortId) :
    ∃ l a rx, (startReports (placeAnswer o r s)).port q = { s.port q with list := l, activity := a, rx := rx } ∧
      ((s.port q).activity ≠ .answerDue → a = (s.port q).activity) := by
  have place : ∃ l, (placeAnswer o r s).port q = { s.port q with list := l } := by
    unfold placeAnswer
    split
    · by_cases hq : o.port = q
      · subst hq
        exact ⟨_, State.setPort_port_same _ _ _⟩
      · exact ⟨_, State.setPort_port_other _ _ _ _ hq⟩
    · exact ⟨_, rfl⟩
  obtain ⟨l, hl⟩ := place
  unfold startReports
  split
  · exact ⟨l, _, _, hl, fun _ => rfl⟩
  · obtain ⟨a, rx, h1, ha⟩ := reportStart_changes .a q (placeAnswer o r s)
    obtain ⟨b, ry, h2, hb⟩ := reportStart_changes .b q (reportStart .a (placeAnswer o r s))
    rw [hl] at ha h1
    rw [h1] at hb h2
    refine ⟨l, b, ry, h2, fun hn => ?_⟩
    obtain rfl := ha hn
    exact hb hn

/-- The evaluations after an event of the ports, the queue and the sender that brings no record and no attempt to its start
and lets no request lapse: a line-up may start. -/
theorem settle_to_lineup {s0 v : State} (k : Only [.orders, .portA, .portB, .sender] s0 v) (hl : lapseEval s0 v = v)
    (hn : noPortLeft v = true → noPortLeft s0 = true) (ha : attemptReady v = true → attemptReady s0 = true) :
    settle s0 v = lineupEval s0 v := by
  have hp := k.pics (by decide)
  have ho := onDrumState_congr hp
  have hd := k.drum (by decide)
  have hh := k.head (by decide)
  have hdrive : drumEval s0 (standardEval s0 v) = v := by
    rw [standardEval_eq (Or.inl (standardKey_congr hp (by rw [k.tables (by decide)])).symm)]
    exact drumEval_same (demand_congr (by rw [hd]) ho).symm (by rw [hd]) (by rw [k.pins (by decide)])
  unfold settle
  dsimp only
  rw [hl, portFailEval_eq hn, hdrive, headEval_eq fun h hg => ⟨hh ▸ h, ho ▸ hg⟩,
    lampEval_eq (lampDemand_congr ho (k.scan (by decide)) (by rw [hd]) (by rw [hh])), attemptEval_eq ha]

/-- The same with no record GRANTED and no line-up requested: nothing starts. -/
theorem settle_alone {s0 v : State} (k : Only [.orders, .portA, .portB] s0 v) (ho : onDrumState s0 ≠ .granted)
    (hq : s0.sender.lineupReq = none) : settle s0 v = v := by
  have hv : onDrumState v ≠ .granted := by rwa [onDrumState_congr (k.pics (by decide))]
  have hqv : v.sender.lineupReq = none := by rwa [k.sender (by decide)]
  rw [settle_to_lineup (k.mono (by decide)) (lapseEval_unrequested hqv)
    (fun h => absurd ((noPortLeft_of_not_granted hv).symm.trans h) (by decide))
    (fun h => absurd (attemptReady_granted' h).1 hv)]
  exact lineupEval_eq fun h => absurd ((lineupReady_unrequested hqv).symm.trans h) (by decide)

/-! ### CLOCK (R175) -/

theorem readingOk_iff (f : Reading) : readingOk f = true ↔
    1 ≤ f.month ∧ f.month ≤ 12 ∧ 1 ≤ f.day ∧ f.day ≤ daysInMonth f.month f.year ∧ f.year ≤ 99 ∧ f.hour ≤ 23 ∧
      f.minute ≤ 59 ∧ f.second ≤ 59 := by
  simp only [readingOk, Bool.and_eq_true, decide_eq_true_eq, and_assoc]

/-- CLOCK is answered, with the verdict of its owner, whatever that does to the clock. -/
theorem clock_answered {s : State} {o : Order} {f : State → State} {v : Verdict} (h : HeadOrder .clock o s)
    (hv : ∀ x, ownClock o (taken s x) = (f (taken s x), v)) (hf : ∀ u : State, Only [.clock] u (f u)) :
    ∃ t, exec .clock s = .next t ∧ Answered o (answerOf .clock o.tag v) s t ∧
      Only [.clock, .orders, .portA, .portB, .panel] s t ∧ ∃ x, t.clock = (f (taken s x)).clock := by
  refine shown_next (f := executeHead .clock ownClock) rfl fun x y => ?_
  obtain ⟨a, b, e, hp⟩ := startReports_placeAnswer o (answerOf .clock o.tag v) (f (taken s x))
  rw [h.execute, hv x, e]
  have k := hf (taken s x)
  refine ⟨hp.answered (fun p => ?_) (k.orders (by decide)) fun p => by rw [State.setPanel_port], ?_, x, rfl⟩
  · rw [k.port p (by cases p <;> decide), taken_port]
  · exact setPanel_only _ (by decide) (ported_only a b (by decide) (by decide)
      ((taken_only s x (by decide) (by decide)).trans (k.mono (by decide))))

theorem clock_order {s : State} {o : Order} (h : HeadOrder .clock o s) :
    (readingOk (clockFields o.payload) = true → ∃ t, exec .clock s = .next t ∧ Answered o (ackOf o 0) s t ∧
      Only [.orders, .portA, .portB, .clock, .panel] s t ∧ t.clock = clockAt (clockFields o.payload)) ∧
    (readingOk (clockFields o.payload) ≠ true → ∃ t, exec .clock s = .next t ∧ Refused o .badTableData s t) := by
  refine ⟨fun hv => ?_, fun hv => ?_⟩
  · obtain ⟨t, ht, ha, hk, x, hc⟩ := clock_answered (f := fun u => u.setClock (clockAt (clockFields o.payload)))
      (v := accepted) h (fun x => if_pos hv) fun u => setClock_only _ (by decide) (Only.refl _ _)
    exact ⟨t, ht, answerOf_accepted h ▸ ha, hk.mono (by decide), hc⟩
  · obtain ⟨t, ht, ha, hk, x, hc⟩ := clock_answered (f := id) (v := .refuse .badTableData) h (fun x => if_neg hv)
      fun u => Only.refl _ _
    exact ⟨t, ht, h.kind ▸ ha, hk.drop hc⟩

/-! ### LINEUP (R97) -/

theorem lineup_refused {s : State} {o : Order} (h : HeadOrder .lineup o s)
    (hs : s.sender.state ≠ .free ∨ s.sender.lineupReq ≠ none) :
    ∃ t, exec .lineup s = .next t ∧ Refused o .wrongState s t :=
  refused_event (owner := ownLineup) h rfl fun _ => if_pos hs

theorem lineup_faulted {s : State} {o : Order} (h : HeadOrder .lineup o s) (hs : s.sender.state = .free)
    (hq : s.sender.lineupReq = none) (hc : (s.port (portOfByte (o.payload.getD 0 0))).cause ≠ .none) :
    ∃ t, exec .lineup s = .next t ∧ Refused o .portFault s t := by
  refine refused_event (owner := ownLineup) h rfl fun x => ?_
  have hf : ((taken s x).port (portOfByte (o.payload.getD 0 0))).inFault = true := by
    rw [taken_port]
    exact decide_eq_true hc
  exact (if_neg (not_or.2 ⟨not_not.2 hs, not_not.2 hq⟩)).trans (if_pos hf)

/-- A LINEUP that is accepted places its request, which the evaluations then look at (R97). -/
theorem lineup_requested {s : State} {o : Order} {P : State → Prop} (h : HeadOrder .lineup o s)
    (hs : s.sender.state = .free) (hq : s.sender.lineupReq = none)
    (hc : (s.port (portOfByte (o.payload.getD 0 0))).cause = .none)
    (hP : ∀ x y v, Only [.orders, .portA, .portB, .sender] (s.setPanel x) v → Answered o (ackOf o 0) s v →
      v.sender = { s.sender with lineupReq := some (portOfByte (o.payload.getD 0 0)) } →
      (∀ p, (v.port p).cause = (s.port p).cause ∧ (v.port p).isIdle = (s.port p).isIdle) →
      P ((lineupEval (s.setPanel x) v).setPanel y)) : ∃ t, exec .lineup s = .next t ∧ P t := by
  refine order_event (owner := ownLineup) h rfl fun x y a b hp => ?_
  have hown : ownLineup o (taken s x) = ((taken s x).setSender
      { s.sender with lineupReq := some (portOfByte (o.payload.getD 0 0)) }, accepted) := by
    have hf : ¬ ((taken s x).port (portOfByte (o.payload.getD 0 0))).inFault = true := by
      rw [taken_port, Port.inFault, hc]
      decide
    exact (if_neg (not_or.2 ⟨not_not.2 hs, not_not.2 hq⟩)).trans (if_neg hf)
  rw [hown, answerOf_accepted h] at hp
  rw [hown]
  dsimp only at hp ⊢
  have hport : ∀ p, ((taken s x).setSender { s.sender with lineupReq := some (portOfByte (o.payload.getD 0 0)) }).port p =
      s.port p := fun p => by rw [State.setSender_port, taken_port]
  generalize hv : ported a b ((taken s x).setSender { s.sender with lineupReq := some (portOfByte (o.payload.getD 0 0)) }) = v
    at hp ⊢
  have k : Only [.orders, .portA, .portB, .sender] (s.setPanel x) v := hv ▸ ported_only a b (by decide) (by decide)
    (setSender_only _ (by decide) (setOrders_only _ (by decide) (Only.refl _ _)))
  have hcause : ∀ p, (v.port p).cause = (s.port p).cause := fun p => by rw [← hv, hp.cause, hport]
  have hidle : ∀ p, (v.port p).isIdle = (s.port p).isIdle := fun p => by rw [← hv, hp.idle, hport]
  have hf : ∀ p, (v.port p).inFault = ((s.setPanel x).port p).inFault := fun p => by
    rw [Port.inFault, Port.inFault, hcause, State.setPanel_port]
  have hsend : v.sender = { s.sender with lineupReq := some (portOfByte (o.payload.getD 0 0)) } := hv ▸ rfl
  have hready : attemptReady v = true → attemptReady (s.setPanel x) = true :=
    attemptReady_of_ports (k.mono (by decide)) (by rw [hsend]; rfl) (fun p => by rw [hcause, State.setPanel_port])
      fun p hi => by rwa [State.setPanel_port, ← hidle]
  rw [settle_to_lineup k (lapseEval_eq hf)
    (fun hn => by rwa [noPortLeft_congr (onDrumState_congr (k.pics (by decide))) hf] at hn) hready]
  refine hP x y v k (hp.answered (fun p => by rw [hport]) (by rw [← hv]; rfl) fun p => by rw [hv]) hsend fun p =>
    ⟨hcause p, hidle p⟩

theorem Port.isIdle_iff {x : Port} : x.isIdle = true ↔ x.cause = .none ∧ x.activity = .idle := by
  simp only [Port.isIdle, Bool.and_eq_true, decide_eq_true_eq]

theorem lineupReady_requested {s : State} {p : PortId} (h : s.sender.lineupReq = some p) :
    lineupReady s = true ↔ s.sender.state = .free ∧ (s.port p).isIdle = true := by
  simp only [lineupReady, h, Bool.and_eq_true, decide_eq_true_eq]

theorem lineOf_of_tables {s t : State} (h : t.tables = s.tables) (p : PortId) : lineOf t p = lineOf s p := by
  cases p with
  | a => exact congrArg Tables.lineA h
  | b => exact congrArg Tables.lineB h

/-- An order stays answered through what keeps the queue and the lists. -/
theorem Answered.kept {o : Order} {r : Report} {s v t : State} (h : Answered o r s v) (ho : t.orders = v.orders)
    (hl : ∀ p, (t.port p).list = (v.port p).list) : Answered o r s t :=
  ⟨ho.trans h.queue, (hl _).trans h.list, (hl _).trans h.other⟩

/-- The request waits while its port is not IDLE. -/
theorem lineup_waits {s : State} {o : Order} (h : HeadOrder .lineup o s) (hs : s.sender.state = .free)
    (hq : s.sender.lineupReq = none) (hc : (s.port (portOfByte (o.payload.getD 0 0))).cause = .none)
    (hb : (s.port (portOfByte (o.payload.getD 0 0))).activity ≠ .idle) :
    ∃ t, exec .lineup s = .next t ∧ Answered o (ackOf o 0) s t ∧ Only [.orders, .portA, .portB, .sender, .panel] s t ∧
      t.sender = { s.sender with lineupReq := some (portOfByte (o.payload.getD 0 0)) } := by
  refine lineup_requested h hs hq hc fun x y v k ha hsend hport => ?_
  rw [lineupEval_eq fun hr => ?_]
  · exact ⟨ha.kept rfl fun p => by rw [State.setPanel_port], Only.panels x y (by decide) (k.mono (by decide)), hsend⟩
  · have hi := ((lineupReady_requested (by rw [hsend])).1 hr).2
    rw [(hport _).2, Port.isIdle_iff] at hi
    exact absurd hi.2 hb

/-- On an IDLE port the line-up starts at once. -/
theorem lineup_at_once {s : State} {o : Order} {p : PortId} (h : HeadOrder .lineup o s) (hs : s.sender.state = .free)
    (hq : s.sender.lineupReq = none) (hp : portOfByte (o.payload.getD 0 0) = p) (hc : (s.port p).cause = .none)
    (hi : (s.port p).activity = .idle) :
    ∃ t, exec .lineup s = .next t ∧ Answered o (ackOf o 0) s t ∧ Only [.orders, .portA, .portB, .sender, .panel] s t ∧
      (t.port p).activity = .carrying ∧ t.sender = { s.sender with
        state := .lineupWhite, port := some p, stageTimer := some ((lineOf s p).lineupTime * 100000) } := by
  subst hp
  refine lineup_requested h hs hq hc fun x y v k ha hsend hport => ?_
  generalize portOfByte (o.payload.getD 0 0) = p at *
  have hidle : (v.port p).isIdle = true := (hport p).2.trans (Port.isIdle_iff.2 ⟨hc, hi⟩)
  have hready : lineupReady v = true :=
    (lineupReady_requested (by rw [hsend])).2 ⟨by rw [hsend]; exact hs, hidle⟩
  have hbefore : lineupReady (s.setPanel x) = false := lineupReady_unrequested hq
  have hstart := lineup_starts (s := v) (p := p) (by rw [hsend]; exact hs) (by rw [hsend]) ((hport p).1.trans hc)
    (Port.isIdle_iff.1 hidle).2
  rw [lineOf_of_tables (k.tables (by decide)), hsend] at hstart
  rw [lineupEval, if_pos ⟨hready, hbefore⟩]
  have hk : Only [.portA, .portB, .sender] v (lineupStart v) := by
    rw [hstart]
    exact enterCarrying_only p (portPart_mem p (by decide) (by decide)) (setSender_only _ (by decide) (Only.refl _ _))
  refine ⟨ha.kept (hk.orders (by decide)) fun q => ?_,
    Only.panels x y (by decide) ((k.mono (by decide)).trans (hk.mono (by decide))), ?_, ?_⟩
  · rw [State.setPanel_port, (lineupStart_carriedOn q v).list]
  · rw [State.setPanel_port, hstart, (enterCarrying_port p p _).1, if_pos rfl]
  · rw [State.setPanel_sender, hstart, enterCarrying, State.setPort_sender, State.setSender_sender, ← hq]
    rfl

/-! ### LINE CLEAR (R84) -/

theorem lineClear_refused {s : State} {o : Order} (h : HeadOrder .lineClear o s)
    (hn : ∀ p, clearNames o.payload p = false) : ∃ t, exec .lineClear s = .next t ∧ Refused o .badIndex s t :=
  refused_event (owner := ownLineClear) h rfl fun _ => if_pos ⟨hn .a, hn .b⟩

/-- The state with the named ports cleared. -/
def linesCleared (payload : List Byte) (s : State) : State :=
  clearPort (clearNames payload .b) .b (clearPort (clearNames payload .a) .a s)

theorem ownLineClear_clears {o : Order} {q : PortId} (h : clearNames o.payload q = true) (s : State) :
    ownLineClear o s = (linesCleared o.payload s, accepted) := by
  refine if_neg fun ⟨ha, hb⟩ => ?_
  cases q
  exacts [Bool.false_ne_true (ha.symm.trans h), Bool.false_ne_true (hb.symm.trans h)]

theorem linesCleared_port (payload : List Byte) (s : State) (p : PortId) :
    (linesCleared payload s).port p = if clearNames payload p then portCleared (s.port p) else s.port p := by
  unfold linesCleared clearPort
  cases p <;> cases clearNames payload .a <;> cases clearNames payload .b <;> rfl

theorem linesCleared_only (payload : List Byte) (s : State) : Only [.portA, .portB] s (linesCleared payload s) :=
  clearPort_only _ _ (by decide) (clearPort_only _ _ (by decide) (Only.refl _ _))

/-- LINE CLEAR touches no counter but the consecutive one (R84). -/
theorem lineClear_clears {s : State} {o : Order} {q : PortId} (h : HeadOrder .lineClear o s)
    (hq : clearNames o.payload q = true) : ∃ t, exec .lineClear s = .next t ∧ Answered o (ackOf o 0) s t ∧
      (onDrumState s ≠ .granted → s.sender.lineupReq = none → Only [.orders, .portA, .portB, .panel] s t) ∧
      ∀ p, (t.port p).blockErrors = (s.port p).blockErrors ∧ (t.port p).echoFailures = (s.port p).echoFailures ∧
        (clearNames o.payload p = true → (t.port p).cause = .none ∧ (t.port p).consecEcho = 0) ∧
        (clearNames o.payload p = false →
          (t.port p).cause = (s.port p).cause ∧ (t.port p).consecEcho = (s.port p).consecEcho) := by
  refine event_next (f := executeHead .lineClear ownLineClear) rfl fun x y => ?_
  rw [h.execute, ownLineClear_clears hq, answerOf_accepted h]
  have hu : ∀ p, (linesCleared o.payload (taken s x)).port p =
      if clearNames o.payload p then portCleared (s.port p) else s.port p := fun p => by
    rw [linesCleared_port, taken_port]
  have hk := linesCleared_only o.payload (taken s x)
  generalize linesCleared o.payload (taken s x) = u at *
  obtain ⟨a, b, e, hp⟩ := startReports_placeAnswer o (ackOf o 0) u
  have hchange := startReports_placeAnswer_changes o (ackOf o 0) u
  dsimp only
  rw [e] at hchange ⊢
  have kv : Only [.orders, .portA, .portB] (s.setPanel x) (ported a b u) := ported_only a b (by decide) (by decide)
    ((setOrders_only (ps := [.orders, .portA, .portB]) _ (by decide) (Only.refl _ _)).trans (hk.mono (by decide)))
  have ha : Answered o (ackOf o 0) s (ported a b u) := by
    refine hp.answered (fun p => ?_) (hk.orders (by decide)) fun p => rfl
    rw [hu]
    split <;> rfl
  generalize ported a b u = v at *
  have hset := settle_carriedOn (s.setPanel x) v
  refine ⟨ha.kept ((settle_frame _ v).orders (by decide)) fun p => ?_, fun ho hr => ?_, fun p => ?_⟩
  · rw [State.setPanel_port, (hset p).list]
  · rw [settle_alone kv ho hr]
    exact Only.panels x y (by decide) (kv.mono (by decide))
  · obtain ⟨l, act, rx, hc, -⟩ := hchange p
    rw [hu] at hc
    rw [State.setPanel_port, (hset p).blockErrors, (hset p).echoFailures, (hset p).cause, (hset p).consecEcho, hc]
    cases clearNames o.payload p with
    | true => exact ⟨rfl, rfl, fun _ => ⟨rfl, rfl⟩, fun h => absurd h (by decide)⟩
    | false => exact ⟨rfl, rfl, fun h => absurd h (by decide), fun _ => ⟨rfl, rfl⟩⟩

/-! ### O46 -/

/-- Settles O46: each order's refusals, and its effect. -/
theorem clockAndLineOrders : Obligations.ClockAndLineOrders := by
  refine ⟨fun s o h => ?_, fun s o h => ?_, fun s o h => ⟨lineClear_refused h, fun q => lineClear_clears h⟩⟩
  · intro f valid
    have hvalid : readingOk f = true ↔ valid := readingOk_iff f
    rw [← hvalid]
    exact clock_order h
  · intro p
    refine ⟨lineup_refused h, lineup_faulted h, fun hs hq hc => ?_⟩
    by_cases hi : (s.port p).activity = .idle
    · obtain ⟨t, ht, ha, hk, hcar, hsend⟩ := lineup_at_once h hs hq rfl hc hi
      exact ⟨t, ht, ha, hk, fun hn => absurd hi hn, fun _ => ⟨hcar, hsend⟩⟩
    · obtain ⟨t, ht, ha, hk, hsend⟩ := lineup_waits h hs hq hc hi
      exact ⟨t, ht, ha, hk, fun _ => hsend, fun hn => absurd hn hi⟩

end Sys2Proof.Machine

/-! ## RESTART (O48) -/

namespace Sys2Proof.Machine

/-! ### What a RESTART keeps (R112) -/

/-- The tables that neither an attempt nor a line-up uses (R124, R125). -/
structure KeptTables (a b : Tables) : Prop where
  counts : b.counts = a.counts
  accept : b.accept = a.accept
  roster : b.roster = a.roster
  template : b.template = a.template
  strobe : b.strobe = a.strobe

/-- The drive `y` comes of `x` by what gives it no duty and brings it out of no CUTOFF; a clear latch stays clear. -/
structure KeptDrive (x y : Drum) : Prop where
  latch : x.spinLatch = false → y.spinLatch = false
  pendingDuty : y.pendingDuty = x.pendingDuty
  activeDuty : y.activeDuty = x.activeDuty
  cycleLen : y.cycleLen = x.cycleLen
  lastFault : y.lastFault = x.lastFault
  cutoff : x.state = .cutoff → y.state = .cutoff

/-- `t` has the mounts and the records of `s`, but for what happens to the record on drum. -/
structure KeptRecords (s t : State) : Prop where
  onDrum : t.pics.onDrum = s.pics.onDrum
  serial : t.pics.nextSerial = s.pics.nextSerial
  others : ∀ j, s.pics.onDrum ≠ some j → t.rec? j = s.rec? j

/-- `t` comes of `s` by what a RESTART and the evaluations after it may do beside the lines. -/
structure RestartKept (s t : State) : Prop where
  drive : KeptDrive s.drum t.drum
  head : s.head.state = .fault → t.head = s.head
  records : KeptRecords s t
  tables : KeptTables s.tables t.tables

namespace KeptTables

theorem refl (a : Tables) : KeptTables a a := ⟨rfl, rfl, rfl, rfl, rfl⟩

theorem trans {a b c : Tables} (h : KeptTables a b) (k : KeptTables b c) : KeptTables a c :=
  ⟨k.counts.trans h.counts, k.accept.trans h.accept, k.roster.trans h.roster, k.template.trans h.template,
    k.strobe.trans h.strobe⟩

theorem of_eq {a b : Tables} (h : b = a) : KeptTables a b := h ▸ refl a

end KeptTables

namespace KeptDrive

theorem refl (x : Drum) : KeptDrive x x := ⟨id, rfl, rfl, rfl, rfl, id⟩

theorem trans {x y z : Drum} (h : KeptDrive x y) (k : KeptDrive y z) : KeptDrive x z :=
  ⟨fun hx => k.latch (h.latch hx), k.pendingDuty.trans h.pendingDuty, k.activeDuty.trans h.activeDuty,
    k.cycleLen.trans h.cycleLen, k.lastFault.trans h.lastFault, fun hx => k.cutoff (h.cutoff hx)⟩

theorem of_eq {x y : Drum} (h : y = x) : KeptDrive x y := h ▸ refl x

end KeptDrive

namespace KeptRecords

theorem of_pics {s t : State} (h : t.pics = s.pics) : KeptRecords s t :=
  ⟨by rw [h], by rw [h], fun j _ => by rw [State.rec?, State.rec?, h]⟩

theorem trans {s t u : State} (h : KeptRecords s t) (k : KeptRecords t u) : KeptRecords s u where
  onDrum := k.onDrum.trans h.onDrum
  serial := k.serial.trans h.serial
  others j hj := (k.others j (by rwa [h.onDrum])).trans (h.others j hj)

theorem modRec {s t : State} {slot : Nat} {f : PicRecord → PicRecord} (ho : s.pics.onDrum = some slot)
    (h : t.pics = (Machine.modRec slot f s).pics) : KeptRecords s t where
  onDrum := by rw [h]; rfl
  serial := by rw [h]; rfl
  others j hj := by
    have hne : slot ≠ j := fun e => hj (e ▸ ho)
    rw [State.rec?, State.rec?, h]
    exact List.getElem?_modify_ne _ _ hne

end KeptRecords

namespace RestartKept

theorem trans {s t u : State} (h : RestartKept s t) (k : RestartKept t u) : RestartKept s u where
  drive := h.drive.trans k.drive
  head hf := (k.head (by rw [h.head hf]; exact hf)).trans (h.head hf)
  records := h.records.trans k.records
  tables := h.tables.trans k.tables

theorem of_only {ps : List Part} {s t : State} (k : Only ps s t)
    (hp : ∀ q ∈ [Part.drum, .head, .tables, .pics], q ∉ ps) : RestartKept s t where
  drive := .of_eq (k.drum (hp _ (by decide)))
  head _ := k.head (hp _ (by decide))
  records := .of_pics (k.pics (hp _ (by decide)))
  tables := .of_eq (k.tables (hp _ (by decide)))

theorem refl (s : State) : RestartKept s s := of_only (Only.refl [] s) (by decide)

theorem setDrum {s : State} {x : Drum} (h : KeptDrive s.drum x) : RestartKept s (s.setDrum x) :=
  ⟨h, fun _ => rfl, .of_pics rfl, .of_eq rfl⟩

end RestartKept

/-! ### The pending copies come into force (R124, R125) -/

theorem applyTone_kept (s : State) : KeptTables s.tables (applyTone s).tables := by
  unfold applyTone
  split <;> exact ⟨rfl, rfl, rfl, rfl, rfl⟩

theorem applyStandard_kept (s : State) : KeptTables s.tables (applyStandard s).tables := by
  unfold applyStandard
  split <;> exact ⟨rfl, rfl, rfl, rfl, rfl⟩

theorem applyScan_kept (s : State) : KeptTables s.tables (applyScan s).tables := by
  unfold applyScan
  split <;> exact ⟨rfl, rfl, rfl, rfl, rfl⟩

theorem takeLineProfile_kept (p : PortId) (lp : LineProfile) (s : State) :
    KeptTables s.tables (takeLineProfile p lp s).tables := by
  cases p <;> exact ⟨rfl, rfl, rfl, rfl, rfl⟩

theorem applyLine_kept (p : PortId) (s : State) : KeptTables s.tables (applyLine p s).tables := by
  unfold applyLine
  split
  · split
    · exact (takeLineProfile_kept p _ s).trans ⟨rfl, rfl, rfl, rfl, rfl⟩
    · exact .refl _
  · exact .refl _

theorem parkHead_kept (s : State) : KeptTables s.tables (parkHead s).tables := by
  unfold parkHead
  generalize hu : s.setHead _ = u
  have ht : u.tables = s.tables := hu ▸ rfl
  rw [← ht]
  dsimp only
  split
  · exact .refl _
  · exact applyScan_kept u

theorem enterRewind_kept (limit : Nat) (s : State) : KeptTables s.tables (enterRewind limit s).tables := by
  unfold enterRewind
  generalize hu : s.setHead _ = u
  have ht : u.tables = s.tables := hu ▸ rfl
  rw [← ht]
  dsimp only
  split
  · exact parkHead_kept u
  · split
    · exact .refl _
    · exact .of_eq ((rewindStep_only (ps := [.head]) (by decide) (Only.refl _ _)).tables (by decide))

theorem rewindHead_kept (s : State) : KeptTables s.tables (rewindHead s).tables := by
  unfold rewindHead
  split
  iterate 3 exact enterRewind_kept _ _
  iterate 3 exact .refl _

theorem endAttemptUse_kept (s : State) : KeptTables s.tables (endAttemptUse s).tables := by
  have h := (applyTone_kept s).trans (applyStandard_kept _)
  unfold endAttemptUse
  dsimp only
  split
  exacts [h.trans (applyScan_kept _), h]

/-! ### The end of the attempt in progress (R146) -/

/-- A record on drum that finishes is the only one that changes. -/
theorem finishRecord_kept {slot : Nat} (o : FinalOutcome) (c : FailCause) {s : State} (ho : s.pics.onDrum = some slot) :
    KeptRecords s (finishRecord slot o c s) ∧ KeptTables s.tables (finishRecord slot o c s).tables := by
  unfold finishRecord
  dsimp only
  generalize hm : State.setPics (modRec slot _ s) _ = m
  have km : KeptRecords s m := hm ▸ (KeptRecords.modRec ho rfl).trans ⟨rfl, rfl, fun _ _ => rfl⟩
  have tm : m.tables = s.tables := hm ▸ rfl
  generalize hv : (if decide (((s.rec? slot).map (·.state)).getD .empty = .granted) = true then rewindHead m else m) = v
  have kv : KeptRecords m v ∧ KeptTables m.tables v.tables := by
    rw [← hv]
    split
    · exact ⟨.of_pics ((rewindHead_only (ps := [.head, .tables]) (by decide) (by decide) (Only.refl _ _)).pics (by decide)),
        rewindHead_kept m⟩
    · exact ⟨.of_pics rfl, .refl _⟩
  obtain ⟨status, hp⟩ := requestSlip_pics (kind := .final) (by decide) slot v
  have kr := KeptRecords.modRec (slot := slot) (s := v) (by rw [kv.1.onDrum, km.onDrum]; exact ho) hp
  have kt : Only [.conv, .pics, .slips] v (requestSlip slot .final v).1 :=
    requestSlip_only _ _ (by decide) (by decide) (by decide) (Only.refl _ _)
  exact ⟨km.trans (kv.1.trans kr), (KeptTables.of_eq tm).trans (kv.2.trans (.of_eq (kt.tables (by decide))))⟩

theorem attemptEnd_kept {outcome : AttemptOutcome} {o : FinalOutcome} {c : FailCause} (hf : Finishing outcome o c)
    (s : State) : RestartKept s (attemptEnd outcome s) := by
  suffices h : KeptRecords s (attemptEnd outcome s) ∧ KeptTables s.tables (attemptEnd outcome s).tables from
    ⟨.of_eq ((attemptEnd_frame outcome s).drum (by decide)), attemptEnd_head hf, h.1, h.2⟩
  cases ho : s.pics.onDrum with
  | none =>
    have e : attemptEnd outcome s = s := by simp only [attemptEnd, ho]
    rw [e]
    exact ⟨.of_pics rfl, .refl _⟩
  | some slot =>
    cases hp : attemptInProgress s with
    | false =>
      rw [attemptEnd_of_none hp]
      exact ⟨.of_pics rfl, .refl _⟩
    | true =>
      obtain ⟨f, hc⟩ := closed_pics (outcome := outcome) ho
      rw [modAttempt_eq ho] at hc
      have kc := KeptRecords.modRec ho hc
      obtain ⟨kr, kt⟩ := finishRecord_kept (slot := slot) o c (s := closed outcome s) (by rw [kc.onDrum]; exact ho)
      have tc : (closed outcome s).tables = s.tables := (closed_only outcome s).tables (by decide)
      rw [tc] at kt
      rw [attemptEnd_eq ho hp, hf, ← closed]
      generalize finishRecord slot o c (closed outcome s) = u at *
      have k : Only [.head, .tables] u (endAttemptUse (rewindHead u)) :=
        endAttemptUse_only (by decide) (rewindHead_only (by decide) (by decide) (Only.refl _ _))
      exact ⟨kc.trans (kr.trans (.of_pics (k.pics (by decide)))),
        kt.trans ((rewindHead_kept u).trans (endAttemptUse_kept _))⟩

/-! ### The evaluations after a RESTART (log 29) -/

theorem standardEval_kept (s0 s : State) : RestartKept s (standardEval s0 s) := by
  unfold standardEval
  split
  · rename_i h
    refine ⟨⟨id, rfl, rfl, rfl, rfl, fun hc => ?_⟩, fun _ => rfl, .of_pics rfl, .of_eq rfl⟩
    rw [hc] at h
    exact absurd h.2 (by decide)
  · exact .refl s

/-- Where demand has not risen and the drum has not come to rest, the drive's evaluation brakes a turning drum at most
(R8, R14). -/
theorem drumEval_brakes {s0 s : State} (hd : demand s = true → demand s0 = true)
    (hs : s.drum.state = .stopped ∨ s.drum.state = .braking → s0.drum.state = s.drum.state)
    (hc : s0.pins.coverClosed = s.pins.coverClosed) : drumEval s0 s = s ∨
      (demand s = false ∧ (s.drum.state = .spinup ∨ s.drum.state = .tracking ∨ s.drum.state = .locked) ∧
        drumEval s0 s = enterBraking s) := by
  by_cases same : demand s0 = demand s ∧ s0.drum.state = s.drum.state ∧ s0.pins.coverClosed = s.pins.coverClosed
  · exact Or.inl (if_pos same)
  have he : drumEval s0 s = evaluateDemand s := if_neg same
  have turning : s.drum.state = .spinup ∨ s.drum.state = .tracking ∨ s.drum.state = .locked →
      drumEval s0 s = s ∨ (demand s = false ∧ (s.drum.state = .spinup ∨ s.drum.state = .tracking ∨
        s.drum.state = .locked) ∧ drumEval s0 s = enterBraking s) := fun ht => by
    cases hdem : demand s with
    | true => exact Or.inl (he.trans (evaluateDemand_demanded hdem ht))
    | false => exact Or.inr ⟨rfl, ht, he.trans (evaluateDemand_braked hdem ht)⟩
  have resting : s.drum.state = .stopped ∨ s.drum.state = .braking → drumEval s0 s = s := fun hr => by
    cases hdem : demand s with
    | true => exact absurd ⟨(hd hdem).trans hdem.symm, hs hr, hc⟩ same
    | false => exact he.trans (evaluateDemand_undemanded hdem hr)
  cases hst : s.drum.state with
  | stopped => exact Or.inl (resting (Or.inl hst))
  | braking => exact Or.inl (resting (Or.inr hst))
  | cutoff => exact Or.inl (he.trans (evaluateDemand_cutoff hst))
  | spinup => exact hst ▸ turning (Or.inl hst)
  | tracking => exact hst ▸ turning (Or.inr (Or.inl hst))
  | locked => exact hst ▸ turning (Or.inr (Or.inr hst))

theorem enterBraking_kept {s : State} (h : s.drum.state ≠ .cutoff) : RestartKept s (enterBraking s) :=
  .setDrum ⟨id, rfl, rfl, rfl, rfl, fun hc => absurd hc h⟩

/-- The drive's evaluations keep what a RESTART keeps, where demand has not risen. -/
theorem drive_kept {s0 v : State} (hd : demand v = true → demand s0 = true) (hs : v.drum.state = s0.drum.state)
    (hc : v.pins = s0.pins) : RestartKept v (drumEval s0 (standardEval s0 v)) := by
  have k := standardEval_kept s0 v
  have kf : Only [.drum, .reg] v (standardEval s0 v) := standardEval_only _ (by decide) (by decide) (Only.refl _ _)
  have hst : (standardEval s0 v).drum.spinLatch = v.drum.spinLatch ∧
      ((standardEval s0 v).drum.state = v.drum.state ∨ (standardEval s0 v).drum.state = .tracking) := by
    unfold standardEval
    split
    exacts [⟨rfl, Or.inr rfl⟩, ⟨rfl, Or.inl rfl⟩]
  generalize standardEval s0 v = w at *
  have hdw : demand w = demand v := demand_congr hst.1 (onDrumState_congr (kf.pics (by decide)))
  have hrest : w.drum.state = .stopped ∨ w.drum.state = .braking → s0.drum.state = w.drum.state := fun hr => by
    rcases hst.2 with h | h
    · exact (h.trans hs).symm
    · rw [h] at hr
      exact absurd hr (by decide)
  refine k.trans ?_
  rcases drumEval_brakes (fun h => hd (hdw ▸ h)) hrest (by rw [kf.pins (by decide), hc]) with he | ⟨-, ht, he⟩
  · rw [he]
    exact .refl w
  · rw [he]
    refine enterBraking_kept fun hcut => ?_
    rw [hcut] at ht
    exact absurd ht (by decide)

theorem headEval_kept (s0 s : State) : RestartKept s (headEval s0 s) := by
  obtain ⟨x, hx⟩ := headEval_head s0 s
  refine ⟨hx ▸ .refl _, fun hf => ?_, hx ▸ .of_pics rfl, hx ▸ .of_eq rfl⟩
  rw [headEval_eq fun hp => absurd (hf.symm.trans hp) (by decide)]

theorem lampEval_kept (s0 s : State) : RestartKept s (lampEval s0 s) :=
  .of_only (lampEval_only (ps := [.lamp]) _ (by decide) (Only.refl _ _)) (by decide)

theorem startAttempt_records {slot : Nat} (p : PortId) (b : Bool) {s : State} (ho : s.pics.onDrum = some slot) :
    KeptRecords s (startAttempt slot p b s) := by
  have k : ∃ f e, (startAttempt slot p b s).pics = { (modRec slot f s).pics with elapsed := e } := by
    cases p <;> exact ⟨_, 0, rfl⟩
  obtain ⟨f, e, hp⟩ := k
  refine (KeptRecords.modRec (f := f) (t := modRec slot f s) ho rfl).trans ⟨by rw [hp], by rw [hp], fun j _ => ?_⟩
  rw [State.rec?, State.rec?, hp]

theorem attemptStart_kept (s : State) : RestartKept s (attemptStart s) := by
  have k : Only [.drum, .head, .store, .portA, .portB, .sender, .pics] s (attemptStart s) :=
    attemptStart_only (by decide) (by decide) (by decide) (by decide) (by decide) (by decide) (by decide) (Only.refl _ _)
  obtain ⟨n, hd⟩ := attemptStart_drum s
  refine ⟨?_, fun hf => ?_, ?_, .of_eq (k.tables (by decide))⟩
  · rw [hd]
    exact ⟨id, rfl, rfl, rfl, rfl, id⟩
  · rw [attemptStart, if_neg fun hr => absurd (hf.symm.trans (attemptReady_granted' hr).2.2.1) (by decide)]
  · unfold attemptStart
    split
    · split
      · rename_i ho _
        exact startAttempt_records _ _ ho
      · exact .of_pics rfl
    · exact .of_pics rfl

theorem attemptStart_lineupReq {s : State} (h : s.sender.lineupReq = none) : (attemptStart s).sender.lineupReq = none := by
  unfold attemptStart
  split
  · split
    · rw [startAttempt_sender]
      rfl
    · exact h
  · exact h

/-- With no line-up requested, and no record left without a port, the evaluations come to the drive, the head, the lamp and
the start of an attempt. -/
theorem settle_to_attempt {s0 v : State} (hq : v.sender.lineupReq = none)
    (hn : noPortLeft v = true → noPortLeft s0 = true) :
    settle s0 v = attemptEval s0 (lampEval s0 (headEval s0 (drumEval s0 (standardEval s0 v)))) ∧
      (settle s0 v).sender.lineupReq = none := by
  obtain ⟨x, hx⟩ := headEval_head s0 (drumEval s0 (standardEval s0 v))
  have k : Only [.enc, .drum, .reg, .head, .lamp] v
      (lampEval s0 (headEval s0 (drumEval s0 (standardEval s0 v)))) := by
    rw [hx]
    exact lampEval_only _ (by decide) (setHead_only _ (by decide) (drumEval_only _ (by decide) (by decide)
      (standardEval_only _ (by decide) (by decide) (Only.refl _ _))))
  unfold settle
  dsimp only
  rw [lapseEval_unrequested hq, portFailEval_eq hn]
  generalize lampEval s0 (headEval s0 (drumEval s0 (standardEval s0 v))) = u at *
  have hu : (attemptEval s0 u).sender.lineupReq = none := by
    have hu : u.sender.lineupReq = none := by rw [k.sender (by decide)]; exact hq
    unfold attemptEval
    split
    exacts [attemptStart_lineupReq hu, hu]
  rw [lineupEval_eq fun hl => absurd ((lineupReady_unrequested hu).symm.trans hl) (by decide)]
  exact ⟨rfl, hu⟩

theorem settle_kept {s0 v : State} (hq : v.sender.lineupReq = none) (hn : noPortLeft v = true → noPortLeft s0 = true)
    (hd : demand v = true → demand s0 = true) (hs : v.drum.state = s0.drum.state) (hc : v.pins = s0.pins) :
    RestartKept v (settle s0 v) ∧ (settle s0 v).sender.lineupReq = none := by
  obtain ⟨e, hr⟩ := settle_to_attempt hq hn
  refine ⟨?_, hr⟩
  rw [e]
  refine (drive_kept hd hs hc).trans ((headEval_kept s0 _).trans ((lampEval_kept s0 _).trans ?_))
  unfold attemptEval
  split
  exacts [attemptStart_kept _, .refl _]

/-! ### What a RESTART makes of the lines (R85, R98) -/

theorem leaveCarrying_kept (p : PortId) (a : Activity) (s : State) : KeptTables s.tables (leaveCarrying p a s).tables := by
  have h := applyLine_kept p (s.setPort p (leftPort a (s.port p)))
  rwa [State.setPort_tables] at h

theorem endLineup_kept (s : State) : KeptTables s.tables (endLineup s).tables := by
  unfold endLineup
  dsimp only
  split
  · split
    · exact leaveCarrying_kept _ _ s
    · exact .refl _
  · exact .refl _

/-- A line-up's end moves the port it carries alone. -/
theorem endLineup_port {s : State} {p : PortId} (h : (s.port p).activity ≠ .carrying) : (endLineup s).port p = s.port p := by
  unfold endLineup
  rw [State.setSender_port]
  split
  · rename_i q _
    split
    · rename_i hq
      have hne : p ≠ q := fun e => h (e ▸ hq)
      exact (leaveCarrying_rest q .idle s).port p (by revert hne; cases p <;> cases q <;> decide)
    · rfl
  · rfl

theorem restartLineup_off {s : State} (h : s.sender.state.inLineup = false) :
    restartLineup s = s.setSender { s.sender with lineupReq := none } := by
  rw [restartLineup, h]
  rfl

theorem restartLineup_on {s : State} (h : s.sender.state.inLineup = true) :
    restartLineup s = (endLineup s).setSender { (endLineup s).sender with lineupReq := none } := by
  rw [restartLineup, if_pos h]

theorem restartLineup_port {s : State} {p : PortId}
    (h : (s.port p).activity ≠ .carrying ∨ s.sender.state.inLineup = false) : (restartLineup s).port p = s.port p := by
  cases hl : s.sender.state.inLineup with
  | false => rw [restartLineup_off hl, State.setSender_port]
  | true =>
    rw [restartLineup_on hl, State.setSender_port]
    exact endLineup_port (h.resolve_right (by rw [hl]; decide))

theorem restartLineup_frame (s : State) : Only [.portA, .portB, .sender, .tables] s (restartLineup s) :=
  restartLineup_only (by decide) (by decide) (by decide) (by decide) (Only.refl _ _)

theorem restartLineup_kept (s : State) : RestartKept s (restartLineup s) := by
  have k := restartLineup_frame s
  refine ⟨.of_eq (k.drum (by decide)), fun _ => k.head (by decide), .of_pics (k.pics (by decide)), ?_⟩
  cases hl : s.sender.state.inLineup with
  | false =>
    rw [restartLineup_off hl]
    exact .refl _
  | true =>
    rw [restartLineup_on hl]
    exact endLineup_kept s

theorem restartLineup_cause (s : State) (p : PortId) : ((restartLineup s).port p).cause = (s.port p).cause := by
  cases hl : s.sender.state.inLineup with
  | false => rw [restartLineup_off hl, State.setSender_port]
  | true =>
    rw [restartLineup_on hl, State.setSender_port, endLineup, State.setSender_port]
    split
    · split
      exacts [(leaveCarrying_port _ p .idle s).2.2, rfl]
    · rfl

theorem portRestarted_counts (keep : Bool) (x : Port) : (portRestarted keep x).blockErrors = 0 ∧
    (portRestarted keep x).echoFailures = 0 ∧ (portRestarted keep x).consecEcho = 0 := by
  unfold portRestarted
  split <;> exact ⟨rfl, rfl, rfl⟩

theorem portRestarted_cause (keep : Bool) (x : Port) :
    (portRestarted keep x).cause = if x.activity = .carrying then x.cause else .none := by
  unfold portRestarted
  split <;> rename_i h <;> rw [h] <;> rfl

theorem portRestarted_activity (keep : Bool) {x : Port} (h : x.activity = .carrying ∨ x.activity = .reporting) :
    (portRestarted keep x).activity = x.activity := by
  unfold portRestarted
  rcases h with h | h <;> rw [h]

theorem portRestarted_list (keep : Bool) {x : Port} (h : x.activity ≠ .carrying) :
    (portRestarted keep x).list = restartList keep x := by
  unfold portRestarted
  split
  · exact absurd ‹_› h
  all_goals rfl

/-- A port with neither a report nor a picture on its line is left with the RESTART's own reservation. -/
theorem portRestarted_resting (keep : Bool) {x : Port} (h : x.activity = .idle ∨ x.activity = .answerDue) :
    (portRestarted keep x).list = (if keep then [.reservation] else []) ∧
      (portRestarted keep x).activity = if keep then .answerDue else .idle := by
  unfold portRestarted restartList
  rcases h with h | h <;> rw [h] <;> exact ⟨rfl, rfl⟩

/-! ### The RESTART as a whole (R112, R178) -/

theorem finishing_restarted : Finishing .restarted .aborted .none := fun _ _ => rfl

theorem restartAll_port_eq (own : Option PortId) (s : State) (p : PortId) : (restartAll own s).port p =
    portRestarted (decide (own = some p)) ((restartLineup (attemptEnd .restarted (s.setOrders []))).port p) := by
  cases p <;> rfl

theorem restartAll_drum (own : Option PortId) (s : State) : (restartAll own s).drum = { s.drum with spinLatch := false } := by
  have k : Only (attemptParts ++ [.orders]) s (restartLineup (attemptEnd .restarted (s.setOrders []))) :=
    ((setOrders_only (ps := [.orders]) _ (by decide) (Only.refl _ _)).mono (by decide)).trans
      (((attemptEnd_frame .restarted _).mono (by decide)).trans ((restartLineup_frame _).mono (by decide)))
  exact congrArg (fun d : Drum => { d with spinLatch := false }) (k.drum (by decide))

theorem restartAll_lineupReq (own : Option PortId) (s : State) : (restartAll own s).sender.lineupReq = none := rfl

theorem restartAll_orders (own : Option PortId) (s : State) : (restartAll own s).orders = [] := by
  have k : Only attemptParts (s.setOrders []) (restartLineup (attemptEnd .restarted (s.setOrders []))) :=
    (attemptEnd_frame .restarted _).trans ((restartLineup_frame _).mono (by decide))
  exact k.orders (by decide)

theorem restartAll_kept (own : Option PortId) (s : State) : RestartKept s (restartAll own s) := by
  have k1 : RestartKept s (s.setOrders []) :=
    .of_only (ps := [.orders]) (setOrders_only _ (by decide) (Only.refl _ _)) (by decide)
  have k2 := k1.trans ((attemptEnd_kept finishing_restarted (s.setOrders [])).trans (restartLineup_kept _))
  unfold restartAll
  dsimp only
  generalize restartLineup (attemptEnd .restarted (s.setOrders [])) = u at *
  have k3 : RestartKept u ((u.setPort .a (portRestarted (decide (own = some .a)) (u.port .a))).setPort .b
      (portRestarted (decide (own = some .b)) ((u.setPort .a (portRestarted (decide (own = some .a)) (u.port .a))).port .b))) :=
    .of_only (ps := [.portA, .portB]) (setPort_only .b _ (by decide) (setPort_only .a _ (by decide) (Only.refl _ _)))
      (by decide)
  exact k2.trans (k3.trans (.setDrum ⟨fun _ => rfl, rfl, rfl, rfl, rfl, id⟩))

/-- The record on drum is as it was, or FINISHED with its attempt. -/
theorem restartAll_onDrumState (own : Option PortId) (s : State) :
    onDrumState (restartAll own s) = onDrumState s ∨ onDrumState (restartAll own s) = .finished := by
  have k : Only [.portA, .portB, .sender, .tables, .drum] (attemptEnd .restarted (s.setOrders [])) (restartAll own s) :=
    setDrum_only _ (by decide) (setPort_only .b _ (by decide) (setPort_only .a _ (by decide)
      ((restartLineup_frame _).mono (by decide))))
  rw [onDrumState_congr (k.pics (by decide))]
  cases hp : attemptInProgress (s.setOrders []) with
  | false =>
    rw [attemptEnd_of_none hp]
    exact Or.inl rfl
  | true =>
    have hs : onDrumState (s.setOrders []) = .sending := by simpa [attemptInProgress] using hp
    cases ho : s.pics.onDrum with
    | none =>
      refine Or.inl ?_
      rw [attemptEnd, State.setOrders_pics, ho]
      rfl
    | some slot => exact Or.inr (attemptEnd_onDrumState finishing_restarted ho hs)

/-- With no attempt in progress and no line-up a RESTART touches the queue, the ports, the request and the latch. -/
theorem restartAll_still (own : Option PortId) {s : State} (ha : attemptInProgress s = false)
    (hl : s.sender.state.inLineup = false) : restartAll own s = (ported (portRestarted (decide (own = some .a)) s.portA)
      (portRestarted (decide (own = some .b)) s.portB) ((s.setOrders []).setSender { s.sender with lineupReq := none })).setDrum
        { s.drum with spinLatch := false } := by
  unfold restartAll
  rw [attemptEnd_of_none (t := s.setOrders []) ha, restartLineup_off (s := s.setOrders []) hl]
  rfl

/-! ### The RESTART at the head of the queue (R85, R112) -/

/-- The port whose list holds the reservation of a RESTART, if any does. -/
def ownPort (o : Order) : Option PortId := if o.reserved then some o.port else none

/-- The state that a RESTART, executed at the head of the queue of `u`, leaves to the evaluations: its ACK stands in place of
its reservation. -/
def restarted (o : Order) (u : State) : State :=
  startReports (placeAnswer o (ackOf o 0) (restartAll (ownPort o) u))

theorem ownPort_iff {o : Order} (h : o.broadcast = true → o.reserved = false) (p : PortId) :
    ownPort o = some p ↔ o.port = p ∧ o.broadcast = false ∧ o.reserved = true := by
  unfold ownPort
  cases hr : o.reserved with
  | false => exact ⟨fun hf => (nomatch hf), fun ⟨_, _, hf⟩ => nomatch hf⟩
  | true =>
    have hb : o.broadcast = false := by
      cases hb : o.broadcast with
      | false => rfl
      | true => exact absurd (hr.symm.trans (h hb)) (by decide)
    rw [if_pos rfl, Option.some_inj]
    exact ⟨fun hp => ⟨hp, hb, rfl⟩, fun ⟨hp, _⟩ => hp⟩

theorem restart_event {s : State} {o : Order} {P : State → Prop} (h : HeadOrder .restart o s)
    (hP : ∀ x y, P ((settle (s.setPanel x) (restarted o (taken s x))).setPanel y)) : ∃ t, exec .restart s = .next t ∧ P t := by
  refine event_next (f := executeHead .restart ownRestart) rfl fun x y => ?_
  rw [h.execute]
  exact answerOf_accepted h ▸ hP x y

theorem restarted_only (o : Order) (u : State) :
    Only [.portA, .portB] (restartAll (ownPort o) u) (restarted o u) :=
  startReports_only (by decide) (by decide) (placeAnswer_only _ _ (by decide) (by decide) (Only.refl _ _))

theorem restarted_kept (o : Order) (u : State) : RestartKept u (restarted o u) :=
  (restartAll_kept _ u).trans (.of_only (restarted_only o u) (by decide))

theorem restarted_drum (o : Order) (u : State) : (restarted o u).drum = { u.drum with spinLatch := false } :=
  ((restarted_only o u).drum (by decide)).trans (restartAll_drum _ u)

theorem restarted_lineupReq (o : Order) (u : State) : (restarted o u).sender.lineupReq = none :=
  (congrArg Sender.lineupReq ((restarted_only o u).sender (by decide))).trans (restartAll_lineupReq _ u)

theorem restarted_orders (o : Order) (u : State) : (restarted o u).orders = [] :=
  ((restarted_only o u).orders (by decide)).trans (restartAll_orders _ u)

theorem restarted_onDrumState (o : Order) (u : State) :
    onDrumState (restarted o u) = onDrumState u ∨ onDrumState (restarted o u) = .finished := by
  rw [onDrumState_congr ((restarted_only o u).pics (by decide))]
  exact restartAll_onDrumState _ u

/-- A port after the attempt's and the line-up's end: one that carries nothing has not changed to the report rules. -/
theorem restart_line_kept {s : State} {p : PortId} (h : (s.port p).activity ≠ .carrying) :
    SameLine (s.port p) ((restartLineup (attemptEnd .restarted (s.setOrders []))).port p) := by
  have k := (attemptEnd_carried .restarted (s.setOrders [])).port p
  rw [State.setOrders_port] at k
  rwa [restartLineup_port (Or.inl (by rw [k.activity]; exact h))]

theorem restarted_counts (o : Order) (u : State) (p : PortId) : ((restarted o u).port p).blockErrors = 0 ∧
    ((restarted o u).port p).echoFailures = 0 ∧ ((restarted o u).port p).consecEcho = 0 := by
  obtain ⟨l, a, rx, h, -⟩ := startReports_placeAnswer_changes o (ackOf o 0)
    (restartAll (ownPort o) u) p
  rw [restarted, h, restartAll_port_eq]
  exact portRestarted_counts _ _

/-- A port that does not carry is without fault, its list empty but for the RESTART's own ACK (R85). -/
theorem restarted_resting {o : Order} {u : State} {p : PortId} (ho : o.broadcast = true → o.reserved = false)
    (h : (u.port p).activity = .idle ∨ (u.port p).activity = .answerDue) : ((restarted o u).port p).cause = .none ∧
      ((restarted o u).port p).list =
        if o.port = p ∧ o.broadcast = false ∧ o.reserved = true then [.report (ackOf o 0)] else [] := by
  have hc : (u.port p).activity ≠ .carrying := by rcases h with h | h <;> rw [h] <;> decide
  have k := restart_line_kept hc
  obtain ⟨c1, -, l1⟩ := startReports_port p (placeAnswer o (ackOf o 0) (restartAll (ownPort o) u))
  obtain ⟨c2, -, l2⟩ := placeAnswer_port o (ackOf o 0) (restartAll (ownPort o) u) p
  rw [restartAll_port_eq] at c2 l2
  obtain ⟨l3, -⟩ := portRestarted_resting (decide (ownPort o = some p))
    (x := (restartLineup (attemptEnd .restarted (u.setOrders []))).port p) (by rw [k.activity]; exact h)
  refine ⟨c1.trans (c2.trans ?_), l1.trans (l2.trans ?_)⟩
  · rw [portRestarted_cause, k.activity, if_neg hc]
  · rw [l3]
    simp only [decide_eq_true_eq, ownPort_iff ho]
    split <;> rfl

theorem attemptEnd_inLineup {outcome : AttemptOutcome} {s : State} (ho : outcome ≠ .line)
    (h : s.sender.state.inLineup = false) : (attemptEnd outcome s).sender.state.inLineup = false := by
  cases hp : attemptInProgress s with
  | false => rwa [attemptEnd_of_none hp]
  | true =>
    obtain ⟨-, -, -, hsend, -⟩ := attemptEnd_ends (outcome := outcome) hp
    rw [← closing_sender outcome s] at h
    rw [hsend]
    generalize closeAttempt outcome (flushStore (stopScanner s)) = u at *
    cases hs : u.sender.state.sendingAttempt with
    | true => rw [(closeSender_sender ho hs).1]; rfl
    | false => rwa [closeSender, if_neg ho, if_neg (by rw [hs]; decide)]

/-- A port CARRYING but for a line-up goes on carrying (R85). -/
theorem restarted_carrying {o : Order} {u : State} {p : PortId} (h : (u.port p).activity = .carrying)
    (hl : u.sender.state.inLineup = false) : ((restarted o u).port p).activity = .carrying := by
  have k := (attemptEnd_carried .restarted (u.setOrders [])).port p
  rw [State.setOrders_port] at k
  have hc : ((restartLineup (attemptEnd .restarted (u.setOrders []))).port p).activity = .carrying := by
    rw [restartLineup_port (s := attemptEnd .restarted (u.setOrders []))
      (Or.inr (attemptEnd_inLineup (by decide) hl)), k.activity]
    exact h
  obtain ⟨l, a, rx, e, ha⟩ := startReports_placeAnswer_changes o (ackOf o 0)
    (restartAll (ownPort o) u) p
  rw [restartAll_port_eq, portRestarted_activity _ (Or.inl hc), hc] at ha
  rw [restarted, e]
  exact ha (by decide)

/-! ### The evaluations after a RESTART keep what it keeps -/

theorem restarted_frame (o : Order) (u : State) : Only (attemptParts ++ [.orders, .drum]) u (restarted o u) := by
  refine Only.trans ?_ ((restarted_only o u).mono (by decide))
  refine restartAll_only _ ?_ ?_ ?_ ?_ ?_ ?_ ?_ ?_ ?_ ?_ ?_ ?_ (Only.refl _ _) <;> decide

/-- A RESTART brings no port into FAULT. -/
theorem restarted_inFault {o : Order} {u : State} {p : PortId} (h : ((restarted o u).port p).inFault = true) :
    (u.port p).inFault = true := by
  have c1 := (startReports_port p (placeAnswer o (ackOf o 0) (restartAll (ownPort o) u))).1
  have c2 := (placeAnswer_port o (ackOf o 0) (restartAll (ownPort o) u) p).1
  have c3 := restartLineup_cause (attemptEnd .restarted (u.setOrders [])) p
  have c4 := ((attemptEnd_carried .restarted (u.setOrders [])).port p).cause
  rw [State.setOrders_port] at c4
  rw [restartAll_port_eq, portRestarted_cause, c3, c4] at c2
  refine decide_eq_true fun hn => of_decide_eq_true h (c1.trans (c2.trans ?_))
  rw [hn, ite_self]

theorem noPortLeft_of {s t : State} (hf : ∀ p, (t.port p).inFault = true → (s.port p).inFault = true)
    (ho : onDrumState t = .granted → onDrumState s = .granted) (h : noPortLeft t = true) : noPortLeft s = true := by
  simp only [noPortLeft, bothFault, Bool.and_eq_true, decide_eq_true_eq] at h ⊢
  obtain ⟨⟨ha, hb⟩, hg⟩ := h
  exact ⟨⟨hf .a ha, hf .b hb⟩, ho hg⟩

theorem demand_of {s t : State} (hl : t.drum.spinLatch = false)
    (ho : onDrumState t = onDrumState s ∨ onDrumState t = .finished) (h : demand t = true) : demand s = true := by
  rw [demand, hl, Bool.false_or, decide_eq_true_eq] at h
  rcases ho with ho | ho <;> rw [ho] at h
  · rw [demand, decide_eq_true h, Bool.or_true]
  · exact absurd h (by decide)

theorem settle_restarted (s : State) (o : Order) (x : Panel) :
    RestartKept s (settle (s.setPanel x) (restarted o (taken s x))) ∧
      (settle (s.setPanel x) (restarted o (taken s x))).sender.lineupReq = none ∧
      (settle (s.setPanel x) (restarted o (taken s x))).drum.spinLatch = false := by
  have hst := restarted_onDrumState o (taken s x)
  have hdrum := restarted_drum o (taken s x)
  have hkept : RestartKept s (restarted o (taken s x)) :=
    RestartKept.trans (.of_only (ps := [.orders, .panel]) (taken_only s x (by decide) (by decide)) (by decide))
      (restarted_kept o _)
  have hpins : (restarted o (taken s x)).pins = s.pins := (restarted_frame o (taken s x)).pins (by decide)
  have hf : ∀ p, ((restarted o (taken s x)).port p).inFault = true → ((s.setPanel x).port p).inFault = true := fun p hp => by
    rw [State.setPanel_port, ← taken_port s x]
    exact restarted_inFault hp
  have hq := restarted_lineupReq o (taken s x)
  generalize restarted o (taken s x) = v at *
  have hg : onDrumState v = .granted → onDrumState s = .granted := fun h => by
    rcases hst with e | e
    exacts [e.symm.trans h, absurd (e.symm.trans h) (by decide)]
  have hlatch : v.drum.spinLatch = false := by rw [hdrum]
  obtain ⟨hk, hr⟩ := settle_kept (s0 := s.setPanel x) hq (noPortLeft_of hf hg)
    (demand_of (s := s.setPanel x) hlatch hst) (by rw [hdrum]; rfl) hpins
  exact ⟨hkept.trans hk, hr, hk.drive.latch hlatch⟩

/-! ### A RESTART with no attempt in progress and none about to start -/

/-- The latch was all that kept the drum of `s` turning: `v`, where it is clear, has no demand (R14, R18). -/
def LatchDrops (s v : State) : Prop := s.drum.spinLatch = true ∧ demand v = false ∧
  (s.drum.state = .spinup ∨ s.drum.state = .tracking ∨ s.drum.state = .locked)

/-- A latch that is cleared, with everything else that demand depends on kept, brakes the drum that it alone kept turning, and
does nothing else to the drive. -/
theorem drumEval_unlatched {s0 v : State} (k : Only [.orders, .portA, .portB, .sender, .drum] s0 v)
    (hd : v.drum = { s0.drum with spinLatch := false }) :
    (LatchDrops s0 v → drumEval s0 v = enterBraking v) ∧ (¬ LatchDrops s0 v → drumEval s0 v = v) := by
  have ho : onDrumState v = onDrumState s0 := onDrumState_congr (k.pics (by decide))
  have hst : v.drum.state = s0.drum.state := by rw [hd]
  have hc : s0.pins.coverClosed = v.pins.coverClosed := by rw [k.pins (by decide)]
  refine ⟨fun ⟨hl, hdem, ht⟩ => ?_, fun hn => ?_⟩
  · have h0 : demand s0 = true := by rw [demand, hl, Bool.true_or]
    rw [drumEval_changed (Or.inl (by rw [h0, hdem]; decide)), evaluateDemand_braked hdem (hst ▸ ht)]
  · cases hl : s0.drum.spinLatch with
    | false => exact drumEval_same (demand_congr (by rw [hd, hl]) ho).symm hst.symm hc
    | true =>
      rcases drumEval_brakes (demand_of (by rw [hd]) (Or.inl ho)) (fun _ => hst.symm) hc with e | ⟨hdem, ht, -⟩
      exacts [e, absurd ⟨hl, hdem, hst ▸ ht⟩ hn]

theorem drumEval_unlatched_frame {s0 v : State} (k : Only [.orders, .portA, .portB, .sender, .drum] s0 v)
    (hd : v.drum = { s0.drum with spinLatch := false }) :
    Only [.drum] v (drumEval s0 v) ∧ ((drumEval s0 v).drum.state = .cutoff ↔ s0.drum.state = .cutoff) := by
  obtain ⟨h1, h2⟩ := drumEval_unlatched k hd
  by_cases hdrop : LatchDrops s0 v
  · rw [h1 hdrop]
    refine ⟨enterBraking_only (by decide) (Only.refl _ _), fun h => (nomatch h), fun h => ?_⟩
    obtain ⟨-, -, ht⟩ := hdrop
    rw [h] at ht
    exact absurd ht (by decide)
  · rw [h2 hdrop, hd]
    exact ⟨Only.refl _ _, Iff.rfl⟩

/-- With no attempt about to start the evaluations come to the drive's. -/
theorem settle_unlatched {s0 v : State} (k : Only [.orders, .portA, .portB, .sender, .drum] s0 v)
    (hd : v.drum = { s0.drum with spinLatch := false }) (hq : v.sender.lineupReq = none)
    (hn : noPortLeft v = true → noPortLeft s0 = true) (ha : onDrumState s0 ≠ .granted ∨ s0.lamp.state ≠ .warm) :
    settle s0 v = drumEval s0 v := by
  have hp := k.pics (by decide)
  obtain ⟨e, -⟩ := settle_to_attempt hq hn
  rw [e, standardEval_eq (Or.inl (standardKey_congr hp (by rw [k.tables (by decide)])).symm)]
  obtain ⟨kd, hcut⟩ := drumEval_unlatched_frame k hd
  generalize drumEval s0 v = u at *
  have hpu : u.pics = s0.pics := (kd.pics (by decide)).trans hp
  have hhu : u.head = s0.head := (kd.head (by decide)).trans (k.head (by decide))
  have hlu : u.lamp = s0.lamp := (kd.lamp (by decide)).trans (k.lamp (by decide))
  have hscan : u.scan = s0.scan := (kd.scan (by decide)).trans (k.scan (by decide))
  have ho : onDrumState u = onDrumState s0 := onDrumState_congr hpu
  rw [headEval_eq fun h hg => ⟨hhu ▸ h, ho ▸ hg⟩, lampEval_eq (lampDemand_congr ho hscan hcut (by rw [hhu])),
    attemptEval_eq fun hr => ?_]
  obtain ⟨hg, -, -, hw, -⟩ := attemptReady_granted' hr
  rcases ha with ha | ha
  · exact absurd (ho ▸ hg) ha
  · exact absurd (hlu ▸ hw) ha

theorem restarted_still {s : State} {o : Order} (x : Panel) (ha : attemptInProgress s = false)
    (hl : s.sender.state.inLineup = false) :
    Only [.orders, .portA, .portB, .sender, .drum] (s.setPanel x) (restarted o (taken s x)) ∧
      (restarted o (taken s x)).sender = { s.sender with lineupReq := none } := by
  have k := restarted_only o (taken s x)
  have e := restartAll_still (ownPort o) (s := taken s x) ha hl
  refine ⟨Only.trans ?_ (k.mono (by decide)), (k.sender (by decide)).trans (by rw [e]; rfl)⟩
  rw [e]
  exact setDrum_only _ (by decide) (ported_only _ _ (by decide) (by decide) (setSender_only _ (by decide)
    (setOrders_only _ (by decide) (setOrders_only _ (by decide) (Only.refl _ _)))))

/-! ### A RESTART that ends a line-up (R98) -/

theorem restartLineup_releases {s : State} {p : PortId} (hl : s.sender.state.inLineup = true)
    (hp : s.sender.port = some p) (hc : (s.port p).activity = .carrying) (hn : s.tables.linePending = none) :
    restartLineup s = (s.setPort p (leftPort .idle (s.port p))).setSender
      { s.sender with state := .free, port := none, stageTimer := none, lineupReq := none } := by
  rw [restartLineup_on hl, endLineup_releases hp hc, released, applyLine_none (by rw [State.setPort_tables]; exact hn)]
  rfl

theorem restarted_lineup {s : State} {o : Order} {p : PortId} (x : Panel) (ho : o.broadcast = true → o.reserved = false)
    (ha : attemptInProgress s = false) (hl : s.sender.state.inLineup = true) (hp : s.sender.port = some p)
    (hc : (s.port p).activity = .carrying) (hn : s.tables.linePending = none)
    (hown : ¬ (o.port = p ∧ o.broadcast = false ∧ o.reserved = true)) :
    Only [.orders, .portA, .portB, .sender, .drum] (s.setPanel x) (restarted o (taken s x)) ∧
      (restarted o (taken s x)).sender =
        { s.sender with state := .free, port := none, stageTimer := none, lineupReq := none } ∧
      ((restarted o (taken s x)).port p).activity = .idle := by
  have k := restarted_only o (taken s x)
  have e : restartLineup (attemptEnd .restarted ((taken s x).setOrders [])) =
      (((taken s x).setOrders []).setPort p (leftPort .idle (s.port p))).setSender
        { s.sender with state := .free, port := none, stageTimer := none, lineupReq := none } := by
    rw [attemptEnd_of_none (t := (taken s x).setOrders []) ha]
    have hport : ((taken s x).setOrders []).port p = s.port p := by rw [State.setOrders_port, taken_port]
    rw [restartLineup_releases (s := (taken s x).setOrders []) hl hp (by rw [hport]; exact hc) hn, hport]
    rfl
  refine ⟨Only.trans ?_ (k.mono (by decide)), (k.sender (by decide)).trans ?_, ?_⟩
  · unfold restartAll
    rw [e]
    exact setDrum_only _ (by decide) (setPort_only .b _ (by decide) (setPort_only .a _ (by decide) (setSender_only _ (by decide)
      (setPort_only p _ (portPart_mem p (by decide) (by decide)) (setOrders_only _ (by decide) (setOrders_only _ (by decide)
        (Only.refl _ _)))))))
  · unfold restartAll
    rw [e]
    rfl
  · obtain ⟨l, a, rx, hv, hact⟩ := startReports_placeAnswer_changes o (ackOf o 0)
      (restartAll (ownPort o) (taken s x)) p
    have hidle : ((restartAll (ownPort o) (taken s x)).port p).activity = .idle := by
      rw [restartAll_port_eq, e, State.setSender_port, State.setPort_port_same, (portRestarted_resting _ (Or.inl rfl)).2,
        decide_eq_false fun h => hown ((ownPort_iff ho p).1 h)]
      rfl
    rw [hidle] at hact
    rw [restarted, hv]
    exact hact (by decide)

/-! ### A RESTART that ends the attempt in progress (R146, R155) -/

theorem restarted_ended {s : State} {o : Order} {slot : Nat} (x : Panel) (h : Links s) (ho : s.pics.onDrum = some slot)
    (hs : onDrumState s = .sending) : onDrumState (restarted o (taken s x)) = .finished ∧
      Ended .restarted s (restarted o (taken s x)) ∧ FinishedAs slot .aborted .none s (restarted o (taken s x)) := by
  generalize hu : (taken s x).setOrders [] = u
  have hk : Only [.orders, .panel] s u := hu ▸ setOrders_only _ (by decide) (taken_only s x (by decide) (by decide))
  have hp : attemptInProgress u = true := decide_eq_true ((onDrumState_congr (hk.pics (by decide))).trans hs)
  have hsend : u.sender.state.sendingAttempt = true := by
    rw [hk.sender (by decide), ← h.attempt, attemptInProgress, hs]
    rfl
  have hou : u.pics.onDrum = some slot := by rw [hk.pics (by decide)]; exact ho
  have hended := attemptEnd_ended (outcome := .restarted) (by decide) hp hsend
  have hfin := attemptEnd_finishes finishing_restarted hou (of_decide_eq_true hp)
  have hon := attemptEnd_onDrumState finishing_restarted hou (of_decide_eq_true hp)
  have hrl := restartLineup_off (s := attemptEnd .restarted u) (by rw [hended.tone]; rfl)
  have kv : Only [.portA, .portB, .sender, .drum] (attemptEnd .restarted u) (restarted o (taken s x)) := by
    refine Only.trans ?_ ((restarted_only o (taken s x)).mono (by decide))
    unfold restartAll
    rw [hu, hrl]
    exact setDrum_only _ (by decide) (setPort_only .b _ (by decide) (setPort_only .a _ (by decide)
      (setSender_only _ (by decide) (Only.refl _ _))))
  have hv : (restarted o (taken s x)).sender = { (attemptEnd .restarted u).sender with lineupReq := none } := by
    rw [(restarted_only o (taken s x)).sender (by decide)]
    unfold restartAll
    rw [hu, hrl]
    rfl
  generalize restarted o (taken s x) = v at *
  generalize attemptEnd .restarted u = e at *
  refine ⟨(onDrumState_congr (kv.pics (by decide))).trans hon, ?_, ?_⟩
  · have hport : s.sender.port = u.sender.port := by rw [hk.sender (by decide)]
    have hstore : s.store = u.store := (hk.store (by decide)).symm
    exact ⟨by rw [hv]; exact hended.tone, by rw [hv]; exact hended.held, by rw [hv, hport]; exact hended.port,
      by rw [hv]; exact hended.cadence, by rw [kv.scan (by decide)]; exact hended.scanner,
      by rw [kv.store (by decide), hstore]; exact hended.flushed⟩
  · exact hfin.congr (hk.clock (by decide)).symm (by rw [hk.pics (by decide)]) (hk.slips (by decide)).symm
      (kv.pics (by decide)) (kv.slips (by decide))

/-! ### O48 -/

section settled

variable {s : State} {o : Order} (x : Panel)

theorem restarted_noPortLeft (h : noPortLeft (restarted o (taken s x)) = true) : noPortLeft (s.setPanel x) = true := by
  refine noPortLeft_of (fun p hp => ?_) (fun hg => ?_) h
  · rw [State.setPanel_port, ← taken_port s x]
    exact restarted_inFault hp
  · rcases restarted_onDrumState o (taken s x) with e | e
    exacts [e.symm.trans hg, absurd (e.symm.trans hg) (by decide)]

/-- The ports in the end: the counts 0, a port that does not carry without fault and its list cleared, a port that carries
but for a line-up carrying on (R85). -/
theorem restart_ports (h : HeadOrder .restart o s) (ho : o.broadcast = true → o.reserved = false) (p : PortId) :
    let t := settle (s.setPanel x) (restarted o (taken s x))
    ((t.port p).blockErrors = 0 ∧ (t.port p).echoFailures = 0 ∧ (t.port p).consecEcho = 0 ∧
      ((s.port p).activity ≠ .carrying → (t.port p).cause = .none ∧ (t.port p).list =
        if o.port = p ∧ o.broadcast = false ∧ o.reserved = true then [.report (ackOf o 0)] else [])) ∧
    ((s.port p).activity = .carrying → s.sender.state.inLineup = false → (t.port p).activity = .carrying) := by
  intro t
  have k := settle_carriedOn (s.setPanel x) (restarted o (taken s x)) p
  obtain ⟨c1, c2, c3⟩ := restarted_counts o (taken s x) p
  refine ⟨⟨k.blockErrors.trans c1, k.echoFailures.trans c2, k.consecEcho.trans c3, fun hc => ?_⟩, fun hc hl => ?_⟩
  · have hrest : ((taken s x).port p).activity = .idle ∨ ((taken s x).port p).activity = .answerDue := by
      rw [taken_port]
      have hq := (h.quiet p).1
      cases ha : (s.port p).activity with
      | idle => exact Or.inl rfl
      | answerDue => exact Or.inr rfl
      | reporting => exact absurd ha hq
      | carrying => exact absurd ha hc
    obtain ⟨r1, r2⟩ := restarted_resting ho hrest
    exact ⟨k.cause.trans r1, k.list.trans r2⟩
  · exact k.carrying (restarted_carrying (by rw [taken_port]; exact hc) hl)

/-- With no attempt in progress, no line-up and none about to start. -/
theorem restart_still (ha : attemptInProgress s = false) (hl : s.sender.state.inLineup = false)
    (hg : onDrumState s ≠ .granted ∨ s.lamp.state ≠ .warm) :
    let t := settle (s.setPanel x) (restarted o (taken s x))
    Only [.orders, .portA, .portB, .drum, .sender] (s.setPanel x) t ∧ t.sender = { s.sender with lineupReq := none } ∧
      (LatchDrops s (s.setDrum { s.drum with spinLatch := false }) → t.drum = { s.drum with
        state := .braking, spinLatch := false, modeReq := some .brake, brakingW := (standardInForce s).w
        brakingTimer := some (s.tables.drum.brakeTime * 100000), silenceTimer := some (10 * (standardInForce s).w)
        stallDeadline := none, spinupTimer := none }) ∧
      (¬ LatchDrops s (s.setDrum { s.drum with spinLatch := false }) → t.drum = { s.drum with spinLatch := false }) := by
  intro t
  obtain ⟨k, hsend⟩ := restarted_still (o := o) x ha hl
  have hdrum := restarted_drum o (taken s x)
  have ht : t = settle (s.setPanel x) (restarted o (taken s x)) := rfl
  rw [settle_unlatched k hdrum (restarted_lineupReq o _) (restarted_noPortLeft x) hg] at ht
  clear_value t
  generalize restarted o (taken s x) = v at *
  have hdem : demand v = demand (s.setDrum { s.drum with spinLatch := false }) :=
    demand_congr (by rw [hdrum]; rfl) (onDrumState_congr (k.pics (by decide)))
  have hw : standardInForce v = standardInForce s := by
    simp only [standardInForce, standardAt, standardNumber_congr (k.pics (by decide)), k.tables (by decide)]
    rfl
  obtain ⟨h1, h2⟩ := drumEval_unlatched k hdrum
  obtain ⟨kt, -⟩ := drumEval_unlatched_frame k hdrum
  have hdrop : LatchDrops (s.setPanel x) v ↔ LatchDrops s (s.setDrum { s.drum with spinLatch := false }) := by
    rw [LatchDrops, LatchDrops, hdem]
    rfl
  rw [← ht] at h1 h2 kt
  refine ⟨(k.mono (by decide)).trans (kt.mono (by decide)), (kt.sender (by decide)).trans hsend, fun hd => ?_, fun hd => ?_⟩
  · rw [h1 (hdrop.2 hd), enterBraking, hw, hdrum, k.tables (by decide)]
    rfl
  · rw [h2 fun h => hd (hdrop.1 h), hdrum]
    rfl

/-- With a line-up on a port that carries it (R98). -/
theorem restart_lineup {p : PortId} (ho : o.broadcast = true → o.reserved = false) (ha : attemptInProgress s = false)
    (hl : s.sender.state.inLineup = true) (hp : s.sender.port = some p) (hc : (s.port p).activity = .carrying)
    (hn : s.tables.linePending = none) (hg : onDrumState s ≠ .granted)
    (hown : ¬ (o.port = p ∧ o.broadcast = false ∧ o.reserved = true)) :
    let t := settle (s.setPanel x) (restarted o (taken s x))
    Only [.orders, .portA, .portB, .drum, .sender] (s.setPanel x) t ∧ (t.port p).activity = .idle ∧
      t.sender = { s.sender with state := .free, port := none, stageTimer := none, lineupReq := none } := by
  intro t
  obtain ⟨k, hsend, hidle⟩ := restarted_lineup (o := o) x ho ha hl hp hc hn hown
  have hdrum := restarted_drum o (taken s x)
  have ht : t = settle (s.setPanel x) (restarted o (taken s x)) := rfl
  rw [settle_unlatched k hdrum (restarted_lineupReq o _) (restarted_noPortLeft x) (Or.inl hg)] at ht
  clear_value t
  obtain ⟨kt, -⟩ := drumEval_unlatched_frame k hdrum
  rw [← ht] at kt
  refine ⟨(k.mono (by decide)).trans (kt.mono (by decide)), ?_, (kt.sender (by decide)).trans hsend⟩
  rw [kt.port p (by cases p <;> decide)]
  exact hidle

/-- With an attempt in progress (R146, R155). -/
theorem restart_ends {slot : Nat} (h : Links s) (ho : s.pics.onDrum = some slot) (hs : onDrumState s = .sending) (y : Panel) :
    let t := (settle (s.setPanel x) (restarted o (taken s x))).setPanel y
    Ended .restarted s t ∧ FinishedAs slot .aborted .none s t := by
  intro t
  obtain ⟨hon, hended, hfin⟩ := restarted_ended (o := o) x h ho hs
  have k := settle_unrequested (s0 := s.setPanel x) (v := restarted o (taken s x)) (by rw [hon]; decide)
    (restarted_lineupReq o _)
  have kt : Only [.enc, .drum, .reg, .lamp, .panel] (restarted o (taken s x)) t :=
    setPanel_only _ (by decide) (k.mono (by decide))
  exact ⟨hended.congr rfl rfl (kt.sender (by decide)) (kt.scan (by decide)) (kt.store (by decide)),
    hfin.congr rfl rfl rfl (kt.pics (by decide)) (kt.slips (by decide))⟩

end settled

/-- Settles O48: the ports, what is kept, the three cases. -/
theorem restartClears : Obligations.RestartClears := by
  intro s o h ho own dropped
  refine restart_event h fun x y => ?_
  obtain ⟨k, hreq, hlatch⟩ := settle_restarted s o x
  have kf : Only (attemptParts ++ [.orders, .drum, .enc, .reg, .lamp, .panel]) s
      (settle (s.setPanel x) (restarted o (taken s x))) :=
    ((taken_only (ps := [.orders, .panel]) s x (by decide) (by decide)).mono (by decide)).trans
      (((restarted_frame o (taken s x)).mono (by decide)).trans ((settle_frame _ _).mono (by decide)))
  have horders := ((settle_frame (s.setPanel x) _).orders (by decide)).trans (restarted_orders o (taken s x))
  have hports := restart_ports x h ho
  have hstill := restart_still (s := s) (o := o) x
  have hends := fun slot hl hs hd => restart_ends (s := s) (o := o) (slot := slot) x hl hs hd y
  have hlineup := fun p => restart_lineup (s := s) (o := o) (p := p) x ho
  dsimp only at hports hstill hends hlineup
  generalize settle (s.setPanel x) (restarted o (taken s x)) = w at *
  have hclock : w.clock = s.clock := kf.clock (by decide)
  have hstation : w.station = s.station := kf.station (by decide)
  refine ⟨horders, hlatch, hreq, fun p => ?_,
    ⟨k.drive.pendingDuty, k.drive.activeDuty, k.drive.cycleLen, k.drive.lastFault, k.drive.cutoff, k.head⟩,
    k.records.others, k.records.serial, k.tables.counts, k.tables.accept, k.tables.roster, k.tables.template,
    k.tables.strobe, hclock, hstation, fun p => ?_, fun ha hl hg => ?_, hends,
    fun p hl hp hc hn hg hown ha => ?_⟩
  · rw [State.setPanel_port]
    exact (hports p).1
  · rw [State.setPanel_port]
    exact (hports p).2
  · obtain ⟨kt, hsend, hd⟩ := hstill ha hl hg
    exact ⟨Only.panels x y (by decide) (kt.mono (by decide)), hsend, hd⟩
  · obtain ⟨kt, hidle, hsend⟩ := hlineup p ha hl hp hc hn hg hown
    exact ⟨Only.panels x y (by decide) (kt.mono (by decide)), by rw [State.setPanel_port]; exact hidle, hsend⟩

end Sys2Proof.Machine

/-! ## Orders taken (O38) -/

namespace Sys2Proof.Machine

/-! ### The block an address makes an order (R103, R105, R106) -/

/-- The state in which a good block is taken: its reception has ended. -/
def heard (p : PortId) (s : State) : State := s.setPort p (receptionEnded (s.port p))

theorem heard_setOrders (p : PortId) (s : State) (l : List Order) : (heard p s).setOrders l = heard p (s.setOrders l) := by
  cases p <;> rfl

theorem heard_only (p : PortId) (s : State) : Only [portPart p] s (heard p s) := setPort_only _ _ (by simp) (Only.refl _ _)

theorem heard_list (p q : PortId) (s : State) : ((heard p s).port q).list = (s.port q).list := by
  cases p <;> cases q <;> rfl

theorem acceptEntry_congr {s t : State} (ht : t.tables = s.tables) (hd : t.drum = s.drum) (hh : t.head = s.head)
    (hs : t.sender = s.sender) (k : OrderKind) : acceptEntry t k = acceptEntry s k := by
  have hc : condition t = condition s := by simp only [condition, hd, hh, hs]
  unfold acceptEntry
  rw [ht, hc]

theorem acceptEntry_heard (p : PortId) (s : State) (x : Panel) (k : OrderKind) :
    acceptEntry (heard p (s.setPanel x)) k = acceptEntry s k := by
  refine acceptEntry_congr ?_ ?_ ?_ ?_ k <;> cases p <;> rfl

/-- What a reception changes of its port is in no STATUS (R117). -/
theorem statusPort_receptionEnded (own : Bool) (x : Port) : statusPort own (receptionEnded x) = statusPort own x := by
  unfold statusPort
  by_cases h : own = true ∧ x.activity = .idle
  · rw [if_pos h, if_pos (show own = true ∧ (receptionEnded x).activity = .idle from h)]
    rfl
  · rw [if_neg h, if_neg (show ¬ (own = true ∧ (receptionEnded x).activity = .idle) from h)]
    rfl

theorem statusPayload_heard (p : PortId) (s : State) (x : Panel) :
    statusPayload p (heard p (s.setPanel x)) = statusPayload p s := by
  have k : Only [.portA, .portB, .panel] s (heard p (s.setPanel x)) :=
    setPort_only _ _ (portPart_mem p (by decide) (by decide)) (setPanel_only _ (by decide) (Only.refl _ _))
  have hports : ∀ own, statusPort own (heard p (s.setPanel x)).portA = statusPort own s.portA ∧
      statusPort own (heard p (s.setPanel x)).portB = statusPort own s.portB := fun own => by
    cases p with
    | a => exact ⟨statusPort_receptionEnded own s.portA, congrArg (statusPort own) (rfl : _ = s.portB)⟩
    | b => exact ⟨congrArg (statusPort own) (rfl : _ = s.portA), statusPort_receptionEnded own s.portB⟩
  generalize heard p (s.setPanel x) = t at *
  have hcond : condition t = condition s := by
    rw [condition, condition, k.drum (by decide), k.head (by decide), k.sender (by decide)]
  have hready : readyFlag t = readyFlag s := by
    rw [readyFlag, readyFlag, k.drum (by decide), k.head (by decide), k.lamp (by decide)]
  unfold statusPayload
  rw [(hports _).1, (hports _).2, hcond, hready, k.station (by decide), k.drum (by decide), k.head (by decide),
    k.lamp (by decide), k.sender (by decide), k.orders (by decide), k.pics (by decide), k.slips (by decide),
    k.tables (by decide), k.clock (by decide)]

theorem OrderKind.ofCode_code (k : OrderKind) : OrderKind.ofCode k.code = some k := by
  cases k <;> rfl

theorem OrderKind.code_of_ofCode {b : Byte} {k : OrderKind} (h : OrderKind.ofCode b = some k) : k.code = b :=
  of_decide_eq_true (List.find?_some h :)

/-- The codes of the order kinds are 1 to 11. -/
theorem OrderKind.ofCode_unknown {b : Byte} (h : b = 0 ∨ 0x0B < b.toNat) : OrderKind.ofCode b = none := by
  cases hk : OrderKind.ofCode b with
  | none => rfl
  | some k =>
    have hc := OrderKind.code_of_ofCode hk
    subst hc
    cases k <;> exact absurd h (by decide)

namespace Hearing

variable {s : State} {p : PortId} (h : Hearing p s)
include h

/-- A block to the station's own code is taken as addressed (R103). -/
theorem takes_addressed (kind tag : Byte) {payload : List Byte} (hl : payload.length ≤ 96) (hm : s.station.mute = false)
    (hc : 1 ≤ s.station.code.toNat) (x : Panel) :
    blockTake p (blockBytes (BitVec.ofNat 8 s.station.code.toNat) 63 kind tag payload) (s.setPanel x) =
      takeAddressed p { dest := s.station.code.toNat, src := 63, kind := kind, tag := tag, payload := payload }
        (heard p (s.setPanel x)) := by
  have hlt := s.station.code.isLt
  have hn : (BitVec.ofNat 8 s.station.code.toNat).toNat = s.station.code.toNat :=
    Nat.mod_eq_of_lt (Nat.lt_trans hlt (by decide))
  have hst : (heard p (s.setPanel x)).station = s.station := (heard_only p _).station (by cases p <;> decide)
  rw [(h.setPanel x).takes_good _ _ _ _ hl, hn, ← heard, takeGood, if_neg fun hf => hf rfl,
    if_neg (Nat.pos_iff_ne_zero.1 hc), if_pos (by rw [hst]; exact ⟨hm, rfl⟩)]
  rfl

/-- A block to address 0 is a broadcast (R103). -/
theorem takes_broadcast (kind tag : Byte) {payload : List Byte} (hl : payload.length ≤ 96) (x : Panel) :
    blockTake p (blockBytes 0 63 kind tag payload) (s.setPanel x) =
      takeBroadcast p { dest := 0, src := 63, kind := kind, tag := tag, payload := payload } (heard p (s.setPanel x)) := by
  rw [(h.setPanel x).takes_good _ _ _ _ hl]
  rfl

end Hearing

/-! ### An item that joins the list of a port which has heard a block (R78) -/

/-- The port of a block that has been answered, or whose order waits, at once. -/
def joinedPort (item : RepItem) (x : Port) : Port :=
  { x with list := x.list ++ [item], activity := .answerDue, rx := rxIdle, turn := .running 20000 }

theorem addItem_heard {s : State} {p : PortId} (item : RepItem)
    (ha : (s.port p).activity = .idle ∨ (s.port p).activity = .answerDue) (hl : (s.port p).list.length < 8) :
    addItem p item (heard p s) = s.setPort p (joinedPort item (s.port p)) := by
  have hp : (heard p s).port p = receptionEnded (s.port p) := State.setPort_port_same _ _ _
  unfold addItem
  dsimp only
  rw [hp, if_pos (show (receptionEnded (s.port p)).list.length < 8 from hl), heard, State.setPort_setPort]
  rcases ha with ha | ha <;> simp only [receptionEnded, joinedPort, ha] <;> rfl

theorem addItem_full {s : State} {p : PortId} (item : RepItem) (hl : 8 ≤ (s.port p).list.length) : addItem p item s = s :=
  if_neg (Nat.not_lt.2 hl)

/-- The answer does not start before the turnaround timer's end (R79). -/
theorem answerAtOnce_heard {s : State} {p : PortId} (r : Report)
    (ha : (s.port p).activity = .idle ∨ (s.port p).activity = .answerDue) (hl : (s.port p).list.length < 8) :
    answerAtOnce p r (heard p s) = s.setPort p (joinedPort (.report r) (s.port p)) := by
  rw [answerAtOnce, addItem_heard _ ha hl]
  refine reportStart_off ?_
  rw [State.setPort_port_same]
  simp [Port.reportDue, joinedPort]

/-- A block answered at once (R106). -/
theorem atOnce_event {s : State} {p : PortId} {bytes : List Byte} {r : Report} (h : Hearing p s)
    (hl : (s.port p).list.length < 8)
    (hf : ∀ x, blockTake p bytes (s.setPanel x) = answerAtOnce p r (heard p (s.setPanel x))) :
    ∃ t, exec (.blockTake p bytes) s = .next t ∧ AtOnce p r s t := by
  obtain ⟨t, e, k, hp⟩ := port_event (c := .blockTake p bytes) (f := blockTake p bytes)
    (y := joinedPort (.report r) (s.port p)) rfl (fun x => by
      rw [hf, answerAtOnce_heard r (h.setPanel x).decodes (by rw [State.setPanel_port]; exact hl), State.setPanel_port])
    rfl fun hi => absurd (Port.isIdle_iff.1 hi).2 (by simp [joinedPort])
  exact ⟨t, e, ⟨hp, k⟩⟩

/-- A block whose reception's end is all. -/
theorem unheard_event {s : State} {p : PortId} {bytes : List Byte}
    (hf : ∀ x, blockTake p bytes (s.setPanel x) = heard p (s.setPanel x)) :
    ∃ t, exec (.blockTake p bytes) s = .next t ∧ Only [portPart p, .panel] s t ∧
      t.port p = { s.port p with rx := rxIdle, turn := .running 20000 } :=
  port_event (c := .blockTake p bytes) (f := blockTake p bytes) (y := receptionEnded (s.port p)) rfl
    (fun x => by rw [hf, heard, State.setPanel_port]) rfl id

/-! ### Orders that join the queue (R107) -/

/-- A block whose order joins the queue, its port left as `y`. -/
theorem queued_event {s : State} {p : PortId} {bytes : List Byte} {l : List Order} {y : Port}
    (hf : ∀ x, blockTake p bytes (s.setPanel x) = ((s.setPanel x).setOrders l).setPort p y)
    (cause : y.cause = (s.port p).cause) (idle : y.isIdle = true → (s.port p).isIdle = true) :
    ∃ t, exec (.blockTake p bytes) s = .next t ∧ Only [.orders, portPart p, .panel] s t ∧ t.orders = l ∧ t.port p = y := by
  have hother : ∀ x q, p ≠ q → (((s.setPanel x).setOrders l).setPort p y).port q = s.port q := fun x q hq => by
    rw [State.setPort_port_other _ _ _ _ hq, State.setOrders_port, State.setPanel_port]
  refine ports_event (f := blockTake p bytes) rfl hf
    (fun x => setPort_only _ _ (portPart_mem p (by decide) (by decide)) (setOrders_only _ (by decide) (Only.refl _ _)))
    (fun x q => ?_) (fun x q => ?_) fun x z => ⟨?_, ?_, ?_⟩
  · by_cases hq : p = q
    · subst hq
      rwa [State.setPort_port_same]
    · rw [hother x q hq]
  · by_cases hq : p = q
    · subst hq
      rwa [State.setPort_port_same]
    · rw [hother x q hq]
      exact id
  · exact Only.panels x z (by simp) (setPort_only _ _ (by simp) (setOrders_only _ (by simp) (Only.refl _ _)))
  · rw [State.setPanel_orders, State.setPort_orders, State.setOrders_orders]
  · rw [State.setPanel_port, State.setPort_port_same]

theorem heard_orders (p : PortId) (s : State) : (heard p s).orders = s.orders := State.setPort_orders _ _ _

/-- An addressed order joins the queue; its reservation joins the list, unless that holds 8 (R78, R107). -/
theorem joins_addressed {s : State} {p : PortId} (h : Hearing p s) {k : OrderKind} (tag : Byte) {payload : List Byte}
    (hl : payload.length ≤ 96) (hk : acceptEntry s k = .take) (hq : s.orders.length < 4) (hm : s.station.mute = false)
    (hc : 1 ≤ s.station.code.toNat) :
    ∃ t, exec (.blockTake p (blockBytes (BitVec.ofNat 8 s.station.code.toNat) 63 k.code tag payload)) s = .next t ∧
      Only [.orders, portPart p, .panel] s t ∧
      t.orders = s.orders ++ [
        { port := p, broadcast := false, kind := k, tag := tag, payload := payload
          reserved := decide ((s.port p).list.length < 8) }] ∧
      t.port p = if (s.port p).list.length < 8 then joinedPort .reservation (s.port p) else receptionEnded (s.port p) := by
  refine queued_event (fun x => ?_) ?_ fun hi => ?_
  · have hdest : decide (s.station.code.toNat = 0) = false := decide_eq_false (Nat.pos_iff_ne_zero.1 hc)
    rw [h.takes_addressed _ _ hl hm hc, takeAddressed, OrderKind.ofCode_code]
    dsimp only
    rw [acceptEntry_heard, hk]
    dsimp only
    rw [admission, if_pos (by rw [heard_orders]; exact hq), joinQueue]
    simp only [orderOf, hdest, Bool.not_false, Bool.true_and, Bool.false_eq_true, if_false, heard_list, heard_orders,
      heard_setOrders, State.setPanel_port, State.setPanel_orders]
    by_cases hroom : (s.port p).list.length < 8
    · rw [if_pos hroom, addItem_heard _ (by rw [State.setOrders_port]; exact (h.setPanel x).decodes)
        (by rw [State.setOrders_port, State.setPanel_port]; exact hroom), State.setOrders_port, State.setPanel_port]
    · rw [if_neg hroom, addItem_full _ (by
        rw [heard_list, State.setOrders_port, State.setPanel_port]; exact Nat.not_lt.1 hroom), heard, State.setOrders_port,
        State.setPanel_port]
  · split <;> rfl
  · split at hi
    · exact absurd (Port.isIdle_iff.1 hi).2 (by simp [joinedPort])
    · exact hi

theorem broadcastKind_iff (k : OrderKind) : broadcastKind k = true ↔ k = .load ∨ k = .clock ∨ k = .restart := by
  cases k <;> decide

/-- A broadcast LOAD, CLOCK or RESTART joins the queue without a reservation (R105). -/
theorem joins_broadcast {s : State} {p : PortId} (h : Hearing p s) {k : OrderKind} (tag : Byte) {payload : List Byte}
    (hl : payload.length ≤ 96) (hk : acceptEntry s k = .take) (hq : s.orders.length < 4)
    (hb : k = .load ∨ k = .clock ∨ k = .restart) :
    ∃ t, exec (.blockTake p (blockBytes 0 63 k.code tag payload)) s = .next t ∧
      Only [.orders, portPart p, .panel] s t ∧
      t.orders = s.orders ++ [
        { port := p, broadcast := true, kind := k, tag := tag, payload := payload, reserved := false }] ∧
      t.port p = receptionEnded (s.port p) := by
  refine queued_event (fun x => ?_) rfl id
  rw [h.takes_broadcast _ _ hl, takeBroadcast, OrderKind.ofCode_code]
  dsimp only
  rw [if_pos ⟨(broadcastKind_iff k).2 hb, (acceptEntry_heard _ _ _ _).trans hk⟩, admission,
    if_pos (by rw [heard_orders]; exact hq), joinQueue]
  simp only [orderOf, decide_true, Bool.not_true, Bool.false_and, if_true, heard_orders, heard_setOrders,
    State.setPanel_orders]
  rw [heard, State.setOrders_port, State.setPanel_port]

/-! ### Blocks answered at once (R106, R107) -/

section answered

variable {s : State} {p : PortId} (h : Hearing p s) (tag : Byte) {payload : List Byte} (hl : payload.length ≤ 96)
  (hroom : (s.port p).list.length < 8) (hm : s.station.mute = false) (hc : 1 ≤ s.station.code.toNat)
include h hl hroom hm hc

theorem answers_unknown {kind : Byte} (hk : kind = 0 ∨ 0x0B < kind.toNat) :
    ∃ t, exec (.blockTake p (blockBytes (BitVec.ofNat 8 s.station.code.toNat) 63 kind tag payload)) s = .next t ∧
      AtOnce p ⟨.refuse, tag, [tag, kind, 4]⟩ s t := by
  refine atOnce_event h hroom fun x => ?_
  rw [h.takes_addressed _ _ hl hm hc, takeAddressed, OrderKind.ofCode_unknown hk]
  rfl

theorem answers_refused {k : OrderKind} (hk : acceptEntry s k = .refuse) :
    ∃ t, exec (.blockTake p (blockBytes (BitVec.ofNat 8 s.station.code.toNat) 63 k.code tag payload)) s = .next t ∧
      AtOnce p ⟨.refuse, tag, [tag, k.code, 1]⟩ s t := by
  refine atOnce_event h hroom fun x => ?_
  rw [h.takes_addressed _ _ hl hm hc, takeAddressed, OrderKind.ofCode_code]
  dsimp only
  rw [acceptEntry_heard, hk]
  rfl

theorem answers_busy {k : OrderKind} (hk : acceptEntry s k = .busy) :
    ∃ t, exec (.blockTake p (blockBytes (BitVec.ofNat 8 s.station.code.toNat) 63 k.code tag payload)) s = .next t ∧
      AtOnce p ⟨.busy, tag, [tag, k.code, 2]⟩ s t := by
  refine atOnce_event h hroom fun x => ?_
  rw [h.takes_addressed _ _ hl hm hc, takeAddressed, OrderKind.ofCode_code]
  dsimp only
  rw [acceptEntry_heard, hk]
  rfl

omit hroom in
/-- An order that is taken at a full queue (R107). -/
theorem takes_at_full {k : OrderKind} (hk : acceptEntry s k = .take) (hq : 4 ≤ s.orders.length) (x : Panel) :
    blockTake p (blockBytes (BitVec.ofNat 8 s.station.code.toNat) 63 k.code tag payload) (s.setPanel x) =
      takeAtFull { port := p, broadcast := false, kind := k, tag := tag, payload := payload, reserved := false }
        (heard p (s.setPanel x)) := by
  have hdest : decide (s.station.code.toNat = 0) = false := decide_eq_false (Nat.pos_iff_ne_zero.1 hc)
  rw [h.takes_addressed _ _ hl hm hc, takeAddressed, OrderKind.ofCode_code]
  dsimp only
  rw [acceptEntry_heard, hk]
  dsimp only
  rw [admission, if_neg (by rw [heard_orders]; exact Nat.not_lt.2 hq), orderOf, hdest]

theorem answers_full {k : OrderKind} (hk : acceptEntry s k = .take) (hq : 4 ≤ s.orders.length) (hp : k ≠ .poll)
    (hr : k ≠ .restart) :
    ∃ t, exec (.blockTake p (blockBytes (BitVec.ofNat 8 s.station.code.toNat) 63 k.code tag payload)) s = .next t ∧
      AtOnce p ⟨.busy, tag, [tag, k.code, 3]⟩ s t := by
  refine atOnce_event h hroom fun x => ?_
  rw [takes_at_full h tag hl hm hc hk hq]
  cases k with
  | poll => exact absurd rfl hp
  | restart => exact absurd rfl hr
  | _ => rfl

end answered

theorem answers_poll {s : State} {p : PortId} (h : Hearing p s) (tag : Byte) (hroom : (s.port p).list.length < 8)
    (hm : s.station.mute = false) (hc : 1 ≤ s.station.code.toNat) (hq : 4 ≤ s.orders.length) :
    ∃ t, exec (.blockTake p (blockBytes (BitVec.ofNat 8 s.station.code.toNat) 63 OrderKind.poll.code tag [])) s = .next t ∧
      AtOnce p ⟨.status, tag, statusPayload p s⟩ s t := by
  refine atOnce_event h hroom fun x => ?_
  rw [takes_at_full h tag (Nat.zero_le _) hm hc rfl hq]
  exact congrArg (fun b => answerAtOnce p (statusReport tag b) (heard p (s.setPanel x))) (statusPayload_heard p s x)

/-! ### Broadcasts that are ignored or dropped (R105, R107) -/

/-- A kind that no broadcast may have. -/
theorem ignores_kind {s : State} {p : PortId} {b : Block}
    (h : ¬ (b.kind = OrderKind.load.code ∨ b.kind = OrderKind.clock.code ∨ b.kind = OrderKind.restart.code)) :
    takeBroadcast p b s = s := by
  unfold takeBroadcast
  cases hk : OrderKind.ofCode b.kind with
  | none => rfl
  | some k =>
    refine if_neg fun hf => h ?_
    rw [← OrderKind.code_of_ofCode hk]
    rcases (broadcastKind_iff k).1 hf.1 with rfl | rfl | rfl
    exacts [Or.inl rfl, Or.inr (Or.inl rfl), Or.inr (Or.inr rfl)]

/-- A broadcast that finds the queue full. -/
theorem drops_at_full {s : State} {p : PortId} {b : Block} (hr : b.kind ≠ OrderKind.restart.code) (hd : b.dest = 0)
    (hq : 4 ≤ s.orders.length) : takeBroadcast p b s = s := by
  unfold takeBroadcast
  cases hk : OrderKind.ofCode b.kind with
  | none => rfl
  | some k =>
    dsimp only
    split
    · rename_i hf
      have hb : (orderOf p k b).broadcast = true := decide_eq_true hd
      rw [admission, if_neg (Nat.not_lt.2 hq)]
      rcases (broadcastKind_iff k).1 hf.1 with rfl | rfl | rfl
      · exact if_pos hb
      · exact if_pos hb
      · exact absurd (OrderKind.code_of_ofCode hk).symm hr
    · rfl

/-- A broadcast that the acceptance table does not take. -/
theorem drops_untaken {s : State} {p : PortId} {b : Block} {k : OrderKind} (hk : b.kind = k.code)
    (ha : acceptEntry s k ≠ .take) : takeBroadcast p b s = s := by
  unfold takeBroadcast
  rw [hk, OrderKind.ofCode_code]
  exact if_neg fun hf => ha hf.2

theorem drops_broadcast {s : State} {p : PortId} (h : Hearing p s) {kind : Byte} (tag : Byte) {payload : List Byte}
    (hl : payload.length ≤ 96)
    (hd : ¬ (kind = OrderKind.load.code ∨ kind = OrderKind.clock.code ∨ kind = OrderKind.restart.code) ∨
      (kind ≠ OrderKind.restart.code ∧ 4 ≤ s.orders.length) ∨
      (∃ k ∈ [OrderKind.load, .clock], kind = k.code ∧ acceptEntry s k ≠ .take)) :
    ∃ t, exec (.blockTake p (blockBytes 0 63 kind tag payload)) s = .next t ∧ Only [portPart p, .panel] s t ∧
      t.port p = { s.port p with rx := rxIdle, turn := .running 20000 } := by
  refine unheard_event fun x => ?_
  rw [h.takes_broadcast _ _ hl]
  rcases hd with hd | ⟨hr, hq⟩ | ⟨k, -, hk, ha⟩
  · exact ignores_kind hd
  · exact drops_at_full hr rfl (by rw [heard_orders]; exact hq)
  · exact drops_untaken hk (by rw [acceptEntry_heard]; exact ha)

/-! ### An order whose payload fails the length check of its kind (R109, R179) -/

/-- The execution of such an order at the head of the queue. -/
theorem executeHead_badLength {s : State} {o : Order} (owner : Order → State → State × Verdict)
    (ho : s.orders.head? = some o) (hl : lengthOk o.kind o.payload = false)
    (hq : ∀ p, (s.port p).activity ≠ .reporting ∧ (s.port p).rx.state = .hunting) (x : Panel) :
    executeHead o.kind owner (s.setPanel x) =
      startReports (placeAnswer o (refuseReport o.tag o.kind.code .badTableData) (taken s x)) := by
  obtain ⟨rest, hr⟩ : ∃ rest, s.orders = o :: rest := List.head?_eq_some_iff.1 ho
  have ht : taken s x = (s.setPanel x).setOrders rest := by rw [taken, hr, List.tail_cons]
  unfold executeHead
  rw [State.setPanel_orders, hr]
  dsimp only
  rw [if_pos ⟨eligible_of hq, rfl⟩, executeOrder, if_neg (by rw [hl]; decide), ht]

/-- How each order's command executes the head of the queue. -/
theorem orderCommand_executes (k : OrderKind) (s : State) :
    ∃ owner, exec (orderCommand k) s = .next (event (executeHead k owner) s) ∨
      exec (orderCommand k) s = .next (shown (executeHead k owner) s) ∨
      exec (orderCommand k) s = .next (executeHead k owner s) := by
  cases k with
  | poll => exact ⟨ownPoll, Or.inr (Or.inr rfl)⟩
  | slip => exact ⟨ownSlip, Or.inr (Or.inr rfl)⟩
  | clock => exact ⟨ownClock, Or.inr (Or.inl rfl)⟩
  | grant => exact ⟨ownGrant, Or.inl rfl⟩
  | cancel => exact ⟨ownCancel, Or.inl rfl⟩
  | receipt => exact ⟨ownReceipt, Or.inl rfl⟩
  | load => exact ⟨ownLoad, Or.inl rfl⟩
  | lineup => exact ⟨ownLineup, Or.inl rfl⟩
  | lineClear => exact ⟨ownLineClear, Or.inl rfl⟩
  | mechClear => exact ⟨ownMechClear, Or.inl rfl⟩
  | restart => exact ⟨ownRestart, Or.inl rfl⟩

theorem badLength_refused {s : State} {o : Order} (ho : s.orders.head? = some o) (hl : lengthOk o.kind o.payload = false)
    (hq : ∀ p, (s.port p).activity ≠ .reporting ∧ (s.port p).rx.state = .hunting) :
    ∃ t, exec (orderCommand o.kind) s = .next t ∧ Refused o .badTableData s t := by
  obtain ⟨owner, hc⟩ := orderCommand_executes o.kind s
  have hex := executeHead_badLength owner ho hl hq
  have posted := fun x => startReports_placeAnswer o (refuseReport o.tag o.kind.code .badTableData) (taken s x)
  have refused : ∀ x y, Refused o .badTableData s ((executeHead o.kind owner (s.setPanel x)).setPanel y) := fun x y => by
    obtain ⟨a, b, e, hp⟩ := posted x
    rw [hex, e]
    exact ⟨hp.answered (fun p => by rw [taken_port]) rfl fun p => by rw [State.setPanel_port],
      setPanel_only _ (by decide) (ported_only a b (by decide) (by decide) (taken_only s x (by decide) (by decide)))⟩
  rcases hc with hc | hc | hc
  · refine ports_event hc (fun x => rfl) (fun x => ?_) (fun x p => ?_) (fun x p => ?_) refused
    all_goals
      obtain ⟨a, b, e, hp⟩ := posted x
      rw [hex, e]
    · exact ported_only a b (by decide) (by decide) (setOrders_only _ (by decide) (Only.refl _ _))
    · rw [hp.cause, taken_port]
    · rw [hp.idle, taken_port]
      exact id
  · exact shown_next hc refused
  · exact ⟨_, hc, refused s.panel (executeHead o.kind owner s).panel⟩

/-! ### A RESTART at a full queue (R85, R107, R112) -/

section cleared

variable {s : State} {p : PortId}

/-- What a RESTART executed at its take leaves to the evaluations. -/
structure ClearedBy (s v : State) : Prop where
  frame : Only [.orders, .portA, .portB, .sender, .drum] s v
  orders : v.orders = []
  drum : v.drum = { s.drum with spinLatch := false }
  sender : v.sender = { s.sender with lineupReq := none }

theorem restartAll_clears (p : PortId) (ha : attemptInProgress s = false) (hl : s.sender.state.inLineup = false) :
    ClearedBy s (restartAll none (heard p s)) ∧
      ∀ q, (restartAll none (heard p s)).port q = portRestarted false ((heard p s).port q) := by
  have k := heard_only p s
  have hp : (heard p s).pics = s.pics := k.pics (by cases p <;> decide)
  have hs : (heard p s).sender = s.sender := k.sender (by cases p <;> decide)
  have e := restartAll_still none (s := heard p s) (by rw [attemptInProgress_congr hp]; exact ha) (by rw [hs]; exact hl)
  refine ⟨⟨?_, restartAll_orders _ _, ?_, ?_⟩, fun q => ?_⟩
  · rw [e]
    exact setDrum_only _ (by decide) (ported_only _ _ (by decide) (by decide) (setSender_only _ (by decide)
      (setOrders_only _ (by decide) (setPort_only _ _ (portPart_mem p (by decide) (by decide)) (Only.refl _ _)))))
  · rw [restartAll_drum, k.drum (by cases p <;> decide)]
  · rw [e, hs]
    rfl
  · rw [e]
    cases q <;> rfl

/-- Such a RESTART as a command: the evaluations change of the drive what the latch's clearing brings, and nothing else. -/
theorem cleared_event {bytes : List Byte} {v : Panel → State} {P : State → Prop} (ho : onDrumState s ≠ .granted)
    (hf : ∀ x, blockTake p bytes (s.setPanel x) = v x) (hv : ∀ x, ClearedBy (s.setPanel x) (v x))
    (hP : ∀ x (t : State), t.orders = [] → t.drum.spinLatch = false → t.sender = { s.sender with lineupReq := none } →
      (∀ q, t.port q = (v x).port q) → P t) : ∃ t, exec (.blockTake p bytes) s = .next t ∧ P t := by
  refine event_next (f := blockTake p bytes) rfl fun x y => ?_
  obtain ⟨k, horders, hdrum, hsend⟩ := hv x
  have hq : (v x).sender.lineupReq = none := by rw [hsend]
  have hg : onDrumState (v x) ≠ .granted := by rwa [onDrumState_congr (k.pics (by decide))]
  have hn : noPortLeft (v x) = true → noPortLeft (s.setPanel x) = true := fun h =>
    absurd ((noPortLeft_of_not_granted hg).symm.trans h) (by decide)
  have hset := settle_unlatched k hdrum hq hn (Or.inl ho)
  have hkept := (settle_kept hq hn (demand_of (by rw [hdrum]) (Or.inl (onDrumState_congr (k.pics (by decide)))))
    (by rw [hdrum]) (k.pins (by decide))).1
  obtain ⟨kd, -⟩ := drumEval_unlatched_frame k hdrum
  have hlatch := hkept.drive.latch (by rw [hdrum])
  rw [← hset] at kd
  rw [hf]
  generalize settle (s.setPanel x) (v x) = w at *
  refine hP x _ ?_ hlatch ?_ fun q => ?_
  · exact (kd.orders (by decide)).trans horders
  · exact (kd.sender (by decide)).trans hsend
  · rw [State.setPanel_port, kd.port q (by cases q <;> decide)]

/-- The port that hears a RESTART at a full queue, once it is executed: its list is empty. -/
theorem heard_restarted (ha : (s.port p).activity = .idle ∨ (s.port p).activity = .answerDue) :
    (portRestarted false ((heard p s).port p)).cause = .none ∧ (portRestarted false ((heard p s).port p)).activity = .idle ∧
      (portRestarted false ((heard p s).port p)).list = [] ∧
      (portRestarted false ((heard p s).port p)).turn = .running 20000 := by
  rw [heard, State.setPort_port_same]
  have ha' : (receptionEnded (s.port p)).activity = .idle ∨ (receptionEnded (s.port p)).activity = .answerDue := ha
  obtain ⟨hlist, hact⟩ := portRestarted_resting false ha'
  refine ⟨?_, hact, hlist, ?_⟩
  · rw [portRestarted_cause, if_neg]
    rcases ha' with h | h <;> rw [h] <;> decide
  · unfold portRestarted
    split <;> rfl

/-- A port that sends a report goes on with it, and keeps nothing else on its list (R85). -/
theorem reporting_restarted {q : PortId} (h : (s.port q).activity = .reporting) (hq : p ≠ q) :
    (portRestarted false ((heard p s).port q)).activity = .reporting ∧
      (portRestarted false ((heard p s).port q)).list = (s.port q).list.take 1 := by
  rw [heard, State.setPort_port_other _ _ _ _ hq]
  refine ⟨(portRestarted_activity false (Or.inr h)).trans h, ?_⟩
  rw [portRestarted_list false (by rw [h]; decide), restartList, if_pos h]
  exact List.append_nil _

end cleared

/-- A RESTART that is executed at its take, whatever it leaves on the port that heard it. -/
structure ClearedAt (s t : State) : Prop where
  orders : t.orders = []
  latch : t.drum.spinLatch = false
  sender : t.sender = { s.sender with lineupReq := none }
  ports : ∀ q, (t.port q).blockErrors = 0 ∧ (t.port q).echoFailures = 0 ∧ (t.port q).consecEcho = 0 ∧
    ((s.port q).activity = .reporting → (t.port q).activity = .reporting ∧ (t.port q).list = (s.port q).list.take 1)

/-- A port whose list holds one formed report alone. -/
def soleAnswer (r : Report) (x : Port) : Port := { x with list := [.report r], activity := .answerDue }

section taken

variable {s : State} {p : PortId} (h : Hearing p s) (ha : attemptInProgress s = false)
  (hl : s.sender.state.inLineup = false) (ho : onDrumState s ≠ .granted) (hq : 4 ≤ s.orders.length) (tag : Byte)
include h

/-- The ports of a RESTART at a full queue, of which the one that heard it may have got an answer. -/
theorem cleared_ports {x : Panel} {t : State}
    (hp : (t.port p).blockErrors = 0 ∧ (t.port p).echoFailures = 0 ∧ (t.port p).consecEcho = 0)
    (hother : ∀ q, p ≠ q → t.port q = portRestarted false ((heard p (s.setPanel x)).port q)) (q : PortId) :
    (t.port q).blockErrors = 0 ∧ (t.port q).echoFailures = 0 ∧ (t.port q).consecEcho = 0 ∧
      ((s.port q).activity = .reporting → (t.port q).activity = .reporting ∧ (t.port q).list = (s.port q).list.take 1) := by
  by_cases hpq : p = q
  · subst hpq
    obtain ⟨h1, h2, h3⟩ := hp
    refine ⟨h1, h2, h3, fun hr => ?_⟩
    rcases h.decodes with hd | hd <;> exact absurd (hr.symm.trans hd) (by decide)
  · obtain ⟨h1, h2, h3⟩ := portRestarted_counts false ((heard p (s.setPanel x)).port q)
    rw [hother q hpq]
    refine ⟨h1, h2, h3, fun hr => ?_⟩
    have k := reporting_restarted (s := s.setPanel x) (p := p) (q := q) (by rw [State.setPanel_port]; exact hr) hpq
    rw [State.setPanel_port] at k
    exact k

include ha hl ho hq

theorem restart_taken_broadcast :
    ∃ t, exec (.blockTake p (blockBytes 0 63 OrderKind.restart.code tag [])) s = .next t ∧ ClearedAt s t ∧
      (t.port p).cause = .none ∧ (t.port p).activity = .idle ∧ (t.port p).list = [] := by
  have clears := fun x => restartAll_clears (s := s.setPanel x) p ha hl
  refine cleared_event (v := fun x => restartAll none (heard p (s.setPanel x))) ho (fun x => ?_)
    (fun x => (clears x).1) fun x t horders hlatch hsend hport => ?_
  · rw [h.takes_broadcast _ _ (Nat.zero_le _), takeBroadcast, OrderKind.ofCode_code]
    dsimp only
    rw [if_pos ⟨rfl, rfl⟩, admission, if_neg (by rw [heard_orders]; exact Nat.not_lt.2 hq)]
    rfl
  · have hp : ∀ q, t.port q = portRestarted false ((heard p (s.setPanel x)).port q) := fun q =>
      (hport q).trans ((clears x).2 q)
    obtain ⟨r1, r2, r3, -⟩ := heard_restarted (h.setPanel x).decodes
    refine ⟨⟨horders, hlatch, hsend, cleared_ports h ?_ fun q _ => hp q⟩, ?_, ?_, ?_⟩ <;> rw [hp p]
    exacts [portRestarted_counts _ _, r1, r2, r3]

theorem restart_taken_addressed (hm : s.station.mute = false) (hc : 1 ≤ s.station.code.toNat) :
    ∃ t, exec (.blockTake p (blockBytes (BitVec.ofNat 8 s.station.code.toNat) 63 OrderKind.restart.code tag [])) s = .next t ∧
      ClearedAt s t ∧ (t.port p).cause = .none ∧ (t.port p).activity = .answerDue ∧
      (t.port p).turn = .running 20000 ∧ (t.port p).list = [.report ⟨.ack, tag, [tag, OrderKind.restart.code, 0]⟩] := by
  have clears := fun x => restartAll_clears (s := s.setPanel x) p ha hl
  have answers : ∀ x r, answerAtOnce p r (restartAll none (heard p (s.setPanel x))) =
      (restartAll none (heard p (s.setPanel x))).setPort p
        (soleAnswer r (portRestarted false ((heard p (s.setPanel x)).port p))) := fun x r => by
    obtain ⟨-, r2, r3, r4⟩ := heard_restarted (h.setPanel x).decodes
    have hp := (clears x).2 p
    unfold answerAtOnce addItem
    dsimp only
    rw [hp, r3, if_pos (by decide), if_pos r2]
    refine reportStart_off ?_
    rw [State.setPort_port_same]
    simp [Port.reportDue, r4]
  refine cleared_event (v := fun x => (restartAll none (heard p (s.setPanel x))).setPort p
      (soleAnswer ⟨.ack, tag, [tag, OrderKind.restart.code, 0]⟩ (portRestarted false ((heard p (s.setPanel x)).port p))))
    ho (fun x => ?_) (fun x => ?_) fun x t horders hlatch hsend hport => ?_
  · rw [takes_at_full h tag (Nat.zero_le _) hm hc rfl hq]
    exact answers x _
  · obtain ⟨k, horders, hdrum, hsend⟩ := (clears x).1
    exact ⟨setPort_only _ _ (portPart_mem p (by decide) (by decide)) k, by rw [State.setPort_orders]; exact horders,
      by rw [State.setPort_drum]; exact hdrum, by rw [State.setPort_sender]; exact hsend⟩
  · have hp := hport p
    rw [State.setPort_port_same] at hp
    obtain ⟨r1, -, -, r4⟩ := heard_restarted (h.setPanel x).decodes
    refine ⟨⟨horders, hlatch, hsend, cleared_ports h (x := x) ?_ fun q hq => ?_⟩, ?_, ?_, ?_, ?_⟩
    · rw [hp]
      exact portRestarted_counts _ _
    · rw [hport, State.setPort_port_other _ _ _ _ hq]
      exact (clears x).2 q
    all_goals rw [hp]
    exacts [r1, rfl, r4, rfl]

end taken

/-! ### O38 -/

/-- Settles O38: the orders that join, the answers at once, the RESTART at a full queue, the broadcasts that come to nothing,
the payload of a wrong length. -/
theorem ordersTaken : Obligations.OrdersTaken := by
  refine ⟨fun s p k tag payload h hl hk hq => ⟨fun hm hc => ?_, fun hb => joins_broadcast h tag hl hk hq hb⟩,
    fun s p tag payload h hl hroom hm hc => ?_, fun s p tag h hq ha hl ho => ?_,
    fun s p kind tag payload h hl => drops_broadcast h tag hl, fun s o ho hl hq => badLength_refused ho hl hq⟩
  · obtain ⟨t, e, k1, k2, k3⟩ := joins_addressed h tag hl hk hq hm hc
    exact ⟨t, e, k1, k2, fun hr => k3.trans (if_pos hr), fun hr => k3.trans (if_neg (Nat.not_lt.2 hr))⟩
  · intro bytes
    refine ⟨fun kind hk => answers_unknown h tag hl hroom hm hc hk, fun k hk => answers_refused h tag hl hroom hm hc hk,
      fun k hk => answers_busy h tag hl hroom hm hc hk,
      fun k hk hq hp hr => answers_full h tag hl hroom hm hc hk hq hp hr, fun hq hpay => ?_⟩
    subst hpay
    exact answers_poll h tag hroom hm hc hq
  · intro cleared
    refine ⟨fun hm hc => ?_, ?_⟩
    · obtain ⟨t, e, ⟨c1, c2, c3, c4⟩, k⟩ := restart_taken_addressed h ha hl ho hq tag hm hc
      exact ⟨t, e, ⟨c1, c2, c3, c4⟩, k⟩
    · obtain ⟨t, e, ⟨c1, c2, c3, c4⟩, k⟩ := restart_taken_broadcast h ha hl ho hq tag
      exact ⟨t, e, ⟨c1, c2, c3, c4⟩, k⟩

end Sys2Proof.Machine
